-- ==== Sys2Proof/Word.lean ====
section
/-! DEFINITION. The word types of the S2460 (spec/00_scope.md, Conventions). -/

namespace Sys2Proof

/-- A word is 32 bits; every link beat and every store word is one. -/
abbrev Word := BitVec 32

/-- The low 16 bits of a table word, and one modulator drive (R134, R123). -/
abbrev Half := BitVec 16

/-- Byte `k` of a word holds its bits 8k+7..8k (spec/11_word_and_record_layouts.md). -/
abbrev Byte := BitVec 8

/-- The four byte enables of a beat; enable `k` covers byte `k`. -/
abbrev Enables := BitVec 4

/-- Ticks of the 100 MHz reference clock, counted from the model's start (10 ns each). -/
abbrev Tick := Nat

end Sys2Proof
end

