-- ==== Sys2Proof/Syntax.lean ====
section
/-! DEFINITION. The commands of the S2460: one constructor per row of spec/opcode_table.json. -/

namespace Sys2Proof

/-- The sixteen event sources of R172, in index order. -/
inductive Source where
  | slotReady | frameDone | frameFault | commandDone | coverageLost | writeLocked | partialPixel | tableStale
  | tableClamp | scanUnlocked | facetSlip | lineLate | interlockOpen | integrity | linkFault | gateStuck
deriving DecidableEq, Repr

/-- The index of an event source (R172). -/
def Source.index : Source → Fin 16
  | .slotReady => 0 | .frameDone => 1 | .frameFault => 2 | .commandDone => 3
  | .coverageLost => 4 | .writeLocked => 5 | .partialPixel => 6 | .tableStale => 7
  | .tableClamp => 8 | .scanUnlocked => 9 | .facetSlip => 10 | .lineLate => 11
  | .interlockOpen => 12 | .integrity => 13 | .linkFault => 14 | .gateStuck => 15

/-- The level sources of R172: SCAN_UNLOCKED and INTERLOCK_OPEN. Every other source is a pulse source. -/
def Source.isLevel : Source → Bool
  | .scanUnlocked | .interlockOpen => true
  | _ => false

/-- The eight protected memories of R162, in index order. -/
inductive Mem where
  | stockA | stockB | modR | modG | modB | facet | bank0 | bank1
deriving DecidableEq, Repr

/-- The index of a protected memory (R162). -/
def Mem.index : Mem → Fin 8
  | .stockA => 0 | .stockB => 1 | .modR => 2 | .modG => 3
  | .modB => 4 | .facet => 5 | .bank0 => 6 | .bank1 => 7

/-- How a held word is damaged, as its next read finds it (R162): a single flipped bit, which the read corrects
(R164), or worse, where the read delivers `bits`, the word as it stands (R165). -/
inductive Harm where
  | correctable
  | uncorrectable (bits : Word)
deriving DecidableEq, Repr

/-- Damage to one entry of one protected memory. -/
structure Damage where
  mem : Mem
  entry : Nat
  harm : Harm
deriving DecidableEq, Repr

/-- The levels of the two size straps, true for high (R150). -/
structure Straps where
  size1 : Bool
  size0 : Bool
deriving DecidableEq, Repr

/-- The 55 steps of spec/opcode_table.json. `dt` is the number of ticks between the step before and this one
(log 1); the expiry of a timer carries none, since its tick is the timer's end. `arisen` lists the damage that has
arisen in the protected memories by the time of a step that reads them (log 8). `lselLow` is whether LSEL is low as
the part comes out of a reset (R44, R45). -/
inductive Instr where
  -- supply and reset
  | powerOn (dt : Nat) (straps : Straps) (gate interlock lselLow : Bool)
  | rstAssert (dt : Nat)
  | rstRelease (dt : Nat) (straps : Straps) (lselLow : Bool)
  -- store link
  | linkHeader (dt : Nat) (word1 word2 : Word)
  | readAdmit (dt : Nat)
  | writeAdmit (dt : Nat)
  | writeBeat (dt : Nat) (data : Word) (enables : Enables)
  | readBeat (dt : Nat)
  | lselRise (dt : Nat)
  -- store controller
  | storeInitEnd
  | refreshDue
  | refreshDone (dt : Nat)
  | readSegmentDone (dt : Nat)
  | placementUnitEnd (dt : Nat)
  | feederSegmentDone (dt : Nat)
  | reloadSegmentDone (dt : Nat)
  -- placement of the head beat of the placement unit
  | noEnableBeat (dt : Nat)
  | placePictureWord (dt : Nat) (arisen : List Damage)
  | storePlainWord (dt : Nat)
  | statusPageWrite (dt : Nat)
  | tableWordWrite (dt : Nat)
  | stagingWrite (dt : Nat)
  | eventSettingsWrite (dt : Nat)
  | auxFunctionWrite (dt : Nat)
  | malformedCommand (dt : Nat)
  | unknownCommand (dt : Nat)
  -- placement of a command word, one row per command
  | describe (dt : Nat)
  | sealSlot (dt : Nat)
  | withdraw (dt : Nat)
  | release (dt : Nat)
  | reload (dt : Nat)
  | run (dt : Nat)
  | halt (dt : Nat)
  | abort (dt : Nat)
  | scanApply (dt : Nat)
  | clearScanStats (dt : Nat)
  | clearEvents (dt : Nat)
  | monitorStep (dt : Nat)
  | monitorStop (dt : Nat)
  -- scanner
  | sos (dt : Nat)
  | home (dt : Nat)
  | silenceExpiry
  -- exposure
  | fetchBegin (dt : Nat)
  | pixelDrive (dt : Nat) (arisen : List Damage)
  | gateFall (dt : Nat)
  | gateRise (dt : Nat)
  | interlockOpen (dt : Nat)
  | interlockClose (dt : Nat)
  | gateReleaseExpiry
  | donePulseEnd
  -- event unit timers
  | pulseStretchEnd (source : Source)
  | sweepPulseEnd
  | frameStartPulseEnd
  | activityExpiry
  | activityBlinkToggle
deriving DecidableEq, Repr

end Sys2Proof
end

