-- ==== Sys2Proof/Config.lean ====
section
/-! DEFINITION. What the silicon fixes (numbers the spec states) and the one free value. -/

namespace Sys2Proof.Config

/-- Varpidel vendor code (section 11.5, group 0). -/
def vendorCode : Nat := 0x0D57
/-- Part code (section 11.5, group 0). -/
def partCode : Nat := 0x2460
/-- Silicon revision, 1 for the silicon the manual describes (section 11.5, group 0). -/
def siliconRevision : Nat := 1

/-- Ticks in a millisecond (00_scope.md, Time; R130). -/
def msTicks : Nat := 100000
/-- The 10 µs pulses: DONE (R129), pulse stretches (R172), SWEEP and FRAME_START (R179). -/
def pulseTicks : Nat := 1000
/-- Store initialisation (R153). -/
def storeInitTicks : Nat := 20000
/-- Interval between refresh dues (R154). -/
def refreshTicks : Nat := 780
/-- Hold of the activity envelope, 120 ms (R180). -/
def activityTicks : Nat := 12000000
/-- Half a blink cycle, 100 ms (R180). -/
def blinkTicks : Nat := 10000000

/-- Words of a store page (R151). -/
def pageWords : Nat := 512
/-- Words of the control region (R133). -/
def controlWords : Nat := 262144
/-- Words of the status page (R133, R149). -/
def statusWords : Nat := 1024
/-- Beats the Write Queue holds at most (R38). -/
def queueBeats : Nat := 256
/-- Beats a write transaction may carry into the queue (R36). -/
def burstBeats : Nat := 64
/-- Beats of a placement unit at most (R34). -/
def unitBeats : Nat := 16
/-- Entries of the shared run pool (R47). -/
def poolEntries : Nat := 48
/-- Words of a reload segment at most (R140). -/
def reloadWords : Nat := 64

/-- FREE VALUE (R152, log 6): what store byte `cell` holds after the `epoch`-th power-on until it is written.
Nothing constrains it; it is the same at every read between two power-ons. -/
opaque undefinedByte (epoch cell : Nat) : Byte

end Sys2Proof.Config
end

