-- ==== Sys2Proof/Machine/State.lean ====
section
/-! DEFINITION. The state of the part, block by block (spec/00_scope.md, block overview), and its value after
power-on. INVENTORY.md lists every field with its rule and its reset value. -/

namespace Sys2Proof.Machine

/-! ## Why a step can stop -/

/-- Faults. -/
inductive Fault where
  /-- A placement, a read, a fetch or a reload would reach a word at or beyond Z, which the spec says does not exist
  (R27, R150). Raised by the steps that move words to or from the store. Safe: the machine stops (log 25). -/
  | outsideStore
deriving DecidableEq, Repr

/-- Refusals: the step is not one the part can take in the state it is offered in (log 2, log 4). All are safe:
the machine stops, and nothing is claimed of what follows. -/
inductive Refusal where
  /-- No meaning yet, by the mnemonic of the row. No arm of `exec` answers it. -/
  | notModelled (mnemonic : String)
  /-- Any step: a running timer ends before the step's tick, or a step the rules take "as soon as" it can be taken
  is still to be taken and the tick lies later. Safe. -/
  | expiryFirst
  /-- A timer's expiry: the timer is stopped. Safe. -/
  | timerStopped
  /-- A header while a transaction is open: LSEL must rise first (R26). Safe. -/
  | headerInTransaction
  /-- A link step for which no fitting transaction is open. Safe. -/
  | noTransaction
  /-- An admission whose condition does not hold, a write beat while LRDY is low, or a read beat while the part has
  no word to deliver (LSTB low). Safe. -/
  | notReady
  /-- The end of a grant unit that does not hold the store. Safe. -/
  | storeNotHeld
  /-- A placement with no beat of a placement unit left to take, or a unit's end with beats left (R34). Safe. -/
  | noBeat
  /-- A placement row whose kind the head beat is not (R39, R40, R147). Safe. -/
  | otherBeat
  /-- FETCH_BEGIN while a condition of R115 fails. Safe. -/
  | feederNotReady
  /-- The release of RST while RST is not asserted. Safe. -/
  | resetNotHeld
deriving DecidableEq, Repr

/-! ## Timers -/

/-- A running timer: the tick it was started at and the length it was started with. -/
structure Timer where
  start : Tick
  length : Nat
deriving DecidableEq, Repr

/-- The tick at which a running timer expires. -/
def Timer.ends (t : Timer) : Tick := t.start + t.length

/-! ## Pins -/

/-- Input levels the rules read (R45, R128, R129). `rst` is true while RST is held, `interlock` while INTERLOCK is
open, `gate` while GATE is high, `lselLow` while LSEL is low. -/
structure Pins where
  rst : Bool
  interlock : Bool
  gate : Bool
  lselLow : Bool
deriving DecidableEq, Repr

/-! ## Link Port and Write Queue -/

/-- Burst kind with the group size of a wrapped burst (R26, R27). -/
inductive Burst where
  | linear
  | wrapped (group : Nat)
deriving DecidableEq, Repr

/-- The open transaction (R26 to R37). -/
structure Txn where
  write : Bool
  burst : Burst
  /-- header address a (R27) -/
  addr : Nat
  outOfRange : Bool
  lrdy : Bool
  /-- beats already carried, k (R27, R36) -/
  beats : Nat
  /-- a read still wants a LINK grant for its next segment (R30, R31) -/
  wants : Bool
  /-- the words of the granted segment not yet delivered: the read buffer (R155) -/
  buffer : List Word
  /-- the status group in use and its sixteen words (R35) -/
  snapshot : Option (Nat × List Word)
deriving DecidableEq, Repr

/-- A read beat on LD and the tick of the link clock that carries it (R31, log 23). -/
structure LdBeat where
  word : Word
  tick : Tick
deriving DecidableEq, Repr

structure LinkPort where
  txn : Option Txn
  /-- the last read beat of the open transaction, marked by LSTB at its own tick only (R31, log 23) -/
  ld : Option LdBeat
  overruns : Nat
  outOfRange : Nat
  partials : Nat
deriving DecidableEq, Repr

/-- One entry of the Write Queue (R38). -/
structure Beat where
  addr : Nat
  data : Word
  enables : Enables
deriving DecidableEq, Repr

/-! ## Store and Store Controller -/

/-- The store bytes written since power-on, addresses strictly rising; byte k of word a is cell 4a + k (log 10).
A cell not listed has not been written since power-on (R152). -/
abbrev Memory := List Host.Cell

inductive StoreSize where
  | mib256 | mib512 | mib1024
deriving DecidableEq, Repr

/-- The four table units (R135). -/
inductive TableUnit where
  | stockA | stockB | modulator | facet
deriving DecidableEq, Repr

/-- The grant units of R155. `wanted` is cleared when the unit's owner has given its words up (R157). -/
inductive GrantUnit where
  | refresh
  /-- a fetch segment: bank, position of its first word, words, address of the first word (R117) -/
  | feeder (bank : Fin 2) (pos len addr : Nat) (wanted : Bool)
  /-- a read segment: burst kind, address of its first word, words (R31) -/
  | linkRead (burst : Burst) (addr len : Nat) (wanted : Bool)
  /-- a placement unit with the beats still to be placed (R34) -/
  | placement (left : Nat)
  /-- a reload segment: unit, offset of its first word in the span, words (R140) -/
  | reload (table : TableUnit) (first len : Nat) (wanted : Bool)
deriving DecidableEq, Repr

/-- A grant: the unit and the longest time it may hold the store (R155). -/
structure Grant where
  unit : GrantUnit
  hold : Timer
deriving DecidableEq, Repr

structure StoreController where
  size : StoreSize
  init : Option Timer
  refresh : Option Timer
  pendingRefresh : Nat
  grant : Option Grant
deriving DecidableEq, Repr

/-! ## Slot Table and Fill Tracker -/

/-- The states of R5 to R9; `opened` is OPEN. -/
inductive SlotState where
  | vacant | opened | filling | ready | exposing | exposed | faulted
deriving DecidableEq, Repr

inductive StockSet where
  | a | b
deriving DecidableEq, Repr

/-- The fault causes of R9. -/
inductive FaultCause where
  | aborted | withdrawn | gateLost | scanLost | facetSlip | interlock
deriving DecidableEq, Repr

/-- A slot record (section 1.1). -/
structure Slot where
  state : SlotState
  frame : Word
  base : Nat
  width : Nat
  height : Nat
  pitch : Nat
  stock : StockSet
  bypass : Bool
  chase : Nat
  rep : Nat
  lead : Nat
  trimR : Int
  trimG : Int
  trimB : Int
  lost : Bool
  sealed : Bool
  complete : Bool
  suspect : Bool
  trimClamped : Bool
  rewrites : Nat
  spoiled : Nat
  exposed : Nat
  cause : Option FaultCause
  fetchLine : Int
deriving DecidableEq, Repr

/-- The record of a VACANT slot (R1). -/
def Slot.cleared : Slot where
  state := .vacant
  frame := 0
  base := 0
  width := 0
  height := 0
  pitch := 0
  stock := .a
  bypass := false
  chase := 0
  rep := 0
  lead := 0
  trimR := 0
  trimG := 0
  trimB := 0
  lost := false
  sealed := false
  complete := false
  suspect := false
  trimClamped := false
  rewrites := 0
  spoiled := 0
  exposed := 0
  cause := none
  fetchLine := -1

structure SlotTable where
  table : Vector Slot 8
  /-- the Exposure Queue, head first (R22) -/
  queue : List (Fin 8)
  usersA : Nat
  usersB : Nat
deriving DecidableEq, Repr

/-- A run stands for the recorded indices first to stop − 1 (R46). -/
structure Run where
  first : Nat
  stop : Nat
deriving DecidableEq, Repr

/-- The coverage record of one slot (R46). -/
structure Coverage where
  cursor : Nat
  runs : List Run
deriving DecidableEq, Repr

structure FillTracker where
  cover : Vector Coverage 8
  /-- free entries of the run pool (R47) -/
  free : Nat
deriving DecidableEq, Repr

/-! ## Control Capture -/

/-- The contents of an internal table memory: (entry address, 16 bits), addresses strictly rising, no entry 0; an
address not listed holds 0, as every entry does after power-on (R143). -/
abbrev Table := List (Nat × Half)

structure Shadows where
  stockA : Table
  stockB : Table
  modR : Table
  modG : Table
  modB : Table
  facet : Table
deriving DecidableEq, Repr

/-- The table states of R135. -/
inductive TableState where
  | empty | valid | stale | loading
deriving DecidableEq, Repr

structure TableStates where
  stockA : TableState
  stockB : TableState
  modulator : TableState
  facet : TableState
deriving DecidableEq, Repr

/-- Command outcomes (section 11.4). -/
inductive CmdOutcome where
  | none | done | doneClamped | started | busy | inUse | state | range | overlap | table | malformed | unknown
deriving DecidableEq, Repr

structure CommandRecord where
  count : Nat
  opcode : Byte
  target : Byte
  outcome : CmdOutcome
deriving DecidableEq, Repr

/-- Reload outcomes (section 11.4). -/
inductive ReloadOutcome where
  | none | done | disturbed | abandoned
deriving DecidableEq, Repr

structure ReloadRecord where
  table : Option TableUnit
  inFlight : Bool
  progress : Nat
  disturbed : Bool
  outcome : ReloadOutcome
deriving DecidableEq, Repr

structure ControlCapture where
  shadows : Shadows
  tables : TableStates
  command : CommandRecord
  reload : ReloadRecord
  /-- descriptor staging copies, words +0 to +6 of each slot (R144) -/
  staging : Vector (Vector Word 7) 8
  /-- scan-settings staging copy, words +0 to +6 (R144) -/
  scanStaging : Vector Word 7
  /-- trigger modes, enables, bypass bits, ATTN map, STOP map (R175) -/
  eventWords : Vector Word 5
  /-- AUX0 to AUX3 line-function words (R179) -/
  auxWords : Vector Word 4
deriving DecidableEq, Repr

/-! ## Scan Timing Unit -/

/-- The seven scan settings (R85). -/
structure ScanSettings where
  facets : Nat
  period : Nat
  window : Nat
  lockCount : Nat
  lossLimit : Nat
  margin : Nat
  gateWait : Nat
deriving DecidableEq, Repr

/-- The scanner states of section 5.2. -/
inductive ScanState where
  | off | seeking | counting | locked | unsteady
deriving DecidableEq, Repr

/-- The period statistics (R91). -/
structure PeriodStats where
  empty : Bool
  last : Nat
  min : Nat
  max : Nat
deriving DecidableEq, Repr

structure ScanUnit where
  live : ScanSettings
  state : ScanState
  facet : Nat
  homeMark : Bool
  inRun : Nat
  outRun : Nat
  lastSos : Option Tick
  stats : PeriodStats
  glitches : Nat
  slips : Nat
deriving DecidableEq, Repr

/-! ## Exposure Engine, Line Feeder, Drive Path -/

/-- The engine states of section 6.1. -/
inductive EngineState where
  | stopped | waiting | leading | imaging | closing
deriving DecidableEq, Repr

structure Engine where
  state : EngineState
  haltPending : Bool
  /-- the current slot (R105) -/
  slot : Option (Fin 8)
  /-- the sweep counter (R105) -/
  sweep : Nat
  /-- the current line (R105) -/
  line : Option Nat
  /-- the line spoiled mark (R105) -/
  spoiled : Bool
  gateTimer : Option Timer
  doneTimer : Option Timer
deriving DecidableEq, Repr

/-- The bank states of R114. -/
inductive BankState where
  | free | filling | full | sending
deriving DecidableEq, Repr

/-- The words a line bank holds: (position, word), positions strictly rising, no word 0 (log 7). -/
abbrev BankWords := List (Nat × Word)

structure Bank where
  state : BankState
  /-- slot and image line, none while FREE (R114) -/
  tag : Option (Fin 8 × Nat)
  words : BankWords
deriving DecidableEq, Repr

/-- The fetch in flight (R114): its bank, slot, line and next word position. -/
structure Fetch where
  bank : Fin 2
  slot : Fin 8
  line : Nat
  pos : Nat
deriving DecidableEq, Repr

structure Feeder where
  banks : Vector Bank 2
  target : Nat
  fetch : Option Fetch
deriving DecidableEq, Repr

/-- The sweep in progress (R122, R180). -/
structure Sweep where
  /-- an image sweep, not a lead sweep (R112) -/
  image : Bool
  /-- the bank it sends; none for a lead or late sweep (R119) -/
  bank : Option (Fin 2)
  facet : Nat
  /-- the live margin at its SOS (R122) -/
  margin : Nat
  /-- pixel clocks taken since its SOS (R122) -/
  clocks : Nat
  /-- a nonzero drive was output on some channel (R122) -/
  lit : Bool
deriving DecidableEq, Repr

structure Drive where
  sweep : Option Sweep
  red : Half
  green : Half
  blue : Half
deriving DecidableEq, Repr

/-! ## Event Unit -/

/-- The running activity envelope (R180): its 120 ms hold, the 100 ms half of the blink cycle, and which half. -/
structure Activity where
  hold : Timer
  blink : Timer
  high : Bool
deriving DecidableEq, Repr

structure EventUnit where
  /-- sticky bit of source i at bit i (R173) -/
  sticky : BitVec 16
  /-- the pulse stretch of each source (R172); a level source has none -/
  stretch : Vector (Option Timer) 16
  sweepPulse : Option Timer
  framePulse : Option Timer
  activity : Option Activity
deriving DecidableEq, Repr

/-! ## Integrity Monitor -/

/-- An indication record (R166). -/
structure Indication where
  corr : Bool
  corrOvf : Bool
  uncorr : Bool
  uncorrOvf : Bool
  entry : Option Nat
deriving DecidableEq, Repr

/-- A record that holds no indication (R166, R171). -/
def Indication.clear : Indication := ⟨false, false, false, false, none⟩

/-- The monitor states of section 9.4; REPORTING shows a memory's index and the copy of its record (R168). -/
inductive MonitorState where
  | idle
  | listening
  | reporting (index : Fin 8) (copy : Indication)
deriving DecidableEq, Repr

structure Monitor where
  state : MonitorState
  /-- the first-activation flag (R167) -/
  first : Bool
  records : Vector Indication 8
  /-- the damaged entries of the protected memories, at most one mark an entry (R162 to R165, log 8) -/
  damage : List Damage
deriving DecidableEq, Repr

/-! ## The whole part -/

/-- The state of the S2460. `now`, `powerOns` and `pending` are the model's own. -/
structure State where
  now : Tick
  powerOns : Nat
  /-- the commands waiting, first in first out -/
  pending : List Instr
  pins : Pins
  link : LinkPort
  queue : List Beat
  store : Memory
  sc : StoreController
  slots : SlotTable
  fill : FillTracker
  control : ControlCapture
  scan : ScanUnit
  engine : Engine
  feeder : Feeder
  drive : Drive
  events : EventUnit
  monitor : Monitor
deriving DecidableEq, Repr

/-! ## After power-on -/

/-- The scan settings after power-on (R85). -/
def ScanSettings.powerOn : ScanSettings := ⟨8, 0, 0, 32, 8, 0, 1000⟩

/-- The scan-settings staging copy after power-on (R85, section 11.3). -/
def scanStagingPowerOn : Vector Word 7 := #v[8, 0, 0, 32, 8, 0, 1000]

/-- The event settings after power-on (R177, section 11.3): FRAME_FAULT, INTERLOCK_OPEN and GATE_STUCK enabled and
mapped to STOP. -/
def eventWordsPowerOn : Vector Word 5 := #v[0, 0x00009004, 0, 0, 0x00009004]

/-- The link state after power-on (R44), and after a bridge reset (R45). -/
def LinkPort.reset : LinkPort := ⟨none, none, 0, 0, 0⟩

/-- The Slot Table after either reset (R25). -/
def SlotTable.reset : SlotTable := ⟨Vector.replicate 8 Slot.cleared, [], 0, 0⟩

/-- The Fill Tracker after either reset (R63). -/
def FillTracker.reset : FillTracker := ⟨Vector.replicate 8 ⟨0, []⟩, Config.poolEntries⟩

/-- Empty period statistics (R91). -/
def PeriodStats.cleared : PeriodStats := ⟨true, 0, 0, 0⟩

/-- The Exposure Engine after either reset (R132). -/
def Engine.reset : Engine := ⟨.stopped, false, none, 0, none, false, none, none⟩

/-- The command result record after either reset (R148). -/
def CommandRecord.reset : CommandRecord := ⟨0, 0, 0, .none⟩

/-- Control Capture after power-on (R143, R144, R148, R177). That the reload record's disturbed mark is clear is the
model's choice: R143 and R148 give the other four values and not this one (log 30). -/
def ControlCapture.powerOn : ControlCapture where
  shadows := ⟨[], [], [], [], [], []⟩
  tables := ⟨.empty, .empty, .empty, .empty⟩
  command := CommandRecord.reset
  reload := ⟨none, false, 0, false, .none⟩
  staging := Vector.replicate 8 (Vector.replicate 7 0)
  scanStaging := scanStagingPowerOn
  eventWords := eventWordsPowerOn
  auxWords := Vector.replicate 4 0

/-- The Scan Timing Unit after power-on (R104). -/
def ScanUnit.powerOn : ScanUnit :=
  ⟨ScanSettings.powerOn, .off, 0, false, 0, 0, none, PeriodStats.cleared, 0, 0⟩

/-- The Integrity Monitor after power-on (R171). -/
def Monitor.powerOn : Monitor := ⟨.idle, true, Vector.replicate 8 Indication.clear, []⟩

/-- The part right after power-on, store initialisation just begun (R44, R153). The levels of the inputs at that
moment are the model's (log 5): straps low, INTERLOCK closed, GATE low, RST not asserted, LSEL high. -/
def State.reset : State where
  now := 0
  powerOns := 0
  pending := []
  pins := ⟨false, false, false, false⟩
  link := LinkPort.reset
  queue := []
  store := []
  sc := ⟨.mib256, some ⟨0, Config.storeInitTicks⟩, none, 0, none⟩
  slots := SlotTable.reset
  fill := FillTracker.reset
  control := ControlCapture.powerOn
  scan := ScanUnit.powerOn
  engine := Engine.reset
  feeder := ⟨Vector.replicate 2 ⟨.free, none, []⟩, 0, none⟩
  drive := ⟨none, 0, 0, 0⟩
  events := ⟨0, Vector.replicate 16 none, none, none, none⟩
  monitor := Monitor.powerOn

end Sys2Proof.Machine
end

