-- ==== Sys2Proof/Machine/Ops.lean ====
section
/-! DEFINITION. Shared operations over the state: one update per block, the sparse memories, the exposure store,
the slot records and coverage records. -/

namespace Sys2Proof.Machine

/-- What a command answers. -/
abbrev Result := Host.Outcome State Fault Refusal

/-! ## One update per block (Laws/State.lean has their lemmas) -/

/-- The state with its `now` replaced. -/
def State.setNow (s : State) (x : Tick) : State := { s with now := x }
/-- The state with its `pending` replaced. -/
def State.setPending (s : State) (x : List Instr) : State := { s with pending := x }
/-- The state with its `pins` replaced. -/
def State.setPins (s : State) (x : Pins) : State := { s with pins := x }
/-- The state with its `link` replaced. -/
def State.setLink (s : State) (x : LinkPort) : State := { s with link := x }
/-- The state with its `queue` replaced. -/
def State.setQueue (s : State) (x : List Beat) : State := { s with queue := x }
/-- The state with its `store` replaced. -/
def State.setStore (s : State) (x : Memory) : State := { s with store := x }
/-- The state with its `sc` replaced. -/
def State.setSc (s : State) (x : StoreController) : State := { s with sc := x }
/-- The state with its `slots` replaced. -/
def State.setSlots (s : State) (x : SlotTable) : State := { s with slots := x }
/-- The state with its `fill` replaced. -/
def State.setFill (s : State) (x : FillTracker) : State := { s with fill := x }
/-- The state with its `control` replaced. -/
def State.setControl (s : State) (x : ControlCapture) : State := { s with control := x }
/-- The state with its `scan` replaced. -/
def State.setScan (s : State) (x : ScanUnit) : State := { s with scan := x }
/-- The state with its `engine` replaced. -/
def State.setEngine (s : State) (x : Engine) : State := { s with engine := x }
/-- The state with its `feeder` replaced. -/
def State.setFeeder (s : State) (x : Feeder) : State := { s with feeder := x }
/-- The state with its `drive` replaced. -/
def State.setDrive (s : State) (x : Drive) : State := { s with drive := x }
/-- The state with its `events` replaced. -/
def State.setEvents (s : State) (x : EventUnit) : State := { s with events := x }
/-- The state with its `monitor` replaced. -/
def State.setMonitor (s : State) (x : Monitor) : State := { s with monitor := x }

/-- A counter that stops at 65535 (R4, R43, R49, R90, R95). -/
def satIncr (n : Nat) : Nat := min (n + 1) 65535

/-! ## Sparse memories: lists of (address, value), addresses strictly rising -/

/-- The value listed at an address. -/
def sparseGet {β : Type} : List (Nat × β) → Nat → Option β
  | [], _ => none
  | (a, b) :: rest, k => if a = k then some b else sparseGet rest k

/-- List a value at an address, in place. -/
def sparsePut {β : Type} (k : Nat) (v : β) : List (Nat × β) → List (Nat × β)
  | [] => [(k, v)]
  | (a, b) :: rest =>
    if k < a then (k, v) :: (a, b) :: rest
    else if k = a then (k, v) :: rest
    else (a, b) :: sparsePut k v rest

/-- Take an address off the list. -/
def sparseErase {β : Type} (k : Nat) : List (Nat × β) → List (Nat × β)
  | [] => []
  | (a, b) :: rest => if a = k then rest else (a, b) :: sparseErase k rest

/-- The addresses rise strictly. -/
def sparseSorted {β : Type} : List (Nat × β) → Bool
  | [] => true
  | [_] => true
  | (a, _) :: (b, y) :: rest => a < b && sparseSorted ((b, y) :: rest)

/-- Read a memory whose unlisted addresses hold 0. -/
def zeroGet {w : Nat} (t : List (Nat × BitVec w)) (a : Nat) : BitVec w := (sparseGet t a).getD 0

/-- Write a memory whose unlisted addresses hold 0: a 0 is not listed. -/
def zeroSet {w : Nat} (t : List (Nat × BitVec w)) (a : Nat) (v : BitVec w) : List (Nat × BitVec w) :=
  if v = 0 then sparseErase a t else sparsePut a v t

/-- The canonical form of a memory whose unlisted addresses hold 0. -/
def zeroWf {w : Nat} (t : List (Nat × BitVec w)) : Bool := sparseSorted t && t.all (fun c => c.2 != 0)

/-! ## Bytes of a word (section 11: byte k is bits 8k+7..8k) -/

/-- Byte `k` of a word. -/
def byteOf (w : Word) (k : Nat) : Byte := w.extractLsb' (8 * k) 8

/-- A word from its four bytes, byte 3 first. -/
def joinBytes (b3 b2 b1 b0 : Byte) : Word := b3 ++ b2 ++ b1 ++ b0

/-- The enabled bytes of `new` over the other bytes of `old` (R144, R145, R152). -/
def mergeWord (old new : Word) (en : Enables) : Word :=
  let pick (k : Nat) : Byte := if en.getLsbD k then byteOf new k else byteOf old k
  joinBytes (pick 3) (pick 2) (pick 1) (pick 0)

/-! ## The exposure store (R150 to R152) -/

/-- The canonical form of the store: cells strictly rising. Every listed cell was written since power-on. -/
def Memory.wf (m : Memory) : Bool := sparseSorted m

/-- Z, the store size in words (R150). -/
def StoreSize.words : StoreSize → Nat
  | .mib256 => 67108864
  | .mib512 => 134217728
  | .mib1024 => 268435456

/-- The store size in MiB (R149). -/
def StoreSize.mib : StoreSize → Nat
  | .mib256 => 256
  | .mib512 => 512
  | .mib1024 => 1024

/-- The size the straps select (R150). -/
def StoreSize.ofStraps : Straps → StoreSize
  | ⟨false, false⟩ => .mib256
  | ⟨false, true⟩ => .mib512
  | ⟨true, false⟩ => .mib1024
  | ⟨true, true⟩ => .mib256

/-- Z of the part. -/
def State.storeWords (s : State) : Nat := s.sc.size.words

/-- CB, the first word of the control region (R133). -/
def State.controlBase (s : State) : Nat := s.storeWords - Config.controlWords

/-- A store byte as last written; one not written since power-on is the free value of R152. -/
def State.storeByte (s : State) (cell : Nat) : Byte :=
  (sparseGet s.store cell).getD (Config.undefinedByte s.powerOns cell)

/-- A store word (R152). -/
def State.loadWord (s : State) (a : Nat) : Word :=
  joinBytes (s.storeByte (4 * a + 3)) (s.storeByte (4 * a + 2)) (s.storeByte (4 * a + 1)) (s.storeByte (4 * a))

/-- Write the enabled bytes of one word and keep the others (R152). -/
def Memory.writeWord (m : Memory) (a : Nat) (data : Word) (en : Enables) : Memory :=
  let put (k : Nat) (m : Memory) : Memory :=
    if en.getLsbD k then sparsePut (4 * a + k) (byteOf data k) m else m
  put 3 (put 2 (put 1 (put 0 m)))

/-- A store write of one word (R152). -/
def State.storeWord (s : State) (a : Nat) (data : Word) (en : Enables) : State :=
  s.setStore (s.store.writeWord a data en)

/-- The page of a word (R151). -/
def pageOf (a : Nat) : Nat := a / Config.pageWords

/-! ## Slot records and coverage records -/

/-- Slot record `n`. -/
def State.slot (s : State) (n : Fin 8) : Slot := s.slots.table[n]

/-- Replace slot record `n`. -/
def State.setSlot (s : State) (n : Fin 8) (x : Slot) : State :=
  s.setSlots { s.slots with table := s.slots.table.set n x }

/-- Coverage record `n` (R46). -/
def State.cover (s : State) (n : Fin 8) : Coverage := s.fill.cover[n]

/-- Replace coverage record `n`. -/
def State.setCover (s : State) (n : Fin 8) (x : Coverage) : State :=
  s.setFill { s.fill with cover := s.fill.cover.set n x }

/-- The states in which a slot is in the Exposure Queue and counted in its set's user count (section 1.2). -/
def SlotState.queued : SlotState → Bool
  | .opened | .filling | .ready | .exposing => true
  | _ => false

/-- Every run of slot `n` returns to the pool (R10, R47, R54, R59, R60). -/
def State.freeRuns (s : State) (n : Fin 8) : State :=
  s.setFill
    { cover := s.fill.cover.set n { s.cover n with runs := [] }
      free := s.fill.free + (s.cover n).runs.length }

/-- The user count of a stock set (R21). -/
def State.users (s : State) : StockSet → Nat
  | .a => s.slots.usersA
  | .b => s.slots.usersB

/-- Raise a user count by one (R16, R21). -/
def State.addUser (s : State) : StockSet → State
  | .a => s.setSlots { s.slots with usersA := s.slots.usersA + 1 }
  | .b => s.setSlots { s.slots with usersB := s.slots.usersB + 1 }

/-- Lower a user count by one (R21). -/
def State.dropUser (s : State) : StockSet → State
  | .a => s.setSlots { s.slots with usersA := s.slots.usersA - 1 }
  | .b => s.setSlots { s.slots with usersB := s.slots.usersB - 1 }

/-- Slot `n` leaves the Exposure Queue; the entries behind it keep their order (R22). -/
def State.dequeueSlot (s : State) (n : Fin 8) : State :=
  s.setSlots { s.slots with queue := s.slots.queue.filter (· != n) }

/-- What every departure from the queued states does beside the state change (R8, R9, R18): the slot leaves the
queue, its set's user count falls by one, its runs return to the pool. -/
def State.leaveQueue (s : State) (n : Fin 8) : State :=
  ((s.dequeueSlot n).dropUser (s.slot n).stock).freeRuns n

/-- The head of the Exposure Queue (R23). -/
def State.head (s : State) : Option (Fin 8) := s.slots.queue.head?

/-- The slot's record is cleared and its cursor is 0: it enters VACANT (R1, R10, R60). -/
def State.vacate (s : State) (n : Fin 8) : State :=
  (s.setSlot n Slot.cleared).setCover n ⟨0, []⟩

end Sys2Proof.Machine
end

