-- ==== Sys2Proof/Machine/Flags.lean ====
section
/-! DEFINITION. The Event Unit (spec/10_events_and_output_lines.md): raw, sticky, ident, the output lines and the
AUX functions, and the operations by which the other blocks raise a source. -/

namespace Sys2Proof.Machine

/-- Every source, in index order (R172). -/
def Source.all : List Source :=
  [.slotReady, .frameDone, .frameFault, .commandDone, .coverageLost, .writeLocked, .partialPixel, .tableStale,
   .tableClamp, .scanUnlocked, .facetSlip, .lineLate, .interlockOpen, .integrity, .linkFault, .gateStuck]

/-- The condition of SCAN_UNLOCKED: SEEKING, COUNTING or UNSTEADY (R102). -/
def ScanState.unlocked : ScanState → Bool
  | .seeking | .counting | .unsteady => true
  | _ => false

/-- The raw condition of a source (R172). -/
def State.raw (s : State) (i : Source) : Bool :=
  match i with
  | .scanUnlocked => s.scan.state.unlocked
  | .interlockOpen => s.pins.interlock
  | _ => (s.events.stretch[i.index]).isSome

/-- Trigger modes (section 11.3). -/
inductive TriggerMode where
  | level | change | rise | fall
deriving DecidableEq, Repr

/-- The code of a trigger mode (section 11.3). -/
def TriggerMode.ofCode : Nat → TriggerMode
  | 0 => .level
  | 1 => .change
  | 2 => .rise
  | _ => .fall

/-- The trigger mode of source i, bits 2i+1..2i of word +0 (R175). -/
def State.mode (s : State) (i : Source) : TriggerMode :=
  TriggerMode.ofCode ((s.control.eventWords[0]).extractLsb' (2 * i.index.val) 2).toNat

/-- The enable of a source, word +1 (R175). -/
def State.enabled (s : State) (i : Source) : Bool := (s.control.eventWords[1]).getLsbD i.index.val
/-- The bypass of a source, word +2 (R175). -/
def State.bypassed (s : State) (i : Source) : Bool := (s.control.eventWords[2]).getLsbD i.index.val
/-- The ATTN map bit of a source, word +3 (R175). -/
def State.attnMapped (s : State) (i : Source) : Bool := (s.control.eventWords[3]).getLsbD i.index.val
/-- The STOP map bit of a source, word +4 (R175). -/
def State.stopMapped (s : State) (i : Source) : Bool := (s.control.eventWords[4]).getLsbD i.index.val
/-- The sticky bit of a source (R173). -/
def State.stuck (s : State) (i : Source) : Bool := s.events.sticky.getLsbD i.index.val

/-- The ident of a source (R174). -/
def State.ident (s : State) (i : Source) : Bool :=
  s.enabled i && (if s.bypassed i then s.raw i else s.stuck i)

/-- ATTN (R174). -/
def State.attn (s : State) : Bool := Source.all.any (fun i => s.ident i && s.attnMapped i)

/-- STOP (R174). -/
def State.stop (s : State) : Bool := Source.all.any (fun i => s.ident i && s.stopMapped i)

/-- EXPO is high exactly in LEADING and IMAGING (R129). -/
def State.expo (s : State) : Bool :=
  match s.engine.state with
  | .leading | .imaging => true
  | _ => false

/-- DONE is high while its pulse runs (R129). -/
def State.done (s : State) : Bool := s.engine.doneTimer.isSome

/-- The function code of AUXn, the low four bits of its word (R179). -/
def State.auxCode (s : State) (n : Fin 4) : Nat := ((s.control.auxWords[n]).extractLsb' 0 4).toNat

/-- The level of AUXn by its function code (R179, R180). -/
def State.aux (s : State) (n : Fin 4) : Bool :=
  match s.auxCode n with
  | 1 => true
  | 2 => s.expo
  | 3 => s.events.sweepPulse.isSome
  | 4 => s.events.framePulse.isSome
  | 5 => s.events.activity.isSome
  | 6 => s.events.activity.any (·.high)
  | 7 => s.scan.state == .locked
  | 8 => s.attn
  | 9 => s.stop
  | _ => false

/-- A sticky word with the bit of a source set. -/
def setBit (w : BitVec 16) (i : Source) : BitVec 16 := w ||| (1#16 <<< i.index.val)

/-- Set the sticky bit of a source (R173). -/
def State.stick (s : State) (i : Source) : State :=
  s.setEvents { s.events with sticky := setBit s.events.sticky i }

/-- Raise a pulse source: its stretch starts, or starts again, and its sticky bit is set (R172, R173). -/
def State.raise (s : State) (i : Source) : State :=
  s.setEvents { s.events with
    sticky := setBit s.events.sticky i
    stretch := s.events.stretch.set i.index (some ⟨s.now, Config.pulseTicks⟩) }

/-- Raise a pulse source if the occurrence took place. -/
def State.raiseIf (s : State) (b : Bool) (i : Source) : State := if b then s.raise i else s

/-- Does a level source's condition, going from `was` to `is`, set its sticky bit (R173)? -/
def TriggerMode.fires : TriggerMode → Bool → Bool → Bool
  | .level, _, is => is
  | .change, was, is => was != is
  | .rise, was, is => !was && is
  | .fall, was, is => was && !is

/-- A level source, whose condition was `was`, takes its present condition (R173). -/
def State.levelFrom (s : State) (i : Source) (was : Bool) : State :=
  if (s.mode i).fires was (s.raw i) then s.stick i else s

/-- The level sources in LEVEL mode whose condition is true set their sticky bits (R173, R176, R177). -/
def State.resample (s : State) : State :=
  let again (s : State) (i : Source) : State := if s.mode i = .level ∧ s.raw i then s.stick i else s
  again (again s .scanUnlocked) .interlockOpen

/-- The scanner takes a state; SCAN_UNLOCKED follows (R102, R173). -/
def State.setScanState (s : State) (x : ScanState) : State :=
  (s.setScan { s.scan with state := x }).levelFrom .scanUnlocked s.scan.state.unlocked

/-- INTERLOCK takes a level; INTERLOCK_OPEN follows (R128, R173). -/
def State.setInterlock (s : State) (isOpen : Bool) : State :=
  (s.setPins { s.pins with interlock := isOpen }).levelFrom .interlockOpen s.pins.interlock

/-- A SWEEP indication (R179). -/
def State.indicateSweep (s : State) : State :=
  s.setEvents { s.events with sweepPulse := some ⟨s.now, Config.pulseTicks⟩ }

/-- A FRAME_START indication (R179). -/
def State.indicateFrameStart (s : State) : State :=
  s.setEvents { s.events with framePulse := some ⟨s.now, Config.pulseTicks⟩ }

/-- The envelope after a report of yes: started with a cycle that begins high, or its hold started again with the
blink phase kept (R180). -/
def Activity.reported (now : Tick) : Option Activity → Activity
  | none => ⟨⟨now, Config.activityTicks⟩, ⟨now, Config.blinkTicks⟩, true⟩
  | some a => { a with hold := ⟨now, Config.activityTicks⟩ }

/-- The Drive Path's report at the end, or at the cut, of the sweep in progress: only an image sweep reports, and
only a report of yes changes anything (R122, R180). -/
def State.reportSweep (s : State) : State :=
  match s.drive.sweep with
  | some sw =>
    if sw.image && sw.lit then
      s.setEvents { s.events with activity := some (Activity.reported s.now s.events.activity) }
    else s
  | none => s

end Sys2Proof.Machine
end

