-- ==== Sys2Proof/Machine/Operands.lean ====
section
/-! DEFINITION. How the part reads the words it is given: link headers and beat addresses, command words, the areas
of the control region, staging words, a slot's geometry, and the classification of a beat at placement. -/

namespace Sys2Proof.Machine

/-- The unsigned number in `len` bits of a word from bit `lo` up. -/
def field (w : Word) (lo len : Nat) : Nat := (w.extractLsb' lo len).toNat

/-- The signed number in `len` bits of a word from bit `lo` up (two's complement). -/
def signedField (w : Word) (lo len : Nat) : Int := (w.extractLsb' lo len).toInt

/-! ## Link header (R26, R27, section 11.1) -/

/-- The group size a wrap size code gives (R26, R27); code 3 is taken as 32. -/
def groupSize : Nat → Nat
  | 0 => 8
  | 1 => 16
  | _ => 32

/-- Direction of a header: true for a write. -/
def headerWrite (w : Word) : Bool := w.getLsbD 31

/-- Burst kind of a header, the wrap size code ignored when it is linear. -/
def headerBurst (w : Word) : Burst := if w.getLsbD 30 then .wrapped (groupSize (field w 28 2)) else .linear

/-- Word address of a header. -/
def headerAddr (w : Word) : Nat := field w 0 28

/-- The address of beat `k` of a burst with header address `a` in a store of `z` words (R27). -/
def beatAddr (z : Nat) (b : Burst) (a k : Nat) : Nat :=
  match b with
  | .linear => (a + k) % z
  | .wrapped g => (a - a % g) + (a % g + k) % g

/-! ## Command word (section 11.4) -/

/-- The thirteen commands of R147. -/
inductive Cmd where
  | describe | sealSlot | withdraw | release | reload | run | halt | abort | scanApply | clearScanStats
  | clearEvents | monitorStep | monitorStop
deriving DecidableEq, Repr

/-- The command an opcode names; every other opcode is unknown (section 11.4). -/
def Cmd.ofOpcode (op : Nat) : Option Cmd :=
  match op with
  | 0x01 => some .describe
  | 0x02 => some .sealSlot
  | 0x03 => some .withdraw
  | 0x04 => some .release
  | 0x10 => some .reload
  | 0x20 => some .run
  | 0x21 => some .halt
  | 0x22 => some .abort
  | 0x30 => some .scanApply
  | 0x31 => some .clearScanStats
  | 0x40 => some .clearEvents
  | 0x50 => some .monitorStep
  | 0x51 => some .monitorStop
  | _ => none

/-- The target of a command word. -/
def cmdTarget (w : Word) : Nat := field w 8 8

/-- The slot a command word's target names, none above 7 (R147). -/
def cmdSlot (w : Word) : Option (Fin 8) := if h : cmdTarget w < 8 then some ⟨cmdTarget w, h⟩ else none

/-- The argument of a command word. -/
def cmdArgument (w : Word) : BitVec 16 := w.extractLsb' 16 16

/-- The table unit a RELOAD's target names, none above 3 (R139). -/
def cmdTable (w : Word) : Option TableUnit :=
  match cmdTarget w with
  | 0 => some .stockA
  | 1 => some .stockB
  | 2 => some .modulator
  | 3 => some .facet
  | _ => none

/-! ## Areas of the control region (R133, R134) -/

/-- Offset of a unit's area from CB (R133). -/
def TableUnit.area : TableUnit → Nat
  | .stockA => 0x1000
  | .stockB => 0x1400
  | .modulator => 0x2000
  | .facet => 0x3000

/-- Words of a unit's span (R134). -/
def TableUnit.span : TableUnit → Nat
  | .stockA | .stockB => 815
  | .modulator => 3072
  | .facet => 48

/-- Is the offset in the area an entry word, not a gap and not beyond the span (R134)? -/
def TableUnit.isEntry (u : TableUnit) (o : Nat) : Bool :=
  match u with
  | .stockA | .stockB => o ≤ 770 || (800 ≤ o && o ≤ 808) || (812 ≤ o && o ≤ 814)
  | .modulator => o < 3072
  | .facet => o < 48

/-- What lies at an offset of the control region. -/
inductive Area where
  | status
  | command
  | descriptor (slot : Fin 8) (word : Fin 16)
  | entry (table : TableUnit) (offset : Nat)
  | scanStaging (word : Fin 8)
  | eventSetting (word : Fin 5)
  | auxFunction (line : Fin 4)
  | plain
deriving DecidableEq, Repr

/-- The unit whose area has an entry word at this offset of the control region. -/
def entryAt (o : Nat) : Option TableUnit :=
  [TableUnit.stockA, .stockB, .modulator, .facet].find? (fun u => u.area ≤ o && u.isEntry (o - u.area))

/-- The area of an offset from CB (R40, R133). -/
def areaOf (o : Nat) : Area :=
  if o < Config.statusWords then .status
  else if o = 0x400 then .command
  else if 0x800 ≤ o ∧ o < 0x880 then .descriptor (Fin.ofNat 8 ((o - 0x800) / 16)) (Fin.ofNat 16 ((o - 0x800) % 16))
  else if 0x3100 ≤ o ∧ o < 0x3108 then .scanStaging (Fin.ofNat 8 (o - 0x3100))
  else if 0x3200 ≤ o ∧ o < 0x3205 then .eventSetting (Fin.ofNat 5 (o - 0x3200))
  else if 0x3300 ≤ o ∧ o < 0x3304 then .auxFunction (Fin.ofNat 4 (o - 0x3300))
  else match entryAt o with
    | some u => .entry u (o - u.area)
    | none => .plain

/-! ## Staging words (section 11.3, R181) -/

/-- The fields of a staged descriptor. -/
structure Descriptor where
  frame : Word
  base : Nat
  width : Nat
  height : Nat
  pitch : Nat
  chase : Nat
  selector : Nat
  bypass : Bool
  rep : Nat
  lead : Nat
  trimR : Int
  trimG : Int
  trimB : Int
deriving DecidableEq, Repr

/-- The descriptor a staging copy holds (section 11.3). -/
def Descriptor.ofStaging (v : Vector Word 7) : Descriptor where
  frame := v[0]
  base := v[1].toNat
  width := field v[2] 0 16
  height := field v[2] 16 16
  pitch := field v[3] 0 16
  chase := field v[3] 16 16
  selector := field v[4] 0 2
  bypass := v[4].getLsbD 8
  rep := field v[4] 16 3
  lead := field v[4] 24 8
  trimR := signedField v[5] 0 16
  trimG := signedField v[5] 16 16
  trimB := signedField v[6] 0 16

/-- Check 3 of DESCRIBE (R12). -/
def Descriptor.inRange (d : Descriptor) : Bool :=
  256 ≤ d.width && d.width ≤ 8192 && d.width % 8 == 0
  && 16 ≤ d.height && d.height ≤ 6144
  && d.width ≤ d.pitch && d.pitch ≤ 16384
  && d.base % 64 == 0
  && d.selector ≤ 1
  && d.chase ≤ 6144
  && 1 ≤ d.rep && d.rep ≤ 4

/-- The stock set the selector names (section 11.3). -/
def Descriptor.stock (d : Descriptor) : StockSet := if d.selector = 0 then .a else .b

/-- Clamp a number to a range (00_scope.md, Arithmetic). -/
def clampInt (lo hi x : Int) : Int := max lo (min hi x)

/-- A trim clamped to −128 to 127 (R13). -/
def clampTrim (x : Int) : Int := clampInt (-128) 127 x

/-- Some trim was clamped (R13). -/
def Descriptor.trimsClamped (d : Descriptor) : Bool :=
  clampTrim d.trimR != d.trimR || clampTrim d.trimG != d.trimG || clampTrim d.trimB != d.trimB

/-- The slot record an accepted descriptor gives (R16). -/
def Descriptor.toSlot (d : Descriptor) : Slot :=
  { Slot.cleared with
    state := .opened
    frame := d.frame
    base := d.base
    width := d.width
    height := d.height
    pitch := d.pitch
    stock := d.stock
    bypass := d.bypass
    chase := d.chase
    rep := d.rep
    lead := d.lead
    trimR := clampTrim d.trimR
    trimG := clampTrim d.trimG
    trimB := clampTrim d.trimB
    trimClamped := d.trimsClamped }

/-- The scan settings a staging copy holds, at the widths of section 11.3. -/
def ScanSettings.ofStaging (v : Vector Word 7) : ScanSettings where
  facets := field v[0] 0 8
  period := v[1].toNat
  window := v[2].toNat
  lockCount := field v[3] 0 16
  lossLimit := field v[4] 0 16
  margin := field v[5] 0 16
  gateWait := field v[6] 0 16

/-- A natural number clamped to a range. -/
def clampNat (lo hi x : Nat) : Nat := max lo (min hi x)

/-- The nominal period as installed: 0 stays 0 (R87). -/
def clampPeriod (t : Nat) : Nat := if t = 0 then 0 else clampNat 2000 2000000 t

/-- The staged settings clamped to their ranges, T_nom before the window (R87). -/
def ScanSettings.clamped (x : ScanSettings) : ScanSettings where
  facets := clampNat 4 16 x.facets
  period := clampPeriod x.period
  window := min x.window (clampPeriod x.period / 4)
  lockCount := clampNat 4 255 x.lockCount
  lossLimit := clampNat 1 64 x.lossLimit
  margin := min x.margin 4095
  gateWait := clampNat 10 5000 x.gateWait

/-! ## A slot's region (R2) -/

/-- The last word of a region of the given shape (R2). -/
def regionLast (base height pitch width : Nat) : Nat := base + (height - 1) * pitch + width - 1

/-- The last word of a slot's region (R2). -/
def Slot.last (x : Slot) : Nat := regionLast x.base x.height x.pitch x.width

/-- Line and column of a picture word of the slot; none for a word outside the region, a margin word, or any word
against a VACANT slot (R1, R2). -/
def Slot.locate (x : Slot) (a : Nat) : Option (Nat × Nat) :=
  if x.state ≠ .vacant ∧ x.base ≤ a ∧ a ≤ x.last ∧ (a - x.base) % x.pitch < x.width then
    some ((a - x.base) / x.pitch, (a - x.base) % x.pitch)
  else none

/-- W·H, the picture words of a slot. -/
def Slot.size (x : Slot) : Nat := x.width * x.height

/-- S, the sweeps of a frame (R112). -/
def Slot.sweeps (x : Slot) : Nat := x.lead + x.height * x.rep

/-- The non-VACANT slot of which a word is a picture word, if any (R39). -/
def State.pictureSlot (s : State) (a : Nat) : Option (Fin 8) :=
  (List.finRange 8).find? (fun n => ((s.slot n).locate a).isSome)

/-! ## Classification of a beat at placement (R39, R40) -/

/-- What a beat is, at its placement: one kind per placement row, a command by its name. -/
inductive BeatKind where
  | noEnable
  | status
  | command (c : Cmd)
  | unknown
  | malformed
  | descriptor (slot : Fin 8) (word : Fin 16)
  | scanStaging (word : Fin 8)
  | entry (table : TableUnit) (offset : Nat)
  | eventSetting (word : Fin 5)
  | auxFunction (line : Fin 4)
  | picture (slot : Fin 8)
  | plain
deriving DecidableEq, Repr

/-- The kind of a beat at the command word: a command with all four enables, otherwise malformed (R146, R147). -/
def commandKind (b : Beat) : BeatKind :=
  if b.enables = 0xF#4 then
    match Cmd.ofOpcode (field b.data 0 8) with
    | some c => .command c
    | none => .unknown
  else .malformed

/-- The kind of a beat in the control region (R40). -/
def controlKind (o : Nat) (b : Beat) : BeatKind :=
  match areaOf o with
  | .status => .status
  | .command => commandKind b
  | .descriptor n k => .descriptor n k
  | .entry u k => .entry u k
  | .scanStaging k => .scanStaging k
  | .eventSetting k => .eventSetting k
  | .auxFunction k => .auxFunction k
  | .plain => .plain

/-- The first matching row of R39, against the part as it stands. -/
def State.classify (s : State) (b : Beat) : BeatKind :=
  if b.enables = 0 then .noEnable
  else if s.controlBase ≤ b.addr then controlKind (b.addr - s.controlBase) b
  else match s.pictureSlot b.addr with
    | some n => .picture n
    | none => .plain

end Sys2Proof.Machine
end

