-- ==== Sys2Proof/Machine/Tables.lean ====
section
/-! DEFINITION. The table units: shadows, states, use, capture with its clamp (sections 7.2 and 7.3), and the
contents of the eight protected memories. -/

namespace Sys2Proof.Machine

/-- The state of a table unit. -/
def TableStates.get (t : TableStates) : TableUnit → TableState
  | .stockA => t.stockA
  | .stockB => t.stockB
  | .modulator => t.modulator
  | .facet => t.facet

/-- Replace the state of a table unit. -/
def TableStates.put (t : TableStates) (u : TableUnit) (x : TableState) : TableStates :=
  match u with
  | .stockA => { t with stockA := x }
  | .stockB => { t with stockB := x }
  | .modulator => { t with modulator := x }
  | .facet => { t with facet := x }

/-- The state of unit `u` (R135). -/
def State.tableState (s : State) (u : TableUnit) : TableState := s.control.tables.get u

/-- Unit `u` takes a state. -/
def State.setTable (s : State) (u : TableUnit) (x : TableState) : State :=
  s.setControl { s.control with tables := s.control.tables.put u x }

/-- Is unit `u` in use (R135)? -/
def State.inUse (s : State) : TableUnit → Bool
  | .stockA => 0 < s.slots.usersA
  | .stockB => 0 < s.slots.usersB
  | .modulator | .facet => s.expo

/-- The unit that holds a stock set. -/
def StockSet.table : StockSet → TableUnit
  | .a => .stockA
  | .b => .stockB

/-- The memory and entry address of entry word `o` of unit `u` (R134, R162). -/
def entryPlace (u : TableUnit) (o : Nat) : Mem × Nat :=
  match u with
  | .stockA => (.stockA, o)
  | .stockB => (.stockB, o)
  | .modulator =>
    if o < 1024 then (.modR, o) else if o < 2048 then (.modG, o - 1024) else (.modB, o - 2048)
  | .facet => (.facet, o)

/-- A signed field clamped to a range, and whether it was clamped. -/
def clampSigned (lo hi : Int) (h : Half) : Half × Bool :=
  if h.toInt < lo then (BitVec.ofInt 16 lo, true)
  else if hi < h.toInt then (BitVec.ofInt 16 hi, true)
  else (h, false)

/-- The value captured from the low half of an entry word, and whether it was clamped (R137). -/
def captureValue (u : TableUnit) (o : Nat) (h : Half) : Half × Bool :=
  match u with
  | .stockA | .stockB =>
    if o ≤ 770 then (if 1023 < h.toNat then (1023#16, true) else (h, false))
    else if 812 ≤ o then clampSigned (-2048) 2047 h
    else (h, false)
  | .modulator => (h, false)
  | .facet => clampSigned (-64) 63 h

/-- The shadow table of a memory; a line bank has none. -/
def Shadows.get (x : Shadows) : Mem → Table
  | .stockA => x.stockA
  | .stockB => x.stockB
  | .modR => x.modR
  | .modG => x.modG
  | .modB => x.modB
  | .facet => x.facet
  | .bank0 | .bank1 => []

/-- Replace one entry of a shadow (R136). -/
def Shadows.write (x : Shadows) (m : Mem) (a : Nat) (v : Half) : Shadows :=
  match m with
  | .stockA => { x with stockA := zeroSet x.stockA a v }
  | .stockB => { x with stockB := zeroSet x.stockB a v }
  | .modR => { x with modR := zeroSet x.modR a v }
  | .modG => { x with modG := zeroSet x.modG a v }
  | .modB => { x with modB := zeroSet x.modB a v }
  | .facet => { x with facet := zeroSet x.facet a v }
  | .bank0 | .bank1 => x

/-- A write gives an entry fresh check bits: its damage is gone (R137, R162). -/
def State.refreshEntry (s : State) (m : Mem) (a : Nat) : State :=
  s.setMonitor { s.monitor with
    damage := s.monitor.damage.filter (fun d => !(d.mem == m && d.entry == a)) }

/-- Capture the low half of a word into entry `o` of unit `u`, with its clamp and TABLE_CLAMP (R136, R137). -/
def State.capture (s : State) (u : TableUnit) (o : Nat) (w : Word) : State :=
  let v := captureValue u o (w.extractLsb' 0 16)
  let place := entryPlace u o
  let s := s.setControl { s.control with shadows := s.control.shadows.write place.1 place.2 v.1 }
  (s.refreshEntry place.1 place.2).raiseIf v.2 .tableClamp

end Sys2Proof.Machine
end

