-- ==== Sys2Proof/Machine/Engine.lean ====
section
/-! DEFINITION. What the Exposure Engine and the Line Feeder share (spec/06_exposure_engine.md): eligibility, the
coverage gate, the banks, entry to STOPPED and WAITING, aborts, and the sweep an accepted SOS begins. -/

namespace Sys2Proof.Machine

/-! ## The head and the start conditions -/

/-- Slot `n` meets the eligibility condition of R23. -/
def State.slotEligible (s : State) (n : Fin 8) : Bool :=
  match (s.slot n).state with
  | .ready => true
  | .filling =>
    0 < (s.slot n).chase && min (s.slot n).chase (s.slot n).height * (s.slot n).width ≤ (s.cover n).cursor
  | _ => false

/-- The eligible head, if the head is eligible (R23). -/
def State.eligibleHead (s : State) : Option (Fin 8) := s.head.filter s.slotEligible

/-- Line bank `b`. -/
def State.bank (s : State) (b : Fin 2) : Bank := s.feeder.banks[b]

/-- Replace a line bank. -/
def State.setBank (s : State) (b : Fin 2) (x : Bank) : State :=
  s.setFeeder { s.feeder with banks := s.feeder.banks.set b x }

/-- The bank tagged with a slot and line whose state satisfies `p`. -/
def State.bankTagged (s : State) (n : Fin 8) (l : Nat) (p : BankState → Bool) : Option (Fin 2) :=
  [(0 : Fin 2), 1].find? (fun b => (s.bank b).tag == some (n, l) && p (s.bank b).state)

/-- The blocked reasons of R110, in the order of its conditions. -/
inductive Blocked where
  | none | noFrame | staging | tables | scan | interlock | gate
deriving DecidableEq, Repr

/-- The first start condition that fails, or none (R110). -/
def State.firstBlock (s : State) : Blocked :=
  match s.eligibleHead with
  | none => .noFrame
  | some n =>
    if (s.bankTagged n 0 (· == .full)).isNone then .staging
    else if !(s.tableState .modulator == .valid && s.tableState .facet == .valid) then .tables
    else if s.scan.state != .locked then .scan
    else if s.pins.interlock then .interlock
    else if !s.pins.gate then .gate
    else .none

/-- The blocked reason shown in status: NONE in every state but WAITING (R110). -/
def State.blockedReason (s : State) : Blocked := if s.engine.state = .waiting then s.firstBlock else .none

/-! ## The Line Feeder -/

/-- The coverage gate for line `l` of slot `n` (R116). -/
def State.gateOpen (s : State) (n : Fin 8) (l : Nat) : Bool :=
  (s.slot n).sealed || (l + 1) * (s.slot n).width ≤ (s.cover n).cursor

/-- The first line beyond which the feeder does not fetch (R115). -/
def State.horizon (s : State) : Nat :=
  match s.engine.state, s.engine.line with
  | .imaging, some l => l + 1
  | _, _ => 0

/-- The lower-numbered FREE bank (R115). -/
def State.freeBank (s : State) : Option (Fin 2) := [(0 : Fin 2), 1].find? (fun b => (s.bank b).state == .free)

/-- The feeder's slot with conditions 1 and 2 of R115: the eligible head in WAITING while both banks are FREE (R118),
the current slot in LEADING and IMAGING. -/
def State.feederSlot (s : State) : Option (Fin 8) :=
  match s.engine.state with
  | .waiting => if (s.bank 0).state = .free ∧ (s.bank 1).state = .free then s.eligibleHead else none
  | .leading | .imaging => s.engine.slot
  | _ => none

/-- The slot and bank of the fetch the feeder is to begin, when all conditions of R115 hold. -/
def State.fetchReady (s : State) : Option (Fin 8 × Fin 2) :=
  match s.feederSlot, s.freeBank with
  | some n, some b =>
    if s.feeder.target < (s.slot n).height ∧ s.feeder.target ≤ s.horizon ∧ s.feeder.fetch = none
        ∧ s.gateOpen n s.feeder.target then
      some (n, b)
    else none
  | _, _ => none

/-- A granted unit goes on in the store and its words are discarded: a fetch segment (R120, R157). -/
def GrantUnit.dropFetch : GrantUnit → GrantUnit
  | .feeder b p l a _ => .feeder b p l a false
  | g => g

/-- A granted read segment runs on and is discarded (R32, R157). -/
def GrantUnit.dropRead : GrantUnit → GrantUnit
  | .linkRead b a l _ => .linkRead b a l false
  | g => g

/-- A granted reload segment runs on and is discarded (R143, R157). -/
def GrantUnit.dropReload : GrantUnit → GrantUnit
  | .reload u f l _ => .reload u f l false
  | g => g

/-- The beats of a placement unit not yet placed are discarded (R45). -/
def GrantUnit.dropBeats : GrantUnit → GrantUnit
  | .placement _ => .placement 0
  | g => g

/-- Change the unit that holds the store; its hold is not changed. -/
def State.mapUnit (s : State) (f : GrantUnit → GrantUnit) : State :=
  s.setSc { s.sc with grant := s.sc.grant.map (fun g => { g with unit := f g.unit }) }

/-- The fetch in flight is abandoned: no further segment is requested, the words of a granted one are discarded
(R120). -/
def State.abandonFetch (s : State) : State :=
  (s.setFeeder { s.feeder with fetch := none }).mapUnit GrantUnit.dropFetch

/-- A bank becomes FREE; a fetch into it is abandoned (R119, R120). -/
def State.releaseBank (s : State) (b : Fin 2) : State :=
  let s' := s.setBank b { s.bank b with state := .free, tag := none }
  if s.feeder.fetch.any (fun f => f.bank == b) then s'.abandonFetch else s'

/-- Both banks FREE, a fetch in flight abandoned, the target line 0 (R106, R113, R118). -/
def State.clearFeeder (s : State) : State :=
  let s := (s.setBank 0 { s.bank 0 with state := .free, tag := none })
  let s := (s.setBank 1 { s.bank 1 with state := .free, tag := none })
  let s := s.abandonFetch
  s.setFeeder { s.feeder with target := 0 }

/-- The fetch line of slot `n` returns to −1 (R106, R118). -/
def State.unlockSlot (s : State) (n : Fin 8) : State := s.setSlot n { s.slot n with fetchLine := -1 }

/-- The fetch line of the slot a bank's prefetch belongs to returns to −1, unless the slot is VACANT (R106). -/
def State.unlockPrefetch (s : State) (b : Fin 2) : State :=
  match (s.bank b).tag with
  | some (n, _) => if (s.slot n).state = .vacant then s else s.unlockSlot n
  | none => s

/-- The prefetch of slot `n` is discarded because the slot ceases to be the head (R118). -/
def State.discardPrefetch (s : State) (n : Fin 8) : State :=
  if s.engine.state = .waiting ∧ ([(0 : Fin 2), 1].any fun b => (s.bank b).tag.any (fun t => t.1 == n)) then
    (s.unlockSlot n).clearFeeder
  else s

/-! ## Entry to STOPPED and WAITING, aborts -/

/-- No sweep in progress and drive 0 on every channel. -/
def State.blankDrive (s : State) : State := s.setDrive ⟨none, 0, 0, 0⟩

/-- The slots whose fetch line entry to STOPPED returns to −1 (R106). -/
def State.unlockOnStop (s : State) : State :=
  match s.engine.state with
  | .leading | .imaging =>
    match s.engine.slot with
    | some n => s.unlockSlot n
    | none => s
  | .waiting => (s.unlockPrefetch 0).unlockPrefetch 1
  | _ => s

/-- Entry to STOPPED (R106). -/
def State.enterStopped (s : State) : State :=
  let s := s.unlockOnStop.clearFeeder.blankDrive
  s.setEngine { s.engine with state := .stopped, haltPending := false, slot := none, gateTimer := none }

/-- Entry to WAITING (R106, R107, R130). -/
def State.enterWaiting (s : State) : State :=
  s.setEngine { s.engine with state := .waiting, haltPending := false, gateTimer := none }

/-- The exposing slot becomes FAULTED with a cause and leaves the queue (R9). -/
def State.faultSlot (s : State) (n : Fin 8) (c : FaultCause) : State :=
  let s := s.leaveQueue n
  s.setSlot n { s.slot n with state := .faulted, cause := some c }

/-- An abort trigger: in LEADING or IMAGING the frame ends at once (R126); elsewhere it gives no abort (R127). -/
def State.abortFrame (s : State) (c : FaultCause) : State :=
  if s.expo then
    let s := s.reportSweep
    let s := match s.engine.slot with
      | some n => s.faultSlot n c
      | none => s
    (s.raise .frameFault).enterStopped
  else s

/-! ## Sweeps -/

/-- The current line is marked spoiled; the first mark in a line counts in the slot (R125). -/
def State.markSpoiled (s : State) : State :=
  if s.engine.spoiled then s
  else
    let s' := s.setEngine { s.engine with spoiled := true }
    match s.engine.slot with
    | some n => s'.setSlot n { s.slot n with spoiled := (s.slot n).spoiled + 1 }
    | none => s'

/-- Step 1 of R119 for one bank: a bank tagged with a line below `l` becomes FREE. -/
def State.releaseBelow (s : State) (l : Nat) (b : Fin 2) : State :=
  if (s.bank b).tag.any (fun t => t.2 < l) then s.releaseBank b else s

/-- A sweep begins: blank until its first pixel clock (log 11), counted from the margin read now (R122). -/
def State.startSweep (s : State) (image : Bool) (bank : Option (Fin 2)) : State :=
  s.setDrive ⟨some ⟨image, bank, s.scan.facet, s.scan.live.margin, 0, false⟩, 0, 0, 0⟩

/-- Steps 1 to 3 of R119 for an image sweep of line `l` of slot `n`: the bank it sends, or a late sweep. -/
def State.chooseBank (s : State) (n : Fin 8) (l : Nat) : State :=
  let s := (s.releaseBelow l 0).releaseBelow l 1
  match s.bankTagged n l (fun x => x == .full || x == .sending) with
  | some b => (s.setBank b { s.bank b with state := .sending }).startSweep true (some b)
  | none => ((s.raise .lineLate).markSpoiled).startSweep true none

/-- An image sweep of line `l` of slot `n` begins (R112 steps 5 to 7, R119, R120, R125). `first` is true at the first
sweep of the line, `out` when its SOS was judged out of window. -/
def State.imageSweep (s : State) (n : Fin 8) (l : Nat) (first out : Bool) : State :=
  let s := s.setEngine { s.engine with
    state := .imaging
    line := if first then some l else s.engine.line
    spoiled := if first then false else s.engine.spoiled }
  let s := s.chooseBank n l
  let s := if first then s.setFeeder { s.feeder with target := max s.feeder.target l } else s
  if out then s.markSpoiled else s

/-- The sweep with the number the sweep counter holds begins (R111, R112). -/
def State.beginSweep (s : State) (n : Fin 8) (out : Bool) : State :=
  let x := s.slot n
  let k := s.engine.sweep
  let s :=
    if k < x.lead then s.startSweep false none
    else s.imageSweep n ((k - x.lead) / x.rep) ((k - x.lead) % x.rep = 0) out
  s.indicateSweep

/-- Frame start (R111). -/
def State.startFrame (s : State) (n : Fin 8) (out : Bool) : State :=
  let x := s.slot n
  let s := s.setSlot n { x with state := .exposing }
  let s := s.setEngine { s.engine with
    state := .leading, slot := some n, sweep := 0, line := none, spoiled := false }
  (s.indicateFrameStart).beginSweep n out

/-- Frame end (R113). -/
def State.endFrame (s : State) (n : Fin 8) : State :=
  let s := s.leaveQueue n
  let s := s.setSlot n { s.slot n with state := .exposed }
  let s := s.clearFeeder.blankDrive
  let s := s.setEngine { s.engine with
    state := .closing
    slot := none
    gateTimer := some ⟨s.now, s.scan.live.gateWait * Config.msTicks⟩
    doneTimer := some ⟨s.now, Config.pulseTicks⟩ }
  s.raise .frameDone

/-- The sweep before was the last sweep of an image line, so the line counts as exposed (R125). -/
def State.countExposed (s : State) (n : Fin 8) : State :=
  let x := s.slot n
  let k := s.engine.sweep
  if x.lead ≤ k ∧ (k - x.lead) % x.rep + 1 = x.rep then s.setSlot n { x with exposed := x.exposed + 1 } else s

/-- The next accepted SOS of a frame in LEADING or IMAGING (R112, R113). -/
def State.nextSweep (s : State) (n : Fin 8) (out : Bool) : State :=
  let s := (s.reportSweep).countExposed n
  let s := s.setEngine { s.engine with sweep := s.engine.sweep + 1 }
  if s.engine.sweep = (s.slot n).sweeps then s.endFrame n else s.beginSweep n out

/-- What the engine does with an accepted SOS handed on by the Scan Timing Unit, `out` when it was judged out of
window (R100, R110, R112, R130). -/
def State.takePulse (s : State) (out : Bool) : State :=
  match s.engine.state with
  | .waiting =>
    match s.firstBlock, s.head with
    | .none, some n => s.startFrame n out
    | _, _ => s
  | .leading | .imaging =>
    match s.engine.slot with
    | some n => s.nextSweep n out
    | none => s
  | _ => s

end Sys2Proof.Machine
end

