-- ==== Sys2Proof/Machine/Arbiter.lean ====
section
/-! DEFINITION. The requests and grant decisions of the Store Controller (sections 8.3 and 8.4), the admission
conditions of the link (R30, R33), and the tick gate every step passes. -/

namespace Sys2Proof.Machine

/-! ## Requests (R155, R158) -/

/-- The beats of the placement unit a grant now would fix: those from the head that lie in the head's page, at most
16 (R34). -/
def unitBeatsOf (q : List Beat) : Nat :=
  match q with
  | [] => 0
  | b :: rest => min Config.unitBeats (1 + (rest.takeWhile (fun x => pageOf x.addr == pageOf b.addr)).length)

/-- Words from a word to the end of its page. -/
def toPageEnd (a : Nat) : Nat := Config.pageWords - a % Config.pageWords

/-- The address of the next beat of the open transaction (R27). -/
def State.nextAddr (s : State) (t : Txn) : Nat := beatAddr s.storeWords t.burst t.addr t.beats

/-- The segment a read would be granted: to the end of the page, or one pass round the group (R31). -/
def State.readSegment (s : State) (t : Txn) : GrantUnit :=
  match t.burst with
  | .linear => .linkRead .linear (s.nextAddr t) (toPageEnd (s.nextAddr t)) true
  | .wrapped g => .linkRead (.wrapped g) (s.nextAddr t) g true

/-- The LINK request: a placement unit while the Write Queue holds a beat, else a read's next segment (R30, R34,
R158). -/
def State.linkRequest (s : State) : Option GrantUnit :=
  if s.queue.isEmpty then
    match s.link.txn with
    | some t => if t.wants then some (s.readSegment t) else none
    | none => none
  else some (.placement (unitBeatsOf s.queue))

/-- The FEEDER request: the next segment of the fetch in flight (R117). -/
def State.feederRequest (s : State) : Option GrantUnit :=
  s.feeder.fetch.map fun f =>
    let x := s.slot f.slot
    let a := x.base + f.line * x.pitch + f.pos
    .feeder f.bank f.pos (min (x.width - f.pos) (toPageEnd a)) a true

/-- The RELOAD request: the next segment of the reload in flight (R140). -/
def State.reloadRequest (s : State) : Option GrantUnit :=
  if s.control.reload.inFlight then
    s.control.reload.table.map fun u =>
      .reload u s.control.reload.progress (min Config.reloadWords (u.span - s.control.reload.progress)) true
  else none

/-- The highest-ranked request presented (R156). -/
def State.nextGrant (s : State) : Option GrantUnit :=
  if 8 ≤ s.sc.pendingRefresh then some .refresh
  else match s.feederRequest with
    | some g => some g
    | none => match s.linkRequest with
      | some g => some g
      | none =>
        if 0 < s.sc.pendingRefresh then some .refresh
        else s.reloadRequest

/-- The longest hold of the store (R155). -/
def GrantUnit.longest : GrantUnit → Nat
  | .refresh => 12
  | .feeder _ _ len _ _ => 10 + (len + 1) / 2
  | .linkRead _ _ len _ => 10 + (len + 1) / 2
  | .placement n => 10 + 2 * n
  | .reload _ _ _ _ => 42

/-- A granted read segment is no longer wanted of the arbiter (R31). -/
def State.readGranted (s : State) : State :=
  match s.link.txn with
  | some t => s.setLink { s.link with txn := some { t with wants := false } }
  | none => s

/-- The unit holds the store from now on. -/
def State.grantTo (s : State) (g : GrantUnit) : State :=
  let s := s.setSc { s.sc with grant := some ⟨g, ⟨s.now, g.longest⟩⟩ }
  match g with
  | .linkRead _ _ _ _ => s.readGranted
  | _ => s

/-- A grant decision: with the store in service and free, the highest-ranked request is granted (R153, R156). -/
def State.arbitrate (s : State) : State :=
  if s.sc.init.isSome || s.sc.grant.isSome then s
  else match s.nextGrant with
    | some g => s.grantTo g
    | none => s

/-- The unit that holds the store ends, and the next decision is made (R156). -/
def State.endUnit (s : State) : State := (s.setSc { s.sc with grant := none }).arbitrate

/-! ## Admission (R28, R30, R33) -/

/-- The LRDY condition of the open transaction: a read waits for an empty Write Queue, for the end of initialisation
and for the grant of its first segment; a write in range waits for 64 free entries; one out of range for nothing. -/
def State.admitReady (s : State) (t : Txn) : Bool :=
  if t.write then t.outOfRange || s.queue.length + Config.burstBeats ≤ Config.queueBeats
  else s.queue.isEmpty && !t.wants && s.sc.init.isNone

/-- LRDY (R29). -/
def State.lrdy (s : State) : Bool := s.link.txn.any (·.lrdy)

/-- The word on LD: that of a read beat, at the tick of the link clock that carries it (R31, log 23). -/
def State.ldWord (s : State) : Option Word := (s.link.ld.filter (fun x => x.tick == s.now)).map LdBeat.word

/-- LSTB: high on a link clock that carries a beat, low on every other (R31). -/
def State.lstb (s : State) : Bool := s.ldWord.isSome

/-! ## The tick gate (log 1, log 2) -/

/-- The silence timer: it runs from the last accepted SOS for 4·T_nom ticks (R92). -/
def State.silenceTimer (s : State) : Option Timer :=
  s.scan.lastSos.map (fun t => ⟨t, 4 * s.scan.live.period⟩)

/-- Every timer of the part that may run. -/
def State.timers (s : State) : List (Option Timer) :=
  [s.sc.init, s.sc.refresh, s.sc.grant.map Grant.hold, s.silenceTimer, s.engine.gateTimer, s.engine.doneTimer,
   s.events.sweepPulse, s.events.framePulse, s.events.activity.map Activity.hold,
   s.events.activity.map Activity.blink] ++ s.events.stretch.toList

/-- No running timer ends before tick `u`. -/
def State.noneEndsBefore (s : State) (u : Tick) : Bool :=
  s.timers.all (fun t => t.all (fun t => u ≤ t.ends))

/-- A transaction whose LRDY condition holds while LRDY is still low (R29). -/
def State.admitDue (s : State) : Bool := s.link.txn.any (fun t => !t.lrdy && s.admitReady t)

/-- A step the rules take as soon as it can be taken is still to be taken: LRDY rises when its condition first
holds (R29), a fetch begins as soon as its conditions hold (R115). -/
def State.stepDue (s : State) : Bool := s.admitDue || s.fetchReady.isSome

/-- The part may take a step at tick `u`: not before the step before it, not after a running timer's end, and not
later than a step that is due now. -/
def State.mayReach (s : State) (u : Tick) : Bool :=
  decide (s.now ≤ u) && s.noneEndsBefore u && (u == s.now || !s.stepDue)

/-- A step taken `dt` ticks after the step before it. -/
def State.after (s : State) (dt : Nat) (body : State → Result) : Result :=
  if s.mayReach (s.now + dt) then body (s.setNow (s.now + dt)) else .refused .expiryFirst

/-- The expiry of a timer, taken at the tick the timer ends. -/
def State.atEnd (s : State) (t : Option Timer) (body : State → Result) : Result :=
  match t with
  | none => .refused .timerStopped
  | some t => if s.mayReach t.ends then body (s.setNow t.ends) else .refused .expiryFirst

/-! ## The beat a placement takes (R34, R39) -/

/-- The head beat of the placement unit in progress. -/
def State.headBeat (s : State) : Option Beat :=
  match s.sc.grant with
  | some ⟨.placement n, _⟩ => if n = 0 then none else s.queue.head?
  | _ => none

/-- A placement unit with one beat fewer to place (R34). -/
def GrantUnit.takeBeat : GrantUnit → GrantUnit
  | .placement n => .placement (n - 1)
  | g => g

/-- The head beat leaves the Write Queue, and the unit has one beat fewer to place. -/
def State.dropBeat (s : State) : State := (s.setQueue s.queue.tail).mapUnit GrantUnit.takeBeat

/-- A placement `dt` ticks after the step before: the head beat of the unit in progress is classified and taken from
the queue; `body` has its dispatch for the kinds its row places and answers none for every other kind. -/
def State.place (s : State) (dt : Nat) (body : State → Beat → BeatKind → Option State) : Result :=
  s.after dt fun s =>
    match s.headBeat with
    | none => .refused .noBeat
    | some b =>
      if s.storeWords ≤ b.addr then .fault .outsideStore
      else match body s.dropBeat b (s.classify b) with
        | some s' => .next s'
        | none => .refused .otherBeat

end Sys2Proof.Machine
end

