-- ==== Sys2Proof/Machine/Integrity.lean ====
section
/-! DEFINITION. Reads of the protected memories and the Integrity Monitor's records
(spec/09_table_integrity_monitor.md). -/

namespace Sys2Proof.Machine

/-- The damage of an entry, if any. -/
def State.harmAt (s : State) (m : Mem) (a : Nat) : Option Harm :=
  (s.monitor.damage.find? (fun d => d.mem == m && d.entry == a)).map Damage.harm

/-- Damage arises in an entry. An entry that is damaged beyond correction stays so until it is written afresh
(R165), so a further single flip does not make it correctable (log 8). -/
def State.damageEntry (s : State) (d : Damage) : State :=
  match s.harmAt d.mem d.entry, d.harm with
  | some (.uncorrectable _), .correctable => s
  | _, _ =>
    let s := s.refreshEntry d.mem d.entry
    s.setMonitor { s.monitor with damage := d :: s.monitor.damage }

/-- The damage that has arisen by the time of a step. -/
def State.arise (s : State) (ds : List Damage) : State := ds.foldl State.damageEntry s

/-- The line bank of a memory, for the two bank memories. -/
def State.bankWords (s : State) : Mem → BankWords
  | .bank0 => s.feeder.banks[0].words
  | .bank1 => s.feeder.banks[1].words
  | _ => []

/-- What an entry was last written as. -/
def State.held (s : State) (m : Mem) (a : Nat) : Word :=
  match m with
  | .bank0 | .bank1 => zeroGet (s.bankWords m) a
  | _ => (zeroGet (s.control.shadows.get m) a).setWidth 32

/-- The word a read delivers: as written where there is no error or a corrected one, as it stands where the error is
uncorrectable (R164, R165). -/
def State.delivered (s : State) (m : Mem) (a : Nat) : Word :=
  match s.harmAt m a with
  | some (.uncorrectable bits) => bits
  | _ => s.held m a

/-- A read of this entry gives an uncorrectable indication. -/
def State.readFails (s : State) (m : Mem) (a : Nat) : Bool :=
  match s.harmAt m a with
  | some (.uncorrectable _) => true
  | _ => false

/-- A record after a correctable indication for entry `a` (R166). -/
def Indication.addCorr (r : Indication) (listening : Bool) (a : Nat) : Indication :=
  if listening && !r.corr && !r.uncorr then { r with corr := true, entry := some a }
  else { r with corrOvf := true }

/-- A record after an uncorrectable indication for entry `a` (R166). -/
def Indication.addUncorr (r : Indication) (listening : Bool) (a : Nat) : Indication :=
  if listening && !r.uncorr then { r with uncorr := true, entry := some a }
  else { r with uncorrOvf := true }

/-- Does a record hold an indication (R166)? -/
def Indication.holds (r : Indication) : Bool := r.corr || r.corrOvf || r.uncorr || r.uncorrOvf

/-- The record of a memory. -/
def State.record (s : State) (i : Fin 8) : Indication := s.monitor.records[i]

/-- Replace the record of a memory. -/
def State.setRecord (s : State) (i : Fin 8) (r : Indication) : State :=
  s.setMonitor { s.monitor with records := s.monitor.records.set i r }

/-- What one checked read does beside delivering its word: a corrected entry is rewritten with fresh check bits, the
monitor records the indication, and an uncorrectable one raises INTEGRITY (R164, R165, R166). -/
def State.checkRead (s : State) (m : Mem) (a : Nat) : State :=
  match s.harmAt m a with
  | none => s
  | some .correctable =>
    (s.refreshEntry m a).setRecord m.index
      ((s.record m.index).addCorr (s.monitor.state == .listening) a)
  | some (.uncorrectable _) =>
    (s.setRecord m.index ((s.record m.index).addUncorr (s.monitor.state == .listening) a)).raise .integrity

/-- The checks of one operation's reads, in the order of R163. -/
def State.checkReads (s : State) (reads : List (Mem × Nat)) : State :=
  reads.foldl (fun s r => s.checkRead r.1 r.2) s

/-- Some read of one operation gives an uncorrectable indication. -/
def State.anyFails (s : State) (reads : List (Mem × Nat)) : Bool := reads.any (fun r => s.readFails r.1 r.2)

end Sys2Proof.Machine
end

