-- ==== Sys2Proof/Machine/Convert.lean ====
section
/-! DEFINITION. Grade-to-exposure conversion (spec/04_grade_to_exposure_conversion.md). Channels are 0 R, 1 G, 2 B. -/

namespace Sys2Proof.Machine

/-- The three channels. -/
abbrev Channel := Fin 3

/-- A value per channel, in the field of a code or exposure word (section 11.2): R 29..20, G 19..10, B 9..0. -/
def levelOf (w : Word) (k : Channel) : Nat := field w (20 - 10 * k.val) 10

/-- The exposure word of three levels, the two spare bits 0 (R66, R78). -/
def packLevels (r g b : Nat) : Word := BitVec.ofNat 32 ((r % 1024) * 1048576 + (g % 1024) * 1024 + b % 1024)

/-- The memory that holds a stock set's shadow (R162). -/
def StockSet.mem : StockSet → Mem
  | .a => .stockA
  | .b => .stockB

/-- The half word a stock-set read delivers. -/
def State.stockHalf (s : State) (x : StockSet) (a : Nat) : Half := (s.delivered x.mem a).setWidth 16

/-- Knot `i` of channel `k`, unsigned, a value above 1023 taken as 1023 (R77). -/
def State.knot (s : State) (x : StockSet) (k : Channel) (i : Nat) : Nat :=
  min 1023 (s.stockHalf x (257 * k.val + i)).toNat

/-- Coefficient m_kj (R67, R134). -/
def State.coefficient (s : State) (x : StockSet) (k j : Channel) : Int :=
  (s.stockHalf x (800 + 3 * k.val + j.val)).toInt

/-- Offset o_k (R67, R134). -/
def State.offset (s : State) (x : StockSet) (k : Channel) : Int := (s.stockHalf x (812 + k.val)).toInt

/-- The exact sum of row `k` (R70). -/
def State.mixSum (s : State) (x : StockSet) (w : Word) (k : Channel) : Int :=
  s.coefficient x k 0 * levelOf w 0 + s.coefficient x k 1 * levelOf w 1 + s.coefficient x k 2 * levelOf w 2

/-- The density of channel `k` (R71 to R73); `/` on integers rounds toward minus infinity for a positive divisor. -/
def State.density (s : State) (x : StockSet) (bypass : Bool) (w : Word) (k : Channel) : Nat :=
  let mixed := if bypass then 4 * (levelOf w k : Int) else (s.mixSum x w k + 512) / 1024
  (clampInt 0 4095 (mixed + s.offset x k)).toNat

/-- The exposure level between two knots at fraction `f` (R75). -/
def interpolate (lower upper f : Nat) : Int :=
  (lower : Int) + (((upper : Int) - (lower : Int)) * (f : Int) + 8) / 16

/-- The exposure level of a density (R74, R75). -/
def State.exposureLevel (s : State) (x : StockSet) (k : Channel) (d : Nat) : Nat :=
  (interpolate (s.knot x k (d / 16)) (s.knot x k (d / 16 + 1)) (d % 16)).toNat

/-- The exposure word of a code word through a stock set (R64, R78). -/
def State.convert (s : State) (x : StockSet) (bypass : Bool) (w : Word) : Word :=
  packLevels (s.exposureLevel x 0 (s.density x bypass w 0)) (s.exposureLevel x 1 (s.density x bypass w 1))
    (s.exposureLevel x 2 (s.density x bypass w 2))

/-- The two knots a density of channel `k` reads (R69, R74). -/
def knotReads (k : Channel) (d : Nat) : List Nat := [257 * k.val + d / 16, 257 * k.val + d / 16 + 1]

/-- The stock-set reads of one conversion, in the order of R163. -/
def State.conversionReads (s : State) (x : StockSet) (bypass : Bool) (w : Word) : List (Mem × Nat) :=
  ((if bypass then [] else [800, 801, 802, 803, 804, 805, 806, 807, 808]) ++ [812, 813, 814]
    ++ knotReads 0 (s.density x bypass w 0) ++ knotReads 1 (s.density x bypass w 1)
    ++ knotReads 2 (s.density x bypass w 2)).map (fun a => (x.mem, a))

end Sys2Proof.Machine
end

