-- ==== Sys2Proof/Machine/Fill.lean ====
section
/-! DEFINITION. Fill tracking (spec/03_fill_tracking.md). -/

namespace Sys2Proof.Machine

/-- The cases of R48, in their order; R53 with no free entry is R54. -/
inductive FillCase where
  | rewrite | advance | untracked | merge | extend | newRun | lost
deriving DecidableEq, Repr

/-- The index lies inside some run. -/
def inSomeRun (runs : List Run) (i : Nat) : Bool := runs.any (fun r => r.first ≤ i && i < r.stop)

/-- Some run ends at the index. -/
def endsAt (runs : List Run) (i : Nat) : Bool := runs.any (fun r => r.stop == i)

/-- Some run starts just above the index. -/
def startsAbove (runs : List Run) (i : Nat) : Bool := runs.any (fun r => r.first == i + 1)

/-- The first matching case of R48 for index `i`. -/
def fillCase (c : Coverage) (lost : Bool) (free i : Nat) : FillCase :=
  if i < c.cursor then .rewrite
  else if i = c.cursor then .advance
  else if lost then .untracked
  else if inSomeRun c.runs i then .rewrite
  else if endsAt c.runs i && startsAbove c.runs i then .merge
  else if endsAt c.runs i || startsAbove c.runs i then .extend
  else if free = 0 then .lost
  else .newRun

/-- The cursor takes the end of each first run that starts at it (R50). -/
def absorb (cursor : Nat) : List Run → Coverage
  | [] => ⟨cursor, []⟩
  | r :: rest => if r.first = cursor then absorb r.stop rest else ⟨cursor, r :: rest⟩

/-- The run that ends at `i` and the next, which starts just above it, become one (R52). -/
def mergeRuns (i : Nat) : List Run → List Run
  | a :: b :: rest => if a.stop = i ∧ b.first = i + 1 then ⟨a.first, b.stop⟩ :: rest else a :: mergeRuns i (b :: rest)
  | l => l

/-- The run that `i` touches from outside grows by one (R51). -/
def extendRuns (i : Nat) (runs : List Run) : List Run :=
  runs.map (fun r => if r.stop = i then ⟨r.first, i + 1⟩ else if r.first = i + 1 then ⟨i, r.stop⟩ else r)

/-- A new run of one index, at the position its start calls for (R53). -/
def insertRun (i : Nat) : List Run → List Run
  | [] => [⟨i, i + 1⟩]
  | r :: rest => if i < r.first then ⟨i, i + 1⟩ :: r :: rest else r :: insertRun i rest

/-- The Slot Table's part of completion (R6, R56): COMPLETE is set, and a FILLING slot becomes READY with SLOT_READY. -/
def State.completeSlot (s : State) (n : Fin 8) : State :=
  let x := s.slot n
  if x.state = .filling then
    (s.setSlot n { x with complete := true, state := .ready }).raise .slotReady
  else s.setSlot n { x with complete := true }

/-- The cursor of slot `n` advances over index `i`, absorbs what it meets and may complete the frame (R50, R56). -/
def State.advanceCursor (s : State) (n : Fin 8) : State :=
  let c := s.cover n
  let c' := absorb (c.cursor + 1) c.runs
  let s' := s.setFill
    { cover := s.fill.cover.set n c'
      free := s.fill.free + (c.runs.length - c'.runs.length) }
  if c'.cursor = (s.slot n).size ∧ (s.slot n).lost = false then s'.completeSlot n else s'

/-- The Fill Tracker takes index `i` of slot `n` (R48 to R56). -/
def State.recordFill (s : State) (n : Fin 8) (i : Nat) : State :=
  let c := s.cover n
  let x := s.slot n
  match fillCase c x.lost s.fill.free i with
  | .rewrite => s.setSlot n { x with rewrites := satIncr x.rewrites }
  | .advance => s.advanceCursor n
  | .untracked => s
  | .merge =>
    s.setFill { cover := s.fill.cover.set n { c with runs := mergeRuns i c.runs }, free := s.fill.free + 1 }
  | .extend => s.setCover n { c with runs := extendRuns i c.runs }
  | .newRun =>
    s.setFill { cover := s.fill.cover.set n { c with runs := insertRun i c.runs }, free := s.fill.free - 1 }
  | .lost => ((s.freeRuns n).setSlot n { x with lost := true }).raise .coverageLost

end Sys2Proof.Machine
end

