-- ==== Sys2Proof/Machine/Place.lean ====
section
/-! DEFINITION. The placement rows that are not commands of R147: one per kind of beat (R39 to R42, R136, R144 to
R147). -/

namespace Sys2Proof.Machine

/-- The beat is stored with its enables (R40, R42). -/
def State.storeBeat (s : State) (b : Beat) : State := s.storeWord b.addr b.data b.enables

/-- NO_ENABLE_BEAT (R39 step 1): nothing is stored and nothing changes. -/
def execNoEnableBeat (dt : Nat) (s : State) : Result :=
  s.place dt fun s _ k =>
    match k with
    | .noEnable => some s
    | _ => none

/-- STATUS_PAGE_WRITE (R40): discarded. -/
def execStatusPageWrite (dt : Nat) (s : State) : Result :=
  s.place dt fun s _ k =>
    match k with
    | .status => some s
    | _ => none

/-- STORE_PLAIN_WORD (R40, R42). -/
def execStorePlainWord (dt : Nat) (s : State) : Result :=
  s.place dt fun s b k =>
    match k with
    | .plain => some (s.storeBeat b)
    | _ => none

/-! ## Picture words (R41, R42) -/

/-- A picture word at or below the fetch line is locked (R41 step 1). -/
def Slot.locks (x : Slot) (a : Nat) : Bool :=
  match x.locate a with
  | some (line, _) => (line : Int) ≤ x.fetchLine
  | none => false

/-- The image index of a picture word (R2). -/
def Slot.imageIndex (x : Slot) (a : Nat) : Nat :=
  match x.locate a with
  | some (line, column) => line * x.width + column
  | none => 0

/-- An OPEN slot becomes FILLING at its first converted picture word (R5). -/
def State.startFilling (s : State) (n : Fin 8) : State :=
  if (s.slot n).state = .opened then s.setSlot n { s.slot n with state := .filling } else s

/-- SUSPECT is set by an uncorrectable read of a conversion (R81, R82). -/
def State.markSuspect (s : State) (n : Fin 8) (failed : Bool) : State :=
  if failed then s.setSlot n { s.slot n with suspect := true } else s

/-- Step 3 of R41: the word is converted, the reads checked, the exposure word stored with all four bytes, and its
index recorded. -/
def State.convertBeat (s : State) (n : Fin 8) (b : Beat) : State :=
  let x := s.slot n
  let word := s.convert x.stock x.bypass b.data
  let reads := s.conversionReads x.stock x.bypass b.data
  let s := (s.checkReads reads).markSuspect n (s.anyFails reads)
  let s := (s.startFilling n).storeWord b.addr word 0xF#4
  s.recordFill n (x.imageIndex b.addr)

/-- A picture word dropped by the enable test (R41 step 2, R43). -/
def State.dropPartial (s : State) : State :=
  (s.setLink { s.link with partials := satIncr s.link.partials }).raise .partialPixel

/-- A picture word of slot `n` (R41, R42). -/
def State.pictureBeat (s : State) (n : Fin 8) (b : Beat) : State :=
  let x := s.slot n
  if !x.state.queued || x.locks b.addr then s.raise .writeLocked
  else if b.enables ≠ 0xF#4 then s.dropPartial
  else s.convertBeat n b

/-- PLACE_PICTURE_WORD (R41, R42), with the damage that has arisen in the protected memories (log 8). -/
def execPlacePictureWord (dt : Nat) (arisen : List Damage) (s : State) : Result :=
  s.place dt fun s b k =>
    match k with
    | .picture n => some ((s.arise arisen).pictureBeat n b)
    | _ => none

/-! ## Table words (R136, R141) -/

/-- A reload in flight is disturbed (R141). -/
def State.disturb (s : State) : State :=
  s.setControl { s.control with reload := { s.control.reload with disturbed := true } }

/-- What an entry word does beside being stored (R136). -/
def State.tableWord (s : State) (u : TableUnit) (o : Nat) (b : Beat) : State :=
  let low := b.enables.getLsbD 0
  let high := b.enables.getLsbD 1
  if !low && !high then s
  else match s.tableState u with
    | .valid =>
      if low && high && !s.inUse u then s.capture u o b.data
      else (s.setTable u .stale).raise .tableStale
    | .stale | .empty => s
    | .loading => s.disturb

/-- TABLE_WORD_WRITE (R136). -/
def execTableWordWrite (dt : Nat) (s : State) : Result :=
  s.place dt fun s b k =>
    match k with
    | .entry u o => some ((s.storeBeat b).tableWord u o b)
    | _ => none

/-! ## Staging and settings (R144, R145) -/

/-- The enabled bytes of a beat merged into word `k` of a copy of `m` words; a word the copy does not hold is not
merged (R144). -/
def mergeAt {m : Nat} (v : Vector Word m) (k : Nat) (b : Beat) : Vector Word m :=
  if h : k < m then v.set k (mergeWord v[k] b.data b.enables) else v

/-- Merge into descriptor staging `n` (R144). -/
def State.stageDescriptor (s : State) (n : Fin 8) (k : Nat) (b : Beat) : State :=
  s.setControl { s.control with staging := s.control.staging.set n (mergeAt s.control.staging[n] k b) }

/-- Merge into the scan-settings staging copy (R144). -/
def State.stageScan (s : State) (k : Nat) (b : Beat) : State :=
  s.setControl { s.control with scanStaging := mergeAt s.control.scanStaging k b }

/-- STAGING_WRITE (R40, R144). -/
def execStagingWrite (dt : Nat) (s : State) : Result :=
  s.place dt fun s b k =>
    match k with
    | .descriptor n w => some ((s.storeBeat b).stageDescriptor n w.val b)
    | .scanStaging w => some ((s.storeBeat b).stageScan w.val b)
    | _ => none

/-- Merge into the event settings; they are in effect at once, and a level source found true in LEVEL mode sets its
sticky bit (R145, R173, R175). -/
def State.setEventWord (s : State) (k : Fin 5) (b : Beat) : State :=
  (s.setControl { s.control with eventWords := mergeAt s.control.eventWords k.val b }).resample

/-- EVENT_SETTINGS_WRITE (R175). -/
def execEventSettingsWrite (dt : Nat) (s : State) : Result :=
  s.place dt fun s b k =>
    match k with
    | .eventSetting w => some ((s.storeBeat b).setEventWord w b)
    | _ => none

/-- Merge into a line-function word (R179). -/
def State.setAuxWord (s : State) (n : Fin 4) (b : Beat) : State :=
  s.setControl { s.control with auxWords := mergeAt s.control.auxWords n.val b }

/-- AUX_FUNCTION_WRITE (R179). -/
def execAuxFunctionWrite (dt : Nat) (s : State) : Result :=
  s.place dt fun s b k =>
    match k with
    | .auxFunction n => some ((s.storeBeat b).setAuxWord n b)
    | _ => none

/-! ## The command word's record (R146, R148) -/

/-- The command count rises, the record is written, COMMAND_DONE is raised (R146). -/
def State.recordCommand (s : State) (opcode target : Byte) (o : CmdOutcome) : State :=
  (s.setControl { s.control with
    command := ⟨(s.control.command.count + 1) % 65536, opcode, target, o⟩ }).raise .commandDone

/-- A byte of a beat where it is enabled, else 0 (R146). -/
def enabledByte (b : Beat) (k : Nat) : Byte := if b.enables.getLsbD k then byteOf b.data k else 0

/-- MALFORMED_COMMAND (R146). -/
def execMalformedCommand (dt : Nat) (s : State) : Result :=
  s.place dt fun s b k =>
    match k with
    | .malformed => some ((s.storeBeat b).recordCommand (enabledByte b 0) (enabledByte b 1) .malformed)
    | _ => none

/-- UNKNOWN_COMMAND (R147). -/
def execUnknownCommand (dt : Nat) (s : State) : Result :=
  s.place dt fun s b k =>
    match k with
    | .unknown => some ((s.storeBeat b).recordCommand (byteOf b.data 0) (byteOf b.data 1) .unknown)
    | _ => none

end Sys2Proof.Machine
end

