-- ==== Sys2Proof/Machine/Commands.lean ====
section
/-! DEFINITION. The thirteen commands of R147, each the placement of its command word (R146). -/

namespace Sys2Proof.Machine

/-- The placement of a command word of command `c`: the beat is stored, the command takes effect, and its outcome is
recorded with the opcode and target of the word (R146). -/
def State.runCommand (s : State) (dt : Nat) (c : Cmd) (effect : State → Word → State × CmdOutcome) : Result :=
  s.place dt fun s b k =>
    match k with
    | .command c' =>
      if c' = c then
        let r := effect (s.storeBeat b) b.data
        some (r.1.recordCommand (byteOf b.data 0) (byteOf b.data 1) r.2)
      else none
    | _ => none

/-- A slot command: a target above 7 gives RANGE before any other check (R147). -/
def slotCommand (effect : State → Fin 8 → State × CmdOutcome) (s : State) (w : Word) : State × CmdOutcome :=
  match cmdSlot w with
  | none => (s, .range)
  | some n => effect s n

/-! ## DESCRIBE (R11 to R16) -/

/-- The last word of the region a descriptor describes (R2, R14). -/
def Descriptor.last (d : Descriptor) : Nat := regionLast d.base d.height d.pitch d.width

/-- The region of the descriptor meets that of a non-VACANT slot other than `n` (R14). -/
def State.overlapsOther (s : State) (n : Fin 8) (d : Descriptor) : Bool :=
  (List.finRange 8).any fun m =>
    m != n && (s.slot m).state != .vacant && decide (d.base ≤ (s.slot m).last) && decide ((s.slot m).base ≤ d.last)

/-- The first check of DESCRIBE that fails (R11). -/
def State.describeRefusal (s : State) (n : Fin 8) (d : Descriptor) : Option CmdOutcome :=
  if (s.slot n).state ≠ .vacant then some .busy
  else if !d.inRange then some .range
  else if s.controlBase ≤ d.last ∨ s.overlapsOther n d = true then some .overlap
  else if s.tableState d.stock.table ≠ .valid then some .table
  else none

/-- Slot `n` joins the tail of the Exposure Queue (R22). -/
def State.joinQueue (s : State) (n : Fin 8) : State :=
  s.setSlots { s.slots with queue := s.slots.queue ++ [n] }

/-- Acceptance of a DESCRIBE (R16). -/
def State.acceptSlot (s : State) (n : Fin 8) (d : Descriptor) : State :=
  (((s.setSlot n d.toSlot).setCover n ⟨0, []⟩).joinQueue n).addUser d.stock

/-- DESCRIBE n (R11). -/
def State.describeSlot (s : State) (n : Fin 8) : State × CmdOutcome :=
  let d := Descriptor.ofStaging s.control.staging[n]
  match s.describeRefusal n d with
  | some o => (s, o)
  | none => (s.acceptSlot n d, if d.trimsClamped then .doneClamped else .done)

/-- DESCRIBE (R11 to R16). -/
def execDescribe (dt : Nat) (s : State) : Result := s.runCommand dt .describe (slotCommand State.describeSlot)

/-! ## SEAL, WITHDRAW, RELEASE (R17 to R20) -/

/-- SEAL n (R17, R59). -/
def State.sealFrame (s : State) (n : Fin 8) : State × CmdOutcome :=
  match (s.slot n).state with
  | .opened | .filling =>
    (((s.freeRuns n).setSlot n { s.slot n with state := .ready, sealed := true }).raise .slotReady, .done)
  | _ => (s, .state)

/-- SEAL (R17). -/
def execSealSlot (dt : Nat) (s : State) : Result := s.runCommand dt .sealSlot (slotCommand State.sealFrame)

/-- WITHDRAW n (R18, R19). -/
def State.withdrawSlot (s : State) (n : Fin 8) : State × CmdOutcome :=
  match (s.slot n).state with
  | .opened | .filling | .ready => (((s.discardPrefetch n).leaveQueue n).vacate n, .done)
  | .exposing => (s.abortFrame .withdrawn, .done)
  | _ => (s, .state)

/-- WITHDRAW (R18, R19). -/
def execWithdraw (dt : Nat) (s : State) : Result := s.runCommand dt .withdraw (slotCommand State.withdrawSlot)

/-- RELEASE n (R20). -/
def State.releaseSlot (s : State) (n : Fin 8) : State × CmdOutcome :=
  match (s.slot n).state with
  | .exposed | .faulted => (s.vacate n, .done)
  | _ => (s, .state)

/-- RELEASE (R20). -/
def execRelease (dt : Nat) (s : State) : Result := s.runCommand dt .release (slotCommand State.releaseSlot)

/-! ## RELOAD (R139) -/

/-- Acceptance of a RELOAD (R139). -/
def State.startReload (s : State) (u : TableUnit) : State :=
  let s := s.setTable u .loading
  s.setControl { s.control with reload := ⟨some u, true, 0, false, .none⟩ }

/-- RELOAD t (R139). -/
def State.reloadTable (s : State) (w : Word) : State × CmdOutcome :=
  match cmdTable w with
  | none => (s, .range)
  | some u =>
    if s.control.reload.inFlight then (s, .busy)
    else if s.inUse u then (s, .inUse)
    else (s.startReload u, .started)

/-- RELOAD (R139). -/
def execReload (dt : Nat) (s : State) : Result := s.runCommand dt .reload State.reloadTable

/-! ## RUN, HALT, ABORT (R107 to R109) -/

/-- HALT-pending is set or cleared. -/
def State.setHalt (s : State) (b : Bool) : State := s.setEngine { s.engine with haltPending := b }

/-- What RUN does (R107). -/
def State.runEngine (s : State) : State :=
  match s.engine.state with
  | .stopped => s.enterWaiting
  | _ => s.setHalt false

/-- RUN (R107). -/
def execRun (dt : Nat) (s : State) : Result := s.runCommand dt .run fun s _ => (s.runEngine, .done)

/-- What HALT does (R108). -/
def State.haltEngine (s : State) : State :=
  match s.engine.state with
  | .waiting => s.enterStopped
  | .leading | .imaging | .closing => s.setHalt true
  | .stopped => s

/-- HALT (R108). -/
def execHalt (dt : Nat) (s : State) : Result := s.runCommand dt .halt fun s _ => (s.haltEngine, .done)

/-- What ABORT does (R109). -/
def State.abortEngine (s : State) : State :=
  match s.engine.state with
  | .leading | .imaging => s.abortFrame .aborted
  | .closing | .waiting => s.enterStopped
  | .stopped => s

/-- ABORT (R109). -/
def execAbort (dt : Nat) (s : State) : Result := s.runCommand dt .abort fun s _ => (s.abortEngine, .done)

/-! ## SCAN_APPLY, CLEAR_SCAN_STATS (R86 to R88) -/

/-- The period statistics, the glitch count and the slip count are cleared (R88). -/
def State.clearScanStats (s : State) : State :=
  s.setScan { s.scan with stats := PeriodStats.cleared, glitches := 0, slips := 0 }

/-- The state a nominal period puts the scanner in (R86, R104). -/
def ScanState.afterApply (period : Nat) : ScanState := if period = 0 then .off else .seeking

/-- Facet counting and both runs start afresh, and no last accepted SOS time is present (R86, R104). -/
def ScanUnit.forgotten (x : ScanUnit) : ScanUnit :=
  { x with facet := 0, homeMark := false, inRun := 0, outRun := 0, lastSos := none }

/-- Acceptance of a SCAN_APPLY (R86). -/
def State.applyScan (s : State) : State :=
  let live := (ScanSettings.ofStaging s.control.scanStaging).clamped
  let s := s.clearScanStats
  let s := s.setScan { s.scan.forgotten with live := live }
  s.setScanState (ScanState.afterApply live.period)

/-- SCAN_APPLY (R86, R87). -/
def State.scanApplied (s : State) : State × CmdOutcome :=
  match s.engine.state with
  | .leading | .imaging => (s, .busy)
  | _ =>
    let staged := ScanSettings.ofStaging s.control.scanStaging
    (s.applyScan, if staged.clamped = staged then .done else .doneClamped)

/-- SCAN_APPLY (R86). -/
def execScanApply (dt : Nat) (s : State) : Result := s.runCommand dt .scanApply fun s _ => s.scanApplied

/-- CLEAR_SCAN_STATS (R88). -/
def execClearScanStats (dt : Nat) (s : State) : Result :=
  s.runCommand dt .clearScanStats fun s _ => (s.clearScanStats, .done)

/-! ## CLEAR_EVENTS (R176) -/

/-- The sticky bits a mask names are cleared, and the level sources in LEVEL mode whose condition is true set theirs
again (R176). -/
def State.clearSticky (s : State) (mask : BitVec 16) : State :=
  (s.setEvents { s.events with sticky := s.events.sticky &&& ~~~mask }).resample

/-- CLEAR_EVENTS (R176). -/
def execClearEvents (dt : Nat) (s : State) : Result :=
  s.runCommand dt .clearEvents fun s w => (s.clearSticky (cmdArgument w), .done)

/-! ## MONITOR_STEP, MONITOR_STOP (R167 to R169) -/

/-- The lowest-indexed memory from index `lo` up whose record holds an indication (R168). -/
def State.firstHeld (s : State) (lo : Nat) : Option (Fin 8) :=
  (List.finRange 8).find? (fun i => decide (lo ≤ i.val) && (s.record i).holds)

/-- The monitor takes a state. -/
def State.setMonitorState (s : State) (x : MonitorState) : State := s.setMonitor { s.monitor with state := x }

/-- A memory is presented: its record is copied and cleared (R168). -/
def State.present (s : State) (i : Fin 8) : State :=
  (s.setMonitorState (.reporting i (s.record i))).setRecord i Indication.clear

/-- An activation: LISTENING, with all records cleared at the first (R167). -/
def State.activateMonitor (s : State) : State :=
  s.setMonitor { s.monitor with
    state := .listening
    records := if s.monitor.first then Vector.replicate 8 Indication.clear else s.monitor.records
    first := false }

/-- What MONITOR_STEP does (R167, R168). -/
def State.stepMonitor (s : State) : State :=
  match s.monitor.state with
  | .idle => s.activateMonitor
  | .listening =>
    match s.firstHeld 0 with
    | some i => s.present i
    | none => s
  | .reporting i _ =>
    match s.firstHeld (i.val + 1) with
    | some j => s.present j
    | none => s.setMonitorState .listening

/-- MONITOR_STEP (R167, R168). -/
def execMonitorStep (dt : Nat) (s : State) : Result :=
  s.runCommand dt .monitorStep fun s _ => (s.stepMonitor, .done)

/-- MONITOR_STOP (R169). -/
def execMonitorStop (dt : Nat) (s : State) : Result :=
  s.runCommand dt .monitorStop fun s _ => (s.setMonitorState .idle, .done)

end Sys2Proof.Machine
end

