-- ==== Sys2Proof/Machine/Store.lean ====
section
/-! DEFINITION. The Store Controller's steps: initialisation, refresh, and the ends of the grant units
(spec/08_exposure_store_and_arbiter.md, R117, R140, R142). -/

namespace Sys2Proof.Machine

/-- The refresh timer runs afresh from now (R153, R154). -/
def State.restartRefresh (s : State) : State :=
  s.setSc { s.sc with refresh := some ⟨s.now, Config.refreshTicks⟩ }

/-- STORE_INIT_END (R153). -/
def execStoreInitEnd (s : State) : Result :=
  s.atEnd s.sc.init fun s => .next ((s.setSc { s.sc with init := none }).restartRefresh.arbitrate)

/-- REFRESH_DUE (R154). -/
def execRefreshDue (s : State) : Result :=
  s.atEnd s.sc.refresh fun s =>
    .next ((s.setSc { s.sc with pendingRefresh := s.sc.pendingRefresh + 1 }).restartRefresh.arbitrate)

/-- REFRESH_DONE (R154, R156). -/
def execRefreshDone (dt : Nat) (s : State) : Result :=
  s.after dt fun s =>
    match s.sc.grant with
    | some ⟨.refresh, _⟩ => .next (s.setSc { s.sc with pendingRefresh := s.sc.pendingRefresh - 1 }).endUnit
    | _ => .refused .storeNotHeld

/-- The words a read segment delivers, in the order of R27. -/
def State.segmentAddrs (s : State) (b : Burst) (a len : Nat) : List Nat :=
  (List.range len).map (beatAddr s.storeWords b a)

/-- The words of a wanted read segment go into the read buffer of the open read (R155). -/
def State.fillBuffer (s : State) (addrs : List Nat) : State :=
  match s.link.txn with
  | some t => s.setLink { s.link with txn := some { t with buffer := addrs.map s.loadWord } }
  | none => s

/-- READ_SEGMENT_DONE (R31, R155, R157). -/
def execReadSegmentDone (dt : Nat) (s : State) : Result :=
  s.after dt fun s =>
    match s.sc.grant with
    | some ⟨.linkRead b a len wanted, _⟩ =>
      if wanted then
        if (s.segmentAddrs b a len).any (fun x => s.storeWords ≤ x) then .fault .outsideStore
        else .next (s.fillBuffer (s.segmentAddrs b a len)).endUnit
      else .next s.endUnit
    | _ => .refused .storeNotHeld

/-- PLACEMENT_UNIT_END (R34): every beat of the unit has been placed, or discarded by a bridge reset. -/
def execPlacementUnitEnd (dt : Nat) (s : State) : Result :=
  s.after dt fun s =>
    match s.sc.grant with
    | some ⟨.placement left, _⟩ => if left = 0 then .next s.endUnit else .refused .noBeat
    | _ => .refused .storeNotHeld

/-- The memory of a line bank (R162). -/
def bankMem (b : Fin 2) : Mem := if b = 0 then .bank0 else .bank1

/-- Store words written into a bank from a position up (R117), each with fresh check bits (R162). -/
def State.fillBank (s : State) (b : Fin 2) (pos len addr : Nat) : State :=
  let words := (List.range len).foldl (fun ws j => zeroSet ws (pos + j) (s.loadWord (addr + j))) (s.bank b).words
  let s := s.setBank b { s.bank b with words := words }
  s.setMonitor { s.monitor with
    damage := s.monitor.damage.filter (fun d => !(d.mem == bankMem b && pos ≤ d.entry && d.entry < pos + len)) }

/-- The fetch goes on after a segment of `len` words: after the last word of the line the bank is FULL and the fetch
ends (R117). -/
def State.advanceFetch (s : State) (f : Fetch) (len : Nat) : State :=
  if f.pos + len = (s.slot f.slot).width then
    let s := s.setBank f.bank { s.bank f.bank with state := .full }
    s.setFeeder { s.feeder with fetch := none }
  else s.setFeeder { s.feeder with fetch := some { f with pos := f.pos + len } }

/-- FEEDER_SEGMENT_DONE (R117, R120, R157). -/
def execFeederSegmentDone (dt : Nat) (s : State) : Result :=
  s.after dt fun s =>
    match s.sc.grant, s.feeder.fetch with
    | some ⟨.feeder b pos len addr true, _⟩, some f =>
      if s.storeWords < addr + len then .fault .outsideStore
      else .next ((s.fillBank b pos len addr).advanceFetch f len).endUnit
    | some ⟨.feeder _ _ _ _ _, _⟩, _ => .next s.endUnit
    | _, _ => .refused .storeNotHeld

/-- One word of a reload segment: an entry word is captured with its clamp, a gap word ignored (R140). -/
def State.reloadWord (s : State) (u : TableUnit) (o : Nat) : State :=
  if u.isEntry o then s.capture u o (s.loadWord (s.controlBase + u.area + o)) else s

/-- The words of a reload segment, in ascending order (R140, R151). -/
def State.reloadWords (s : State) (u : TableUnit) (first len : Nat) : State :=
  (List.range len).foldl (fun s j => s.reloadWord u (first + j)) s

/-- The end of a reload (R142); its disturbed mark stays (log 30). -/
def State.endReload (s : State) (u : TableUnit) : State :=
  let r := s.control.reload
  let s := s.setTable u (if r.disturbed then .stale else .valid)
  let s := s.setControl { s.control with
    reload := { r with inFlight := false, outcome := if r.disturbed then .disturbed else .done } }
  s.raise .commandDone

/-- The progress rises by the segment's length, and the reload ends with the span (R140, R142). -/
def State.advanceReload (s : State) (u : TableUnit) (len : Nat) : State :=
  let r := s.control.reload
  let s := s.setControl { s.control with reload := { r with progress := r.progress + len } }
  if r.progress + len = u.span then s.endReload u else s

/-- RELOAD_SEGMENT_DONE (R140, R142, R143). -/
def execReloadSegmentDone (dt : Nat) (s : State) : Result :=
  s.after dt fun s =>
    match s.sc.grant with
    | some ⟨.reload u first len wanted, _⟩ =>
      if wanted then
        if s.storeWords < s.controlBase + u.area + first + len then .fault .outsideStore
        else .next ((s.reloadWords u first len).advanceReload u len).endUnit
      else .next s.endUnit
    | _ => .refused .storeNotHeld

end Sys2Proof.Machine
end

