-- ==== Sys2Proof/Machine/Expose.lean ====
section
/-! DEFINITION. The exposure steps: the begin of a fetch, the Drive Path's pixel clock, GATE, INTERLOCK and the
engine's two timers (spec/06_exposure_engine.md). -/

namespace Sys2Proof.Machine

/-! ## FETCH_BEGIN (R115, R117, R121) -/

/-- The fetch of the target line begins: slot `n` into bank `b` (R115). -/
def State.beginFetch (s : State) (n : Fin 8) (b : Fin 2) : State :=
  let t := s.feeder.target
  let s := s.setBank b { s.bank b with state := .filling, tag := some (n, t) }
  let s := s.setSlot n { s.slot n with fetchLine := t }
  s.setFeeder { s.feeder with target := t + 1, fetch := some ⟨b, n, t, 0⟩ }

/-- FETCH_BEGIN (R115): the first segment is requested at once (R117, R156). -/
def execFetchBegin (dt : Nat) (s : State) : Result :=
  s.after dt fun s =>
    match s.fetchReady with
    | some (n, b) => .next (s.beginFetch n b).arbitrate
    | none => .refused .feederNotReady

/-! ## PIXEL_DRIVE (R122 to R124) -/

/-- A pixel to be sent: the slot, the bank and position, and the sweep's facet. -/
structure Pixel where
  slot : Fin 8
  bank : Fin 2
  pos : Nat
  facet : Nat
deriving DecidableEq, Repr

/-- The pixel of this pixel clock: in IMAGING with INTERLOCK closed, in a sweep that sends a bank, at the W pixel
clocks after the margin (R122, R128). -/
def State.pixel (s : State) : Option Pixel :=
  match s.engine.state, s.engine.slot, s.drive.sweep with
  | .imaging, some n, some sw =>
    match sw.bank with
    | some b =>
      if s.pins.interlock = false ∧ sw.margin ≤ sw.clocks ∧ sw.clocks < sw.margin + (s.slot n).width then
        some ⟨n, b, sw.clocks - sw.margin, sw.facet⟩
      else none
    | none => none
  | _, _, _ => none

/-- The trim of a channel. -/
def Slot.trim (x : Slot) : Channel → Int
  | 0 => x.trimR
  | 1 => x.trimG
  | 2 => x.trimB

/-- The memory of a channel's modulator table (R162). -/
def modulatorMem : Channel → Mem
  | 0 => .modR
  | 1 => .modG
  | 2 => .modB

/-- The facet entry F[φ][k] as read (R134). -/
def State.facetOffset (s : State) (facet : Nat) (k : Channel) : Int :=
  ((s.delivered .facet (3 * facet + k.val)).setWidth 16).toInt

/-- E', the corrected level of channel `k` (R123). -/
def State.correctedLevel (s : State) (px : Pixel) (k : Channel) : Nat :=
  (clampInt 0 1023
    ((levelOf (s.delivered (bankMem px.bank) px.pos) k : Int) + (s.slot px.slot).trim k
      + s.facetOffset px.facet k)).toNat

/-- The seven reads of a pixel, in the order of R163. -/
def State.pixelReads (s : State) (px : Pixel) : List (Mem × Nat) :=
  [(bankMem px.bank, px.pos),
   (.facet, 3 * px.facet), (.facet, 3 * px.facet + 1), (.facet, 3 * px.facet + 2),
   (.modR, s.correctedLevel px 0), (.modG, s.correctedLevel px 1), (.modB, s.correctedLevel px 2)]

/-- M_k[E'_k], the drive of channel `k` (R123). -/
def State.driveOf (s : State) (px : Pixel) (k : Channel) : Half :=
  (s.delivered (modulatorMem k) (s.correctedLevel px k)).setWidth 16

/-- The drives of this pixel clock; the sweep remembers a nonzero one (R122). -/
def State.output (s : State) (r g b : Half) : State :=
  s.setDrive
    { sweep := s.drive.sweep.map (fun sw => { sw with lit := sw.lit || r != 0 || g != 0 || b != 0 })
      red := r, green := g, blue := b }

/-- One more pixel clock of the sweep in progress (R122). -/
def State.countClock (s : State) : State :=
  s.setDrive { s.drive with sweep := s.drive.sweep.map (fun sw => { sw with clocks := sw.clocks + 1 }) }

/-- A pixel is sent: its seven reads are checked, and an uncorrectable one outputs it at drive 0 and marks the line
spoiled (R123, R124). -/
def State.sendPixel (s : State) (px : Pixel) : State :=
  let reads := s.pixelReads px
  let s' := s.checkReads reads
  if s.anyFails reads then s'.markSpoiled.output 0 0 0
  else s'.output (s.driveOf px 0) (s.driveOf px 1) (s.driveOf px 2)

/-- A pixel clock (R122). -/
def State.pixelClock (s : State) : State :=
  match s.pixel with
  | some px => s.countClock.sendPixel px
  | none => s.countClock.output 0 0 0

/-- PIXEL_DRIVE (R122 to R124), with the damage that has arisen in the protected memories (log 8). A pixel clock at
which no pixel is sent gives drive 0 (log 22). -/
def execPixelDrive (dt : Nat) (arisen : List Damage) (s : State) : Result :=
  s.after dt fun s => .next (s.arise arisen).pixelClock

/-! ## GATE (R129, R130) -/

/-- GATE takes a level. -/
def State.setGate (s : State) (high : Bool) : State := s.setPins { s.pins with gate := high }

/-- What a fall of GATE does in the engine (R127, R129, R130). -/
def State.gateFalls (s : State) : State :=
  match s.engine.state with
  | .leading | .imaging => s.abortFrame .gateLost
  | .closing => if s.engine.haltPending then s.enterStopped else s.enterWaiting
  | .stopped | .waiting => s

/-- GATE_FALL (R129). -/
def execGateFall (dt : Nat) (s : State) : Result := s.after dt fun s => .next (s.setGate false).gateFalls

/-- GATE_RISE (R129): the level alone. -/
def execGateRise (dt : Nat) (s : State) : Result := s.after dt fun s => .next (s.setGate true)

/-! ## INTERLOCK (R128) -/

/-- The drives are 0 from this moment; a sweep in progress goes on (R128). -/
def State.zeroDrives (s : State) : State := s.setDrive { s.drive with red := 0, green := 0, blue := 0 }

/-- INTERLOCK_OPEN (R127, R128). -/
def execInterlockOpen (dt : Nat) (s : State) : Result :=
  s.after dt fun s => .next ((s.setInterlock true).zeroDrives.abortFrame .interlock)

/-- INTERLOCK_CLOSE (R128): it restarts nothing. -/
def execInterlockClose (dt : Nat) (s : State) : Result := s.after dt fun s => .next (s.setInterlock false)

/-! ## The engine's timers (R129, R130) -/

/-- GATE_RELEASE_EXPIRY (R130). -/
def execGateReleaseExpiry (s : State) : Result :=
  s.atEnd s.engine.gateTimer fun s => .next (s.raise .gateStuck).enterStopped

/-- DONE_PULSE_END (R129). -/
def execDonePulseEnd (s : State) : Result :=
  s.atEnd s.engine.doneTimer fun s => .next (s.setEngine { s.engine with doneTimer := none })

end Sys2Proof.Machine
end

