-- ==== Sys2Proof/Machine/Status.lean ====
section
/-! DEFINITION. The status page: every word of section 11.5, assembled from the owning blocks' state (R149, R182). -/

namespace Sys2Proof.Machine

/-- A value in `len` bits from bit `lo` up. -/
def at_ (lo len v : Nat) : Nat := (v % 2 ^ len) * 2 ^ lo

/-- A flag at a bit. -/
def flagAt (lo : Nat) (b : Bool) : Nat := if b then 2 ^ lo else 0

/-- A signed value in `len` bits from bit `lo` up, two's complement at its width (R182). -/
def signedAt (lo len : Nat) (v : Int) : Nat := (v % (2 ^ len : Nat)).toNat * 2 ^ lo

/-- State codes of section 11.5. -/
def EngineState.code : EngineState → Nat
  | .stopped => 0 | .waiting => 1 | .leading => 2 | .imaging => 3 | .closing => 4
/-- Blocked-reason codes. -/
def Blocked.code : Blocked → Nat
  | .none => 0 | .noFrame => 1 | .staging => 2 | .tables => 3 | .scan => 4 | .interlock => 5 | .gate => 6
/-- Bank-state codes. -/
def BankState.code : BankState → Nat
  | .free => 0 | .filling => 1 | .full => 2 | .sending => 3
/-- Scanner-state codes. -/
def ScanState.code : ScanState → Nat
  | .off => 0 | .seeking => 1 | .counting => 2 | .locked => 3 | .unsteady => 4
/-- Table-state codes. -/
def TableState.code : TableState → Nat
  | .empty => 0 | .valid => 1 | .stale => 2 | .loading => 3
/-- Monitor-state codes. -/
def MonitorState.code : MonitorState → Nat
  | .idle => 0 | .listening => 1 | .reporting _ _ => 2
/-- Slot-state codes. -/
def SlotState.code : SlotState → Nat
  | .vacant => 0 | .opened => 1 | .filling => 2 | .ready => 3 | .exposing => 4 | .exposed => 5 | .faulted => 6
/-- Fault-cause codes, 0 for absent. -/
def FaultCause.code : Option FaultCause → Nat
  | none => 0
  | some .aborted => 1 | some .withdrawn => 2 | some .gateLost => 3
  | some .scanLost => 4 | some .facetSlip => 5 | some .interlock => 6
/-- Command-outcome codes (section 11.4). -/
def CmdOutcome.code : CmdOutcome → Nat
  | .none => 0 | .done => 1 | .doneClamped => 2 | .started => 3 | .busy => 4 | .inUse => 5
  | .state => 6 | .range => 7 | .overlap => 8 | .table => 9 | .malformed => 10 | .unknown => 11
/-- Reload-outcome codes (section 11.4). -/
def ReloadOutcome.code : ReloadOutcome → Nat
  | .none => 0 | .done => 1 | .disturbed => 2 | .abandoned => 3
/-- Table-unit codes (section 11.4). -/
def TableUnit.code : TableUnit → Nat
  | .stockA => 0 | .stockB => 1 | .modulator => 2 | .facet => 3

/-- One bit per source index (R178). -/
def sourceBits (p : Source → Bool) : Nat := (Source.all.map (fun i => flagAt i.index.val (p i))).sum

/-- The state and tag of a line bank, words 10 and 11 (R131). -/
def State.bankWord (s : State) (b : Fin 2) : Nat :=
  let x := s.bank b
  at_ 0 2 x.state.code
    + (match x.tag with
      | some (n, l) => at_ 4 4 n.val + at_ 16 16 l
      | none => at_ 4 4 15 + at_ 16 16 0xFFFF)

/-- Group 0: identification and engine words (R131, R149). -/
def State.statusEngine (s : State) (o : Nat) : Nat :=
  match o with
  | 0 => at_ 0 16 Config.vendorCode + at_ 16 16 Config.partCode
  | 1 => at_ 0 8 Config.siliconRevision + at_ 16 16 s.sc.size.mib
  | 8 =>
    at_ 0 3 s.engine.state.code + at_ 8 3 s.blockedReason.code + flagAt 16 s.engine.haltPending
      + at_ 24 4 (match s.engine.slot with | some n => n.val | none => 15)
  | 9 => at_ 0 16 s.engine.sweep + at_ 16 16 (match s.engine.line with | some l => l | none => 0xFFFF)
  | 10 => s.bankWord 0
  | 11 => s.bankWord 1
  | 12 => at_ 0 16 s.feeder.target
  | _ => 0

/-- Group 1: scanner words, by offset from 16 (R103). -/
def State.statusScan (s : State) (o : Nat) : Nat :=
  let x := s.scan
  match o with
  | 0 => at_ 0 3 x.state.code + at_ 8 4 x.facet + at_ 16 8 x.inRun + at_ 24 8 x.outRun
  | 1 => at_ 0 32 x.stats.last
  | 2 => at_ 0 32 x.stats.min
  | 3 => at_ 0 32 x.stats.max
  | 4 => at_ 0 16 x.glitches + at_ 16 16 x.slips
  | 5 => at_ 0 8 x.live.facets + at_ 8 8 x.live.lockCount + at_ 16 8 x.live.lossLimit
  | 6 => at_ 0 32 x.live.period
  | 7 => at_ 0 32 x.live.window
  | 8 => at_ 0 16 x.live.margin + at_ 16 16 x.live.gateWait
  | _ => 0

/-- Group 2: event words, by offset from 32 (R178). -/
def State.statusEvents (s : State) (o : Nat) : Nat :=
  match o with
  | 0 => sourceBits s.raw
  | 1 => sourceBits s.stuck
  | 2 => sourceBits s.ident
  | 3 => sourceBits (fun i => s.ident i && s.attnMapped i)
  | 4 => sourceBits (fun i => s.ident i && s.stopMapped i)
  | _ => 0

/-- Group 3: command result record and reload record, by offset from 48 (R148). -/
def State.statusCommand (s : State) (o : Nat) : Nat :=
  let c := s.control.command
  let r := s.control.reload
  match o with
  | 0 => at_ 0 16 c.count + at_ 16 4 c.outcome.code
  | 1 => at_ 0 8 c.opcode.toNat + at_ 8 8 c.target.toNat
  | 2 =>
    at_ 0 3 (match r.table with | some u => u.code | none => 7) + flagAt 8 r.inFlight + flagAt 9 r.disturbed
      + at_ 12 2 r.outcome.code + at_ 16 16 r.progress
  | _ => 0

/-- Group 4: table states, use and user counts, by offset from 64 (R149). -/
def State.statusTables (s : State) (o : Nat) : Nat :=
  match o with
  | 0 =>
    at_ 0 2 (s.tableState .stockA).code + at_ 2 2 (s.tableState .stockB).code
      + at_ 4 2 (s.tableState .modulator).code + at_ 6 2 (s.tableState .facet).code
      + flagAt 8 (s.inUse .stockA) + flagAt 9 (s.inUse .stockB)
      + flagAt 10 (s.inUse .modulator) + flagAt 11 (s.inUse .facet)
      + at_ 16 4 s.slots.usersA + at_ 20 4 s.slots.usersB
  | _ => 0

/-- The memories whose records hold an indication, one mark each from bit 8 up (R170). -/
def State.monitorMarks (s : State) : Nat :=
  ((List.finRange 8).map (fun i => flagAt (8 + i.val) (s.record i).holds)).sum

/-- Group 5: monitor words, by offset from 80 (R170). -/
def State.statusMonitor (s : State) (o : Nat) : Nat :=
  match o with
  | 0 => at_ 0 2 s.monitor.state.code + flagAt 4 s.monitor.first + s.monitorMarks
  | 1 =>
    match s.monitor.state with
    | .reporting i r =>
      at_ 0 4 i.val + flagAt 8 r.corr + flagAt 9 r.corrOvf + flagAt 10 r.uncorr + flagAt 11 r.uncorrOvf
        + at_ 16 14 (r.entry.getD 0)
    | _ => at_ 0 4 15
  | _ => 0

/-- Group 6: link counters and free run-pool count, by offset from 96 (R43, R62). -/
def State.statusLink (s : State) (o : Nat) : Nat :=
  match o with
  | 0 => at_ 0 16 s.link.overruns + at_ 16 16 s.link.outOfRange
  | 1 => at_ 0 16 s.link.partials + at_ 16 8 s.fill.free
  | _ => 0

/-- Position of a slot in the Exposure Queue, 15 when it is not queued (R24, R182). -/
def State.queuePosition (s : State) (n : Fin 8) : Nat := (s.slots.queue.findIdx? (· == n)).getD 15

/-- Slot status record `n`, by offset in the record (R24, R62). -/
def State.statusSlot (s : State) (n : Fin 8) (o : Nat) : Nat :=
  let x := s.slot n
  match o with
  | 0 =>
    at_ 0 3 x.state.code + at_ 8 4 (s.queuePosition n)
      + flagAt 16 x.lost + flagAt 17 x.sealed + flagAt 18 x.complete + flagAt 19 x.suspect + flagAt 20 x.trimClamped
      + at_ 24 3 (FaultCause.code x.cause) + flagAt 28 (x.stock == .b) + flagAt 29 x.bypass
  | 1 => x.frame.toNat
  | 2 => at_ 0 32 x.base
  | 3 => at_ 0 16 x.width + at_ 16 16 x.height
  | 4 => at_ 0 16 x.pitch + at_ 16 16 x.chase
  | 5 => at_ 0 3 x.rep + at_ 8 8 x.lead
  | 6 => signedAt 0 8 x.trimR + signedAt 8 8 x.trimG + signedAt 16 8 x.trimB
  | 7 => at_ 0 16 x.rewrites + at_ 16 16 x.spoiled
  | 8 => at_ 0 16 x.exposed + signedAt 16 16 x.fetchLine
  | 9 => at_ 0 32 (s.cover n).cursor
  | 10 => at_ 0 6 (s.cover n).runs.length
  | _ => 0

/-- The status word at an offset from CB (R149, R182). -/
def State.statusWord (s : State) (o : Nat) : Word :=
  BitVec.ofNat 32 (
    if o < 16 then s.statusEngine o
    else if o < 32 then s.statusScan (o - 16)
    else if o < 48 then s.statusEvents (o - 32)
    else if o < 64 then s.statusCommand (o - 48)
    else if o < 80 then s.statusTables (o - 64)
    else if o < 96 then s.statusMonitor (o - 80)
    else if o < 112 then s.statusLink (o - 96)
    else if o < 128 then 0
    else if o < 256 then s.statusSlot (Fin.ofNat 8 ((o - 128) / 16)) ((o - 128) % 16)
    else 0)

/-- The sixteen words of a status group, from one moment (R35). -/
def State.assembleGroup (s : State) (g : Nat) : List Word := (List.range 16).map (fun k => s.statusWord (16 * g + k))

/-- Is a word in the status page (R133)? -/
def State.isStatus (s : State) (a : Nat) : Bool := s.controlBase ≤ a && a < s.controlBase + Config.statusWords

end Sys2Proof.Machine
end

