-- ==== Sys2Proof/Machine/Link.lean ====
section
/-! DEFINITION. The store link: headers, admission, beats and the end of a transaction
(spec/02_store_link_and_write_placement.md). -/

namespace Sys2Proof.Machine

/-- The open transaction is replaced. -/
def State.setTxn (s : State) (t : Option Txn) : State := s.setLink { s.link with txn := t }

/-- LRDY of the open transaction rises if its condition holds (R29). -/
def State.admitNow (s : State) : State :=
  match s.link.txn with
  | some t => if s.admitReady t then s.setTxn (some { t with lrdy := true }) else s
  | none => s

/-- The transaction a header opens (R26, R28): a read of store words wants its first segment (R30). -/
def State.headerTxn (s : State) (w : Word) : Txn where
  write := headerWrite w
  burst := headerBurst w
  addr := headerAddr w
  outOfRange := decide (s.storeWords ≤ headerAddr w)
  lrdy := false
  beats := 0
  wants := !headerWrite w && decide (headerAddr w < s.storeWords) && !s.isStatus (headerAddr w)
  buffer := []
  snapshot := none

/-- A header at or beyond Z counts and raises LINK_FAULT once for the transaction (R28, R43). -/
def State.countOutOfRange (s : State) : State :=
  (s.setLink { s.link with outOfRange := satIncr s.link.outOfRange }).raise .linkFault

/-- A header opens its transaction (R26, R28, R29). -/
def State.openTxn (s : State) (w : Word) : State :=
  let t := s.headerTxn w
  let s := if t.outOfRange then s.countOutOfRange else s
  ((s.setTxn (some t)).arbitrate).admitNow

/-- LINK_HEADER (R26): both header clocks have been taken; the second word is ignored. With LSEL low and no transaction
open, the header belongs to a transaction whose rest is ignored until LSEL has risen and fallen (R44, R45). While RST
is held LSEL is ignored (R45, log 28). -/
def execLinkHeader (dt : Nat) (word1 _word2 : Word) (s : State) : Result :=
  s.after dt fun s =>
    if s.pins.lselLow then (if s.link.txn.isSome then .refused .headerInTransaction else .next s)
    else
      let s := (s.setPins { s.pins with lselLow := true }).setLink { s.link with ld := none }
      if s.pins.rst then .next s else .next (s.openTxn word1)

/-- READ_ADMIT (R28, R30): LRDY rises for a waiting read. -/
def execReadAdmit (dt : Nat) (s : State) : Result :=
  s.after dt fun s =>
    match s.link.txn with
    | none => .refused .noTransaction
    | some t =>
      if t.write then .refused .noTransaction
      else if !t.lrdy && s.admitReady t then .next (s.setTxn (some { t with lrdy := true }))
      else .refused .notReady

/-- WRITE_ADMIT (R33): LRDY rises for a waiting write. -/
def execWriteAdmit (dt : Nat) (s : State) : Result :=
  s.after dt fun s =>
    match s.link.txn with
    | none => .refused .noTransaction
    | some t =>
      if !t.write then .refused .noTransaction
      else if !t.lrdy && s.admitReady t then .next (s.setTxn (some { t with lrdy := true }))
      else .refused .notReady

/-- A beat that joins the tail of the Write Queue with its address, data and enables (R36). -/
def State.enqueueBeat (s : State) (t : Txn) (data : Word) (en : Enables) : State :=
  ((s.setTxn (some { t with beats := t.beats + 1 })).setQueue (s.queue ++ [⟨s.nextAddr t, data, en⟩])).arbitrate

/-- A beat discarded beyond the 64th; the first of a transaction raises LINK_FAULT (R36, R43). -/
def State.overrunBeat (s : State) (t : Txn) : State :=
  (s.setLink { s.link with
    txn := some { t with beats := t.beats + 1 }
    overruns := satIncr s.link.overruns }).raiseIf (t.beats == Config.burstBeats) .linkFault

/-- WRITE_BEAT (R28, R36). With no transaction open while LSEL is low, the rest of an abandoned transaction is
ignored (R45). -/
def execWriteBeat (dt : Nat) (data : Word) (enables : Enables) (s : State) : Result :=
  s.after dt fun s =>
    match s.link.txn with
    | none => if s.pins.lselLow then .next s else .refused .noTransaction
    | some t =>
      if !t.write then .refused .noTransaction
      else if !t.lrdy then .refused .notReady
      else if t.outOfRange then .next (s.setTxn (some { t with beats := t.beats + 1 }))
      else if t.beats < Config.burstBeats then .next (s.enqueueBeat t data enables)
      else .next (s.overrunBeat t)

/-- The status group in use for a beat: the snapshot of this transaction, or the group assembled now (R35). -/
def State.statusGroup (s : State) (t : Txn) (g : Nat) : List Word :=
  match t.snapshot with
  | some (g', ws) => if g' = g then ws else s.assembleGroup g
  | none => s.assembleGroup g

/-- A delivered beat: LD carries the word with LSTB at this tick, the transaction counts it, and at the end of a segment the next
one is wanted if the next beat is a store word (R31). -/
def State.deliver (s : State) (t : Txn) (w : Word) (buffer : List Word) (snap : Option (Nat × List Word)) : State :=
  let t := { t with beats := t.beats + 1, buffer := buffer, snapshot := snap }
  let t := { t with wants := buffer.isEmpty && !s.isStatus (s.nextAddr t) }
  (s.setLink { s.link with txn := some t, ld := some ⟨w, s.now⟩ }).arbitrate

/-- READ_BEAT (R31, R35). -/
def execReadBeat (dt : Nat) (s : State) : Result :=
  s.after dt fun s =>
    match s.link.txn with
    | none => .refused .noTransaction
    | some t =>
      if t.write then .refused .noTransaction
      else if !t.lrdy || t.outOfRange then .refused .notReady
      else
        let a := s.nextAddr t
        if s.isStatus a then
          let g := (a - s.controlBase) / 16
          let ws := s.statusGroup t g
          .next (s.deliver t (ws.getD ((a - s.controlBase) % 16) 0) t.buffer (some (g, ws)))
        else match t.buffer with
          | w :: rest => .next (s.deliver t w rest none)
          | [] => .refused .notReady

/-- LSEL_RISE (R32, R37): the transaction ends, an ungranted request goes with it, the words of a granted segment are
discarded, queued beats stay. Before a second header clock there is no transaction and nothing changes (R26). -/
def execLselRise (dt : Nat) (s : State) : Result :=
  s.after dt fun s =>
    .next (((s.setPins { s.pins with lselLow := false }).setLink { s.link with txn := none, ld := none }).mapUnit
      GrantUnit.dropRead)

end Sys2Proof.Machine
end

