-- ==== Sys2Proof/Machine/Reset.lean ====
section
/-! DEFINITION. The two resets: power-on, and the assertion and release of RST (00_scope.md, Resets; R25, R44, R45,
R63, R104, R132, R143, R148, R150, R153, R161, R171, R177). -/

namespace Sys2Proof.Machine

/-- The part right after power-on, at the tick of the power-on, with the levels of the inputs then (log 21); the
commands waiting are kept, and the store takes new undefined contents (R152, log 6). -/
def State.powerUp (s : State) (straps : Straps) (gate interlock lselLow : Bool) : State :=
  { State.reset with
    now := s.now
    powerOns := s.powerOns + 1
    pending := s.pending
    pins := ⟨false, interlock, gate, lselLow⟩
    sc := ⟨StoreSize.ofStraps straps, some ⟨s.now, Config.storeInitTicks⟩, none, 0, none⟩ }

/-- POWER_ON (R44, R153, R177): the supply may rise at any tick, whatever was running. -/
def execPowerOn (dt : Nat) (straps : Straps) (gate interlock lselLow : Bool) (s : State) : Result :=
  .next ((s.setNow (s.now + dt)).powerUp straps gate interlock lselLow).resample

/-! ## RST asserted -/

/-- The link and the Write Queue (R45). -/
def State.resetLink (s : State) : State := (s.setLink LinkPort.reset).setQueue []

/-- The unit that holds the store runs on with its words discarded (R45, R157). -/
def GrantUnit.disown (g : GrantUnit) : GrantUnit := g.dropFetch.dropRead.dropReload.dropBeats

/-- The Slot Table and the Fill Tracker (R25, R63). -/
def State.resetSlots (s : State) : State := (s.setSlots SlotTable.reset).setFill FillTracker.reset

/-- A bank as a bridge reset leaves it (R132); its words stay (R171). -/
def Bank.freed (b : Bank) : Bank := { b with state := .free, tag := none }

/-- The engine, the Line Feeder and the Drive Path (R132). -/
def State.resetEngine (s : State) : State :=
  ((s.setEngine Engine.reset).setFeeder ⟨s.feeder.banks.map Bank.freed, 0, none⟩).blankDrive

/-- A table state as a bridge reset leaves it (R143). -/
def TableState.kept : TableState → TableState
  | .loading => .stale
  | x => x

/-- The four table states as a bridge reset leaves them (R143). -/
def TableStates.kept (t : TableStates) : TableStates := ⟨t.stockA.kept, t.stockB.kept, t.modulator.kept, t.facet.kept⟩

/-- The reload record as a bridge reset leaves it (R143); its disturbed mark stays (log 30). -/
def ReloadRecord.abandoned (r : ReloadRecord) : ReloadRecord :=
  if r.inFlight then { r with inFlight := false, outcome := .abandoned } else r

/-- Control Capture: shadows, staging copies and settings are kept (R143, R144, R145, R148). -/
def State.resetControl (s : State) : State :=
  s.setControl { s.control with
    tables := s.control.tables.kept
    command := CommandRecord.reset
    reload := s.control.reload.abandoned }

/-- The Scan Timing Unit keeps its live settings (R104). -/
def State.resetScan (s : State) : State :=
  s.setScan { s.scan.forgotten with
    state := ScanState.afterApply s.scan.live.period, stats := PeriodStats.cleared, glitches := 0, slips := 0 }

/-- The Event Unit keeps its settings and the activity envelope (R177, R179, R180). -/
def State.resetEvents (s : State) : State :=
  s.setEvents ⟨0, Vector.replicate 16 none, none, none, s.events.activity⟩

/-- What the assertion of RST does (R45, R161): the sweep in progress reports at the cut (R180), the blocks take
their bridge-reset values, and the level sources in LEVEL mode set their sticky bits again (R177, log 12). -/
def State.bridgeReset (s : State) : State :=
  let s := s.reportSweep
  let s := s.setPins { s.pins with rst := true }
  let s := s.resetLink.mapUnit GrantUnit.disown
  let s := s.resetSlots.resetEngine.resetControl.resetScan
  let s := s.setMonitorState .idle
  s.resetEvents.resample

/-- RST_ASSERT (R45). -/
def execRstAssert (dt : Nat) (s : State) : Result := s.after dt fun s => .next s.bridgeReset

/-- RST_RELEASE (R45, R150, R161): the straps are read, and the arbiter decides on the requests then presented. With
LSEL low at the release, the rest of that transaction is ignored. -/
def execRstRelease (dt : Nat) (straps : Straps) (lselLow : Bool) (s : State) : Result :=
  s.after dt fun s =>
    if s.pins.rst then
      let s := s.setPins { s.pins with rst := false, lselLow := lselLow }
      .next (s.setSc { s.sc with size := StoreSize.ofStraps straps }).arbitrate
    else .refused .resetNotHeld

end Sys2Proof.Machine
end

