-- ==== Sys2Proof/Machine/Scan.lean ====
section
/-! DEFINITION. The Scan Timing Unit: SOS, HOME and silence (spec/05_scan_timing.md). -/

namespace Sys2Proof.Machine

/-! ## Taking an SOS (R90, R91) -/

/-- The ticks from the last accepted SOS to now (R91). -/
def State.period (s : State) : Option Nat := s.scan.lastSos.map (fun t => s.now - t)

/-- The glitch gate: less than T_nom div 2 ticks after the last accepted SOS (R90). -/
def State.isGlitch (s : State) : Bool :=
  match s.period with
  | some p => p < s.scan.live.period / 2
  | none => false

/-- The statistics after a measured period (R91). -/
def PeriodStats.enter (x : PeriodStats) (p : Nat) : PeriodStats :=
  if x.empty then ⟨false, p, p, p⟩ else ⟨false, p, Nat.min x.min p, Nat.max x.max p⟩

/-- Steps 1 and 2 of R90: the period enters the statistics, and the pulse becomes the last accepted SOS. -/
def State.measure (s : State) : State :=
  s.setScan { s.scan with
    stats := match s.period with
      | some p => s.scan.stats.enter p
      | none => s.scan.stats
    lastSos := some s.now }

/-- The states in which facets are counted (R93). -/
def ScanState.counts : ScanState → Bool
  | .counting | .locked | .unsteady => true
  | _ => false

/-! ## Slip, silence, lock loss -/

/-- Facet counting is given up: SEEKING with φ 0, the HOME mark clear and both runs 0 (R92, R95). -/
def State.seek (s : State) : State :=
  (s.setScan { s.scan with facet := 0, homeMark := false, inRun := 0, outRun := 0 }).setScanState .seeking

/-- A slip (R95), reported to the engine with cause slip (R101). -/
def State.slip (s : State) : State :=
  let s := s.seek
  let s := s.setScan { s.scan with slips := satIncr s.scan.slips }
  (s.raise .facetSlip).abortFrame .facetSlip

/-- Lock loss: COUNTING with both runs 0, φ and the HOME mark kept, reported with cause lock loss (R99, R101). -/
def State.loseLock (s : State) : State :=
  ((s.setScan { s.scan with inRun := 0, outRun := 0 }).setScanState .counting).abortFrame .scanLost

/-! ## Facets (R93) -/

/-- φ and the HOME mark after an accepted SOS in a facet-counting state; none is a slip, HOME missing. The case of φ
below P−1 with the mark set, which R93 says does not arise, advances φ and clears the mark (log 17). -/
def ScanUnit.nextFacet (x : ScanUnit) : Option Nat :=
  if x.facet + 1 < x.live.facets then some (x.facet + 1)
  else if x.homeMark then some 0
  else none

/-! ## Judgement and lock (R97 to R99) -/

/-- The judgements of R97. -/
inductive Judgement where
  | inWindow | outOfWindow | none
deriving DecidableEq, Repr

/-- The judgement of a period (R97). -/
def judge (nominal window : Nat) : Option Nat → Judgement
  | some p => if ((p : Int) - (nominal : Int)).natAbs ≤ window then .inWindow else .outOfWindow
  | none => .none

/-- The lock rules for one judgement, with the report of a lock loss (R98, R99). -/
def State.applyJudgement (s : State) (j : Judgement) : State :=
  let x := s.scan
  match x.state, j with
  | .counting, .inWindow =>
    let s := s.setScan { x with inRun := x.inRun + 1 }
    if x.live.lockCount ≤ x.inRun + 1 then s.setScanState .locked else s
  | .counting, .outOfWindow => s.setScan { x with inRun := 0 }
  | .locked, .outOfWindow =>
    if 1 < x.live.lossLimit then (s.setScan { x with outRun := 1 }).setScanState .unsteady else s.loseLock
  | .unsteady, .inWindow => (s.setScan { x with outRun := 0 }).setScanState .locked
  | .unsteady, .outOfWindow =>
    if x.live.lossLimit ≤ x.outRun + 1 then s.loseLock else s.setScan { x with outRun := x.outRun + 1 }
  | _, _ => s

/-- Steps 3 and 4 of R90 in a facet-counting state, then the pulse is handed on (R93, R97, R100). `p` is the period
measured. -/
def State.countFacet (s : State) (p : Option Nat) : State :=
  match s.scan.nextFacet with
  | none => s.slip.takePulse false
  | some f =>
    let j := judge s.scan.live.period s.scan.live.window p
    let s := s.setScan { s.scan with facet := f, homeMark := false }
    (s.applyJudgement j).takePulse (j == .outOfWindow)

/-- An accepted SOS (R90, R93, R100). -/
def State.acceptSos (s : State) : State :=
  let p := s.period
  let s := s.measure
  if s.scan.state.counts then s.countFacet p else s.takePulse false

/-- A glitch counts and does nothing else (R90). -/
def State.countGlitch (s : State) : State := s.setScan { s.scan with glitches := satIncr s.scan.glitches }

/-- SOS (R89, R90); while RST is held the pulse is ignored (R104). -/
def execSos (dt : Nat) (s : State) : Result :=
  s.after dt fun s =>
    .next (
      if s.pins.rst || s.scan.state == .off then s
      else if s.isGlitch then s.countGlitch
      else s.acceptSos)

/-! ## HOME (R94) -/

/-- HOME in SEEKING: COUNTING with φ = P−1 and the HOME mark set (R94). -/
def State.primeFacets (s : State) : State :=
  (s.setScan { s.scan with facet := s.scan.live.facets - 1, homeMark := true }).setScanState .counting

/-- A HOME by the state it is taken in (R94). -/
def State.takeHome (s : State) : State :=
  match s.scan.state with
  | .off => s
  | .seeking => s.primeFacets
  | .counting | .locked | .unsteady =>
    if s.scan.facet + 1 = s.scan.live.facets ∧ s.scan.homeMark = false then
      s.setScan { s.scan with homeMark := true }
    else s.slip

/-- HOME (R94); while RST is held the pulse is ignored (R104). -/
def execHome (dt : Nat) (s : State) : Result :=
  s.after dt fun s => .next (if s.pins.rst then s else s.takeHome)

/-! ## Silence (R92) -/

/-- The silence timer expires (R92), and in a facet-counting state the change to SEEKING is reported with cause
silence (R101). -/
def State.fallSilent (s : State) : State :=
  let s := s.setScan { s.scan with lastSos := none }
  if s.scan.state.counts then s.seek.abortFrame .scanLost else s

/-- SILENCE_EXPIRY (R92). -/
def execSilenceExpiry (s : State) : Result := s.atEnd s.silenceTimer fun s => .next s.fallSilent

end Sys2Proof.Machine
end

