-- ==== Sys2Proof/Machine/Timers.lean ====
section
/-! DEFINITION. The Event Unit's timers (R172, R179, R180). -/

namespace Sys2Proof.Machine

/-- PULSE_STRETCH_END (R172): the raw condition of the source becomes false. -/
def execPulseStretchEnd (source : Source) (s : State) : Result :=
  s.atEnd s.events.stretch[source.index] fun s =>
    .next (s.setEvents { s.events with stretch := s.events.stretch.set source.index none })

/-- SWEEP_PULSE_END (R179). -/
def execSweepPulseEnd (s : State) : Result :=
  s.atEnd s.events.sweepPulse fun s => .next (s.setEvents { s.events with sweepPulse := none })

/-- FRAME_START_PULSE_END (R179). -/
def execFrameStartPulseEnd (s : State) : Result :=
  s.atEnd s.events.framePulse fun s => .next (s.setEvents { s.events with framePulse := none })

/-- ACTIVITY_EXPIRY (R180): the envelope stops, in whatever half of its blink cycle it stands. -/
def execActivityExpiry (s : State) : Result :=
  s.atEnd (s.events.activity.map Activity.hold) fun s => .next (s.setEvents { s.events with activity := none })

/-- The other half of the blink cycle begins (R180). -/
def Activity.toggle (now : Tick) (a : Activity) : Activity :=
  { a with blink := ⟨now, Config.blinkTicks⟩, high := !a.high }

/-- ACTIVITY_BLINK_TOGGLE (R180). -/
def execActivityBlinkToggle (s : State) : Result :=
  s.atEnd (s.events.activity.map Activity.blink) fun s =>
    .next (s.setEvents { s.events with activity := s.events.activity.map (Activity.toggle s.now) })

end Sys2Proof.Machine
end

