-- ==== Sys2Proof/Machine/Dispatch.lean ====
section
/-! DEFINITION. One arm per row of spec/opcode_table.json. -/

namespace Sys2Proof.Machine

def exec (i : Instr) (s : State) : Host.Outcome State Fault Refusal :=
  match i with
  | .powerOn dt straps gate interlock lselLow => Sys2Proof.Machine.execPowerOn dt straps gate interlock lselLow s
  | .rstAssert dt => Sys2Proof.Machine.execRstAssert dt s
  | .rstRelease dt straps lselLow => Sys2Proof.Machine.execRstRelease dt straps lselLow s
  | .linkHeader dt word1 word2 => Sys2Proof.Machine.execLinkHeader dt word1 word2 s
  | .readAdmit dt => Sys2Proof.Machine.execReadAdmit dt s
  | .writeAdmit dt => Sys2Proof.Machine.execWriteAdmit dt s
  | .writeBeat dt data enables => Sys2Proof.Machine.execWriteBeat dt data enables s
  | .readBeat dt => Sys2Proof.Machine.execReadBeat dt s
  | .lselRise dt => Sys2Proof.Machine.execLselRise dt s
  | .storeInitEnd => Sys2Proof.Machine.execStoreInitEnd s
  | .refreshDue => Sys2Proof.Machine.execRefreshDue s
  | .refreshDone dt => Sys2Proof.Machine.execRefreshDone dt s
  | .readSegmentDone dt => Sys2Proof.Machine.execReadSegmentDone dt s
  | .placementUnitEnd dt => Sys2Proof.Machine.execPlacementUnitEnd dt s
  | .feederSegmentDone dt => Sys2Proof.Machine.execFeederSegmentDone dt s
  | .reloadSegmentDone dt => Sys2Proof.Machine.execReloadSegmentDone dt s
  | .noEnableBeat dt => Sys2Proof.Machine.execNoEnableBeat dt s
  | .placePictureWord dt arisen => Sys2Proof.Machine.execPlacePictureWord dt arisen s
  | .storePlainWord dt => Sys2Proof.Machine.execStorePlainWord dt s
  | .statusPageWrite dt => Sys2Proof.Machine.execStatusPageWrite dt s
  | .tableWordWrite dt => Sys2Proof.Machine.execTableWordWrite dt s
  | .stagingWrite dt => Sys2Proof.Machine.execStagingWrite dt s
  | .eventSettingsWrite dt => Sys2Proof.Machine.execEventSettingsWrite dt s
  | .auxFunctionWrite dt => Sys2Proof.Machine.execAuxFunctionWrite dt s
  | .malformedCommand dt => Sys2Proof.Machine.execMalformedCommand dt s
  | .unknownCommand dt => Sys2Proof.Machine.execUnknownCommand dt s
  | .describe dt => Sys2Proof.Machine.execDescribe dt s
  | .sealSlot dt => Sys2Proof.Machine.execSealSlot dt s
  | .withdraw dt => Sys2Proof.Machine.execWithdraw dt s
  | .release dt => Sys2Proof.Machine.execRelease dt s
  | .reload dt => Sys2Proof.Machine.execReload dt s
  | .run dt => Sys2Proof.Machine.execRun dt s
  | .halt dt => Sys2Proof.Machine.execHalt dt s
  | .abort dt => Sys2Proof.Machine.execAbort dt s
  | .scanApply dt => Sys2Proof.Machine.execScanApply dt s
  | .clearScanStats dt => Sys2Proof.Machine.execClearScanStats dt s
  | .clearEvents dt => Sys2Proof.Machine.execClearEvents dt s
  | .monitorStep dt => Sys2Proof.Machine.execMonitorStep dt s
  | .monitorStop dt => Sys2Proof.Machine.execMonitorStop dt s
  | .sos dt => Sys2Proof.Machine.execSos dt s
  | .home dt => Sys2Proof.Machine.execHome dt s
  | .silenceExpiry => Sys2Proof.Machine.execSilenceExpiry s
  | .fetchBegin dt => Sys2Proof.Machine.execFetchBegin dt s
  | .pixelDrive dt arisen => Sys2Proof.Machine.execPixelDrive dt arisen s
  | .gateFall dt => Sys2Proof.Machine.execGateFall dt s
  | .gateRise dt => Sys2Proof.Machine.execGateRise dt s
  | .interlockOpen dt => Sys2Proof.Machine.execInterlockOpen dt s
  | .interlockClose dt => Sys2Proof.Machine.execInterlockClose dt s
  | .gateReleaseExpiry => Sys2Proof.Machine.execGateReleaseExpiry s
  | .donePulseEnd => Sys2Proof.Machine.execDonePulseEnd s
  | .pulseStretchEnd source => Sys2Proof.Machine.execPulseStretchEnd source s
  | .sweepPulseEnd => Sys2Proof.Machine.execSweepPulseEnd s
  | .frameStartPulseEnd => Sys2Proof.Machine.execFrameStartPulseEnd s
  | .activityExpiry => Sys2Proof.Machine.execActivityExpiry s
  | .activityBlinkToggle => Sys2Proof.Machine.execActivityBlinkToggle s

end Sys2Proof.Machine
end

