-- ==== Sys2Proof/Safety.lean ====
section
/-! DEFINITION. What the statements about the part are written in: frames by block, the premises of a placement, and
the properties that hold of the part at every tick. -/

namespace Sys2Proof.Safety

open Machine

/-! ## Frames -/

/-- The parts of State a command may leave as they were; `now` is not one, since time passes. -/
inductive Block where
  | pending | powerOns | pins | link | queue | store | sc | slots | fill | control | scan | engine | feeder | drive
  | events | monitor
deriving DecidableEq, Repr

/-- A block is the same in two states. The store is compared byte by byte, as a read finds it (R152). -/
def Block.same (b : Block) (s t : State) : Prop :=
  match b with
  | .pending => t.pending = s.pending
  | .powerOns => t.powerOns = s.powerOns
  | .pins => t.pins = s.pins
  | .link => t.link = s.link
  | .queue => t.queue = s.queue
  | .store => ∀ cell, t.storeByte cell = s.storeByte cell
  | .sc => t.sc = s.sc
  | .slots => t.slots = s.slots
  | .fill => t.fill = s.fill
  | .control => t.control = s.control
  | .scan => t.scan = s.scan
  | .engine => t.engine = s.engine
  | .feeder => t.feeder = s.feeder
  | .drive => t.drive = s.drive
  | .events => t.events = s.events
  | .monitor => t.monitor = s.monitor

/-- Every block but the listed ones is the same in `t` as in `s`. -/
def Keeps (except : List Block) (s t : State) : Prop := ∀ b, b ∉ except → b.same s t

/-- The pulse sources of the list, and no other source, have been raised since `s`: their sticky bits are set and
their stretches run from now (R172, R173); the rest of the Event Unit is as it was. -/
def Raised (sources : List Source) (s t : State) : Prop :=
  (∀ i, i ∈ sources → t.stuck i = true ∧ t.events.stretch[i.index] = some ⟨t.now, 1000⟩)
    ∧ (∀ i, i ∉ sources → t.stuck i = s.stuck i ∧ t.events.stretch[i.index] = s.events.stretch[i.index])
    ∧ t.events.sweepPulse = s.events.sweepPulse ∧ t.events.framePulse = s.events.framePulse
    ∧ t.events.activity = s.events.activity

/-- Nothing has changed in the Store Controller but for a grant decision: a unit that held the store holds it (R156,
R157). -/
def OnlyGrants (s t : State) : Prop :=
  t.sc = { s.sc with grant := t.sc.grant } ∧ ∀ g ∈ s.sc.grant, t.sc.grant = some g

/-- The entries `p` names have been written with fresh check bits, so no damage is left in them; every other entry and
the rest of the monitor are as they were (R137, R162). -/
def Refreshed (p : Mem → Nat → Prop) (s t : State) : Prop :=
  t.monitor = { s.monitor with damage := t.monitor.damage }
    ∧ ∀ m e, (p m e → t.harmAt m e = none) ∧ (¬ p m e → t.harmAt m e = s.harmAt m e)

/-- Every slot record but that of slot `n`, and every coverage record but that of slot `n`, is as it was. -/
def OtherSlotsKept (n : Fin 8) (s t : State) : Prop := ∀ m, m ≠ n → t.slot m = s.slot m ∧ t.cover m = s.cover m

/-! ## Premises of a placement -/

/-- Beat `b` is the head of a placement unit of `left + 1` beats, with a step possible `dt` ticks on (R34). -/
def Placing (s : State) (dt : Nat) (b : Beat) (left : Nat) (hold : Timer) (rest : List Beat) : Prop :=
  s.mayReach (s.now + dt) = true ∧ s.sc.grant = some ⟨.placement (left + 1), hold⟩ ∧ s.queue = b :: rest
    ∧ b.addr < s.storeWords

/-- The beat has left the Write Queue and its unit goes on with the beats left (R34). -/
def BeatTaken (s t : State) (dt left : Nat) (hold : Timer) (rest : List Beat) : Prop :=
  t.now = s.now + dt ∧ t.queue = rest ∧ t.sc = { s.sc with grant := some ⟨.placement left, hold⟩ }

/-- Beat `b`, with an enable set, lies at offset `o` of the control region (R39, R40). -/
def ControlBeat (s : State) (b : Beat) (o : Nat) : Prop := b.enables ≠ 0 ∧ b.addr = s.controlBase + o

/-- Word `a` is the picture word of a record at a line and a column (R2). -/
def IsPicture (x : Slot) (a line column : Nat) : Prop :=
  x.state ≠ .vacant ∧ a = x.base + line * x.pitch + column ∧ line < x.height ∧ column < x.width

/-- The store holds the beat's enabled bytes, and every other byte is as it was (R152). -/
def Stored (s t : State) (b : Beat) : Prop :=
  t.powerOns = s.powerOns
    ∧ ∀ cell, t.storeByte cell =
        if cell / 4 = b.addr ∧ b.enables.getLsbD (cell % 4) = true then byteOf b.data (cell % 4) else s.storeByte cell

/-- The beat has left the queue and its word has been stored; the listed blocks may differ beside, no other (R40). -/
def Placed (s t : State) (dt : Nat) (b : Beat) (left : Nat) (hold : Timer) (rest : List Beat) (blocks : List Block) :
    Prop :=
  BeatTaken s t dt left hold rest ∧ Stored s t b ∧ Keeps (.queue :: .store :: .sc :: blocks) s t

/-- Beat `b` is the head beat of its unit, a command word with opcode `op` and target `target` (R146, section
11.4). -/
def Commanding (s : State) (dt : Nat) (b : Beat) (left : Nat) (hold : Timer) (rest : List Beat) (op target : Nat) :
    Prop :=
  Placing s dt b left hold rest ∧ b.addr = s.controlBase + 0x400 ∧ b.enables = 0xF#4 ∧ b.data.toNat % 256 = op
    ∧ b.data.toNat / 256 % 256 = target

/-- A command word was taken with outcome `o` (R146): its word stored, the record written, COMMAND_DONE set, and
nothing else changed but the listed blocks. -/
def Recorded (s t : State) (dt : Nat) (b : Beat) (left : Nat) (hold : Timer) (rest : List Beat) (o : CmdOutcome)
    (blocks : List Block) : Prop :=
  Placed s t dt b left hold rest (.control :: .events :: blocks)
    ∧ t.stuck .commandDone = true ∧ t.events.stretch[Source.commandDone.index] = some ⟨t.now, 1000⟩
    ∧ t.control = { s.control with
        command := ⟨(s.control.command.count + 1) % 65536, b.data.extractLsb' 0 8, b.data.extractLsb' 8 8, o⟩
        tables := t.control.tables, reload := t.control.reload }

/-- A command word was taken with outcome `o`, raising COMMAND_DONE and the listed sources and no other (R146). -/
def Commanded (s t : State) (dt : Nat) (b : Beat) (left : Nat) (hold : Timer) (rest : List Beat) (o : CmdOutcome)
    (sources : List Source) (blocks : List Block) : Prop :=
  Recorded s t dt b left hold rest o blocks ∧ Raised (.commandDone :: sources) s t

/-- The table states and the reload record are as they were. -/
def ReloadKept (s t : State) : Prop := t.control.tables = s.control.tables ∧ t.control.reload = s.control.reload

/-- The fields of a descriptor lie in the ranges of check 3 of DESCRIBE (R12). -/
def FieldsInRange (d : Descriptor) : Prop :=
  (256 ≤ d.width ∧ d.width ≤ 8192 ∧ d.width % 8 = 0) ∧ (16 ≤ d.height ∧ d.height ≤ 6144)
    ∧ (d.width ≤ d.pitch ∧ d.pitch ≤ 16384) ∧ d.base % 64 = 0 ∧ (d.selector = 0 ∨ d.selector = 1) ∧ d.chase ≤ 6144
    ∧ (1 ≤ d.rep ∧ d.rep ≤ 4)

/-! ## What the engine's steps do together -/

/-- No fetch segment that holds the store is wanted: its words are discarded (R120, R157). -/
def FetchDisowned (t : State) : Prop :=
  ∀ g ∈ t.sc.grant, ∀ b pos len addr wanted, g.unit = .feeder b pos len addr wanted → wanted = false

/-- Both banks are FREE, no fetch is in flight, the target line is 0, and the words of a granted fetch segment are no
longer wanted (R106, R113, R120). The bank contents stay. -/
def FeederCleared (s t : State) : Prop :=
  (∀ b, t.bank b = { s.bank b with state := .free, tag := none }) ∧ t.feeder.target = 0 ∧ t.feeder.fetch = none
    ∧ FetchDisowned t

/-- In the Store Controller a granted fetch segment runs on with its words discarded, and nothing else has changed:
any other unit goes on as it was (R120, R157). -/
def FetchDropped (s t : State) : Prop :=
  t.sc = { s.sc with grant := t.sc.grant } ∧ (s.sc.grant = none → t.sc.grant = none)
    ∧ ∀ g ∈ s.sc.grant, match g.unit with
        | .feeder b pos len addr _ => t.sc.grant = some ⟨.feeder b pos len addr false, g.hold⟩
        | _ => t.sc.grant = some g

/-- The fetch in flight has been abandoned: no further segment is requested, and a granted one is discarded (R120). -/
def FetchAbandoned (s t : State) : Prop := t.feeder.fetch = none ∧ FetchDropped s t

/-- What the report of the sweep in progress, made at tick `u`, leaves of the activity envelope (R122, R180): an image
sweep that gave light starts the 120 ms hold again, with the blink phase kept, or starts it with a blink cycle that
begins high; any other sweep, or none, changes nothing. -/
def activityAfter (s : State) (u : Tick) : Option Activity :=
  if s.drive.sweep.any (fun sw => sw.image && sw.lit) then
    match s.events.activity with
    | some a => some { hold := ⟨u, 12000000⟩, blink := a.blink, high := a.high }
    | none => some { hold := ⟨u, 12000000⟩, blink := ⟨u, 10000000⟩, high := true }
  else s.events.activity

/-- The state with the report of its sweep made at tick `u` (R180). -/
def reported (s : State) (u : Tick) : State := { s with events := { s.events with activity := activityAfter s u } }

/-- The state with its scanner in state `x`, where that is a change, and SCAN_UNLOCKED following it (R102, R173). -/
def scanFollowed (s : State) (x : ScanState) : State := if x = s.scan.state then s else s.setScanState x

/-- The state with a SWEEP indication made at tick `u` (R179). -/
def swept (s : State) (u : Tick) : State := { s with events := { s.events with sweepPulse := some ⟨u, 1000⟩ } }

/-- A slot has left the Exposure Queue and its set's users, its runs are back in the pool, and its cursor and every
other slot are as they were (R8, R9, R10). -/
def LeftQueue (s t : State) (n : Fin 8) : Prop :=
  t.slots.queue = s.slots.queue.filter (fun m => m != n)
    ∧ (∀ x, t.users x = if x = (s.slot n).stock then s.users x - 1 else s.users x)
    ∧ t.cover n = { s.cover n with runs := [] } ∧ t.fill.free = s.fill.free + (s.cover n).runs.length
    ∧ OtherSlotsKept n s t

/-- The frame of slot `n` has been aborted with a cause (R9, R106, R126), and the sweep cut has reported (R180).
FRAME_FAULT and the listed sources have been raised, and no other. -/
def Aborted (s t : State) (n : Fin 8) (c : FaultCause) (sources : List Source) : Prop :=
  t.slot n = { s.slot n with state := .faulted, cause := some c, fetchLine := -1 }
    ∧ LeftQueue s t n ∧ FeederCleared s t
    ∧ t.engine = { s.engine with state := .stopped, haltPending := false, slot := none, gateTimer := none }
    ∧ t.drive = ⟨none, 0, 0, 0⟩ ∧ t.expo = false
    ∧ Raised (.frameFault :: sources) (reported s t.now) t

/-- The blocks an abort may change, beside those of its trigger. -/
def abortBlocks : List Block := [.sc, .slots, .fill, .engine, .feeder, .drive, .events]

/-! ## Taking an SOS -/

/-- An SOS `dt` ticks on is accepted (R90). -/
def SosAccepted (s : State) (dt : Nat) : Prop :=
  s.mayReach (s.now + dt) = true ∧ s.pins.rst = false ∧ s.scan.state ≠ .off
    ∧ ∀ t0 ∈ s.scan.lastSos, s.scan.live.period / 2 ≤ s.now + dt - t0

/-- The distance of a period that ends at tick `u` from T_nom, where one is measured (R91, R97). -/
def periodError (s : State) (u : Tick) : Option Nat :=
  s.scan.lastSos.map (fun t0 => (((u - t0 : Nat) : Int) - (s.scan.live.period : Int)).natAbs)

/-- An SOS at tick `u` ends a period that is in window (R97). -/
def InWindow (s : State) (u : Tick) : Prop := ∃ e ∈ periodError s u, e ≤ s.scan.live.window

/-- An SOS at tick `u` ends a period that is out of window (R97). -/
def OutOfWindow (s : State) (u : Tick) : Prop := ∃ e ∈ periodError s u, s.scan.live.window < e

/-- The next accepted SOS is a slip, HOME missing (R93). -/
def HomeMissing (x : ScanUnit) : Prop := x.state.counts = true ∧ x.facet + 1 = x.live.facets ∧ x.homeMark = false

/-- The scan unit at a slip (R95). -/
def slipped (x : ScanUnit) : ScanUnit :=
  { x with state := .seeking, facet := 0, homeMark := false, inRun := 0, outRun := 0, slips := min (x.slips + 1) 65535 }

/-- The events of an SOS that the engine takes no part in: SCAN_UNLOCKED follows the scanner, and a slip raises
FACET_SLIP (R95, R102). -/
def ScanEvents (s t : State) : Prop :=
  (HomeMissing s.scan → Raised [.facetSlip] (scanFollowed s t.scan.state) t)
    ∧ (¬ HomeMissing s.scan → Raised [] (scanFollowed s t.scan.state) t)

/-- Slot `n` is an eligible head (R23). -/
def EligibleHead (s : State) (n : Fin 8) : Prop :=
  s.slots.queue.head? = some n
    ∧ ((s.slot n).state = .ready
      ∨ (s.slot n).state = .filling ∧ 0 < (s.slot n).chase
        ∧ min (s.slot n).chase (s.slot n).height * (s.slot n).width ≤ (s.cover n).cursor)

/-- The fetch of the target line of slot `n` into bank `b` may begin (R115, R116, R118). -/
def FetchConditions (s : State) (n : Fin 8) (b : Fin 2) : Prop :=
  (s.engine.state = .waiting ∧ EligibleHead s n ∧ (s.bank 0).state = .free ∧ (s.bank 1).state = .free
        ∧ s.feeder.target = 0
      ∨ s.engine.state = .leading ∧ s.engine.slot = some n ∧ s.feeder.target = 0
      ∨ s.engine.state = .imaging ∧ s.engine.slot = some n
        ∧ s.feeder.target ≤ s.engine.line.elim 0 (· + 1))
    ∧ s.feeder.target < (s.slot n).height ∧ s.feeder.fetch = none
    ∧ (s.bank b).state = .free ∧ (∀ c, c < b → (s.bank c).state ≠ .free)
    ∧ ((s.slot n).sealed = true ∨ (s.feeder.target + 1) * (s.slot n).width ≤ (s.cover n).cursor)

/-! ## The status page, field by field (section 11.5) -/

/-- A field of the status page: `len` bits from bit `lo` up of the word at an offset from CB show a value. -/
structure Field where
  offset : Nat
  lo : Nat
  len : Nat
  value : Nat
deriving DecidableEq, Repr

/-- A signed value in two's complement at `len` bits (R182). -/
def twos (len : Nat) (v : Int) : Nat := (BitVec.ofInt len v).toNat

/-- Identification, engine, feeder and scanner: offsets 0 to 24. -/
def engineFields (s : State) : List Field :=
  [⟨0, 0, 16, 0x0D57⟩, ⟨0, 16, 16, 0x2460⟩, ⟨1, 0, 8, 1⟩, ⟨1, 16, 16, s.sc.size.mib⟩,
   ⟨8, 0, 3, s.engine.state.code⟩, ⟨8, 8, 3, s.blockedReason.code⟩, ⟨8, 16, 1, s.engine.haltPending.toNat⟩,
   ⟨8, 24, 4, match s.engine.slot with | some n => n.val | none => 15⟩,
   ⟨9, 0, 16, s.engine.sweep⟩, ⟨9, 16, 16, s.engine.line.getD 0xFFFF⟩]
  ++ (List.finRange 2).flatMap (fun b =>
    [⟨10 + b.val, 0, 2, (s.bank b).state.code⟩,
     ⟨10 + b.val, 4, 4, match (s.bank b).tag with | some (n, _) => n.val | none => 15⟩,
     ⟨10 + b.val, 16, 16, match (s.bank b).tag with | some (_, l) => l | none => 0xFFFF⟩])
  ++ [⟨12, 0, 16, s.feeder.target⟩,
   ⟨16, 0, 3, s.scan.state.code⟩, ⟨16, 8, 4, s.scan.facet⟩, ⟨16, 16, 8, s.scan.inRun⟩, ⟨16, 24, 8, s.scan.outRun⟩,
   ⟨17, 0, 32, s.scan.stats.last⟩, ⟨18, 0, 32, s.scan.stats.min⟩, ⟨19, 0, 32, s.scan.stats.max⟩,
   ⟨20, 0, 16, s.scan.glitches⟩, ⟨20, 16, 16, s.scan.slips⟩,
   ⟨21, 0, 8, s.scan.live.facets⟩, ⟨21, 8, 8, s.scan.live.lockCount⟩, ⟨21, 16, 8, s.scan.live.lossLimit⟩,
   ⟨22, 0, 32, s.scan.live.period⟩, ⟨23, 0, 32, s.scan.live.window⟩,
   ⟨24, 0, 16, s.scan.live.margin⟩, ⟨24, 16, 16, s.scan.live.gateWait⟩]

/-- Events, command and reload records, tables, monitor and link: offsets 32 to 97. The presented index, flags and
address are those of the presented copy in REPORTING, and 15 and 0 otherwise (R170). -/
def controlFields (s : State) : List Field :=
  Source.all.flatMap (fun i =>
    [⟨32, i.index, 1, (s.raw i).toNat⟩, ⟨33, i.index, 1, (s.stuck i).toNat⟩, ⟨34, i.index, 1, (s.ident i).toNat⟩,
     ⟨35, i.index, 1, (s.ident i && s.attnMapped i).toNat⟩, ⟨36, i.index, 1, (s.ident i && s.stopMapped i).toNat⟩])
  ++ [⟨48, 0, 16, s.control.command.count⟩, ⟨48, 16, 4, s.control.command.outcome.code⟩,
   ⟨49, 0, 8, s.control.command.opcode.toNat⟩, ⟨49, 8, 8, s.control.command.target.toNat⟩,
   ⟨50, 0, 3, match s.control.reload.table with | some u => u.code | none => 7⟩,
   ⟨50, 8, 1, s.control.reload.inFlight.toNat⟩, ⟨50, 9, 1, s.control.reload.disturbed.toNat⟩,
   ⟨50, 12, 2, s.control.reload.outcome.code⟩, ⟨50, 16, 16, s.control.reload.progress⟩,
   ⟨64, 0, 2, (s.tableState .stockA).code⟩, ⟨64, 2, 2, (s.tableState .stockB).code⟩,
   ⟨64, 4, 2, (s.tableState .modulator).code⟩, ⟨64, 6, 2, (s.tableState .facet).code⟩,
   ⟨64, 8, 1, (decide (0 < s.users .a)).toNat⟩, ⟨64, 9, 1, (decide (0 < s.users .b)).toNat⟩,
   ⟨64, 10, 1, s.expo.toNat⟩, ⟨64, 11, 1, s.expo.toNat⟩, ⟨64, 16, 4, s.users .a⟩, ⟨64, 20, 4, s.users .b⟩,
   ⟨80, 0, 2, s.monitor.state.code⟩, ⟨80, 4, 1, s.monitor.first.toNat⟩]
  ++ (List.finRange 8).map (fun i => ⟨80, 8 + i.val, 1, (s.record i).holds.toNat⟩)
  ++ (match s.monitor.state with
    | .reporting i r =>
      [⟨81, 0, 4, i.val⟩, ⟨81, 8, 1, r.corr.toNat⟩, ⟨81, 9, 1, r.corrOvf.toNat⟩, ⟨81, 10, 1, r.uncorr.toNat⟩,
       ⟨81, 11, 1, r.uncorrOvf.toNat⟩, ⟨81, 16, 14, r.entry.getD 0⟩]
    | _ => [⟨81, 0, 4, 15⟩])
  ++ [⟨96, 0, 16, s.link.overruns⟩, ⟨96, 16, 16, s.link.outOfRange⟩, ⟨97, 0, 16, s.link.partials⟩,
   ⟨97, 16, 8, s.fill.free⟩]

/-- The status record of slot `n`, offset 128 + 16n up. -/
def slotFields (s : State) (n : Fin 8) : List Field :=
  let x := s.slot n
  let o := 128 + 16 * n.val
  [⟨o, 0, 3, x.state.code⟩, ⟨o, 8, 4, if n ∈ s.slots.queue then s.slots.queue.idxOf n else 15⟩,
   ⟨o, 16, 1, x.lost.toNat⟩, ⟨o, 17, 1, x.sealed.toNat⟩, ⟨o, 18, 1, x.complete.toNat⟩, ⟨o, 19, 1, x.suspect.toNat⟩,
   ⟨o, 20, 1, x.trimClamped.toNat⟩, ⟨o, 24, 3, FaultCause.code x.cause⟩, ⟨o, 28, 1, (x.stock == .b).toNat⟩,
   ⟨o, 29, 1, x.bypass.toNat⟩,
   ⟨o + 1, 0, 32, x.frame.toNat⟩, ⟨o + 2, 0, 32, x.base⟩, ⟨o + 3, 0, 16, x.width⟩, ⟨o + 3, 16, 16, x.height⟩,
   ⟨o + 4, 0, 16, x.pitch⟩, ⟨o + 4, 16, 16, x.chase⟩, ⟨o + 5, 0, 3, x.rep⟩, ⟨o + 5, 8, 8, x.lead⟩,
   ⟨o + 6, 0, 8, twos 8 x.trimR⟩, ⟨o + 6, 8, 8, twos 8 x.trimG⟩, ⟨o + 6, 16, 8, twos 8 x.trimB⟩,
   ⟨o + 7, 0, 16, x.rewrites⟩, ⟨o + 7, 16, 16, x.spoiled⟩, ⟨o + 8, 0, 16, x.exposed⟩,
   ⟨o + 8, 16, 16, twos 16 x.fetchLine⟩, ⟨o + 9, 0, 32, (s.cover n).cursor⟩, ⟨o + 10, 0, 6, (s.cover n).runs.length⟩]

/-- Every field of the page. -/
def statusFields (s : State) : List Field :=
  engineFields s ++ controlFields s ++ (List.finRange 8).flatMap (slotFields s)

/-! ## Properties of the part at every tick -/

/-- A level source in LEVEL mode whose condition is true has its sticky bit set (R173). -/
def LevelsStick (s : State) : Prop :=
  ∀ i : Source, i.isLevel = true → s.mode i = .level → s.raw i = true → s.stuck i = true

/-- A reload in flight has read whole steps of 64 words, and a wanted reload segment begins at its progress and takes
the next 64 words of the span, or what is left of it (R140). -/
def ReloadInStep (s : State) : Prop :=
  (s.control.reload.inFlight = true → s.control.reload.progress % 64 = 0)
    ∧ ∀ g ∈ s.sc.grant, ∀ u first len, g.unit = .reload u first len true →
        s.control.reload.inFlight = true ∧ s.control.reload.table = some u ∧ first = s.control.reload.progress
          ∧ len = min 64 (u.span - first)

/-- The group of a burst is one a header can name (R26). -/
def burstFits : Burst → Bool
  | .linear => true
  | .wrapped g => g ≤ 32

/-- Refresh is on time (R154, R155): the count is at most 8; a unit that holds the store and the refresh timer have
not ended and have the lengths of the rules; and when the count is 8 the store is held by a unit that leaves time for
an urgent refresh long before the next due. -/
def RefreshOnTime (s : State) : Prop :=
  s.sc.pendingRefresh ≤ 8
    ∧ (∀ g ∈ s.sc.grant, s.sc.init = none ∧ g.hold.start ≤ s.now ∧ s.now ≤ g.hold.ends ∧ g.hold.length ≤ 266)
    ∧ (∀ t ∈ s.sc.refresh, s.sc.init = none ∧ t.start ≤ s.now ∧ s.now ≤ t.ends ∧ t.length = 780)
    ∧ (∀ t ∈ s.link.txn, burstFits t.burst = true)
    ∧ (s.sc.pendingRefresh = 8 →
        ∃ g ∈ s.sc.grant, ∃ t ∈ s.sc.refresh,
          g.hold.ends ≤ t.start + (if g.unit = .refresh then 278 else 266))

/-- Every drive is 0 whenever the engine is not in IMAGING or INTERLOCK is open (R122). -/
def DrivesBlank (s : State) : Prop :=
  s.engine.state ≠ .imaging ∨ s.pins.interlock = true → s.drive.red = 0 ∧ s.drive.green = 0 ∧ s.drive.blue = 0

/-- The Write Queue holds at most 256 beats, and has room for the rest of the first 64 beats of an answered write
(R36, R38). -/
def QueueHasRoom (s : State) : Prop :=
  s.queue.length ≤ 256
    ∧ ∀ t ∈ s.link.txn, t.write = true → t.lrdy = true → t.outOfRange = false → s.queue.length + (64 - t.beats) ≤ 256

/-- The slots, other than VACANT, EXPOSED and FAULTED ones, that name a stock set (R21). -/
def usersCounted (s : State) (x : StockSet) : Nat :=
  (List.finRange 8).countP (fun n => (s.slot n).state.queued && (s.slot n).stock == x)

/-- The Exposure Queue, the user counts and the engine agree with the slot records (R7, R21, R22, R105, R130). -/
def QueueMatchesSlots (s : State) : Prop :=
  s.slots.queue.Nodup
    ∧ (∀ n, n ∈ s.slots.queue ↔ (s.slot n).state.queued = true)
    ∧ s.slots.usersA = usersCounted s .a ∧ s.slots.usersB = usersCounted s .b
    ∧ (∀ n, (s.slot n).state = .exposing ↔ s.engine.slot = some n)
    ∧ (s.engine.slot.isSome = true ↔ s.expo = true)
    ∧ (∀ n ∈ s.engine.slot, s.head = some n)
    ∧ (s.engine.gateTimer.isSome = true → s.engine.state = .closing)

/-- The regions of described frames lie below CB and share no word; while RST is held there is no frame, no queued
beat and no transaction (R14, R25, R45). -/
def RegionsDisjoint (s : State) : Prop :=
  (∀ n, (s.slot n).state ≠ .vacant →
      0 < (s.slot n).width ∧ 0 < (s.slot n).height ∧ (s.slot n).width ≤ (s.slot n).pitch
        ∧ (s.slot n).last < s.controlBase)
    ∧ (∀ n m, n ≠ m → (s.slot n).state ≠ .vacant → (s.slot m).state ≠ .vacant →
        (s.slot n).last < (s.slot m).base ∨ (s.slot m).last < (s.slot n).base)
    ∧ (s.pins.rst = true → s.queue = [] ∧ s.link.txn = none ∧ ∀ n, (s.slot n).state = .vacant)

/-- The runs lie strictly above `lo`, ascending, each of at least one index, none reaching beyond `hi`, with at least
one unplaced index between neighbours (R46). -/
def runsBetween (hi : Nat) : Nat → List Run → Prop
  | _, [] => True
  | lo, r :: rest => lo < r.first ∧ r.first < r.stop ∧ r.stop ≤ hi ∧ runsBetween hi r.stop rest

/-- The run entries held by all slots (R47). -/
def runsHeld (s : State) : Nat := ((List.finRange 8).map (fun n => (s.cover n).runs.length)).sum

/-- Coverage (R1, R46, R47, R54, R60): every record is as R46 says; a VACANT slot's record is cleared; a slot that is
not queued, or is LOST, holds no runs; held and free entries number 48. -/
def CoverageSound (s : State) : Prop :=
  (∀ n, (s.cover n).cursor ≤ (s.slot n).width * (s.slot n).height
        ∧ runsBetween ((s.slot n).width * (s.slot n).height) (s.cover n).cursor (s.cover n).runs)
    ∧ (∀ n, (s.slot n).state = .vacant → s.slot n = Slot.cleared)
    ∧ (∀ n, (s.slot n).state ≠ .vacant →
        0 < (s.slot n).width ∧ 0 < (s.slot n).height ∧ (s.slot n).width ≤ (s.slot n).pitch)
    ∧ (∀ n, (s.slot n).state.queued = false → (s.cover n).runs = [])
    ∧ (∀ n, (s.slot n).lost = true → (s.cover n).runs = [])
    ∧ s.fill.free + runsHeld s = 48

/-- The live scan settings lie in their ranges (R85). -/
def settingsInRange (x : ScanSettings) : Prop :=
  4 ≤ x.facets ∧ x.facets ≤ 16 ∧ (x.period = 0 ∨ 2000 ≤ x.period ∧ x.period ≤ 2000000) ∧ x.window ≤ x.period / 4
    ∧ 4 ≤ x.lockCount ∧ x.lockCount ≤ 255 ∧ 1 ≤ x.lossLimit ∧ x.lossLimit ≤ 64 ∧ x.margin ≤ 4095
    ∧ 10 ≤ x.gateWait ∧ x.gateWait ≤ 5000

/-- What holds of facet counting in each scanner state (R89, R93, R94, R98, R99). -/
def facetsSound (x : ScanUnit) : Prop :=
  match x.state with
  | .off => x.live.period = 0 ∧ x.facet = 0 ∧ x.homeMark = false ∧ x.inRun = 0 ∧ x.outRun = 0 ∧ x.lastSos = none
  | .seeking => x.live.period ≠ 0 ∧ x.facet = 0 ∧ x.homeMark = false ∧ x.inRun = 0 ∧ x.outRun = 0
  | .counting => x.live.period ≠ 0 ∧ x.facet < x.live.facets ∧ x.inRun < x.live.lockCount ∧ x.outRun = 0
  | .locked => x.live.period ≠ 0 ∧ x.facet < x.live.facets ∧ x.inRun ≤ x.live.lockCount ∧ x.outRun = 0
  | .unsteady =>
    x.live.period ≠ 0 ∧ x.facet < x.live.facets ∧ x.inRun ≤ x.live.lockCount ∧ 1 ≤ x.outRun
      ∧ x.outRun < x.live.lossLimit

/-- The Scan Timing Unit is sound (R85, R90 to R95, R98, R99): settings in range, facets below P with the HOME mark at
P−1 only, the last accepted SOS at most 4·T_nom ticks back, statistics and counts within their bounds. -/
def ScanSound (s : State) : Prop :=
  settingsInRange s.scan.live
    ∧ facetsSound s.scan
    ∧ (s.scan.homeMark = true → s.scan.facet + 1 = s.scan.live.facets)
    ∧ (∀ t ∈ s.scan.lastSos, t ≤ s.now ∧ s.now ≤ t + 4 * s.scan.live.period)
    ∧ (s.scan.stats.empty = true → s.scan.stats = PeriodStats.cleared)
    ∧ s.scan.stats.last ≤ 8000000 ∧ s.scan.stats.min ≤ 8000000 ∧ s.scan.stats.max ≤ 8000000
    ∧ s.scan.glitches ≤ 65535 ∧ s.scan.slips ≤ 65535

/-- The table units are sound (R135, R139, R140): a unit in use is VALID or STALE; a unit is LOADING exactly while a
reload of it is in flight; a wanted reload segment belongs to that reload. -/
def TablesSound (s : State) : Prop :=
  (∀ u, s.inUse u = true → s.tableState u = .valid ∨ s.tableState u = .stale)
    ∧ (∀ u, s.tableState u = .loading ↔ s.control.reload.inFlight = true ∧ s.control.reload.table = some u)
    ∧ (∀ g ∈ s.sc.grant, ∀ u f l, g.unit = .reload u f l true →
        s.control.reload.inFlight = true ∧ s.control.reload.table = some u)

/-- The line banks are sound (R114, R115): a bank is FREE exactly when it has no tag; tagged lines lie below the target
line; the two banks never carry the same tag; a bank is FILLING exactly while a fetch into it is in flight, and that
fetch is of the line it is tagged with; a wanted fetch segment belongs to that fetch. -/
def BanksSound (s : State) : Prop :=
  (∀ b, (s.bank b).state = .free ↔ (s.bank b).tag = none)
    ∧ (∀ b, ∀ x ∈ (s.bank b).tag, x.2 < s.feeder.target)
    ∧ (∀ x ∈ (s.bank 0).tag, (s.bank 1).tag ≠ some x)
    ∧ (∀ b, (s.bank b).state = .filling ↔ ∃ f ∈ s.feeder.fetch, f.bank = b)
    ∧ (∀ f ∈ s.feeder.fetch, (s.bank f.bank).tag = some (f.slot, f.line))
    ∧ (∀ g ∈ s.sc.grant, ∀ b p l a, g.unit = .feeder b p l a true → ∃ f ∈ s.feeder.fetch, f.bank = b ∧ f.pos = p)

/-- Every addressed memory is in its canonical form: the store's cells rise strictly, and the shadows and the banks
list rising entries none of which is 0 (log 6, log 7, log 10). -/
def MemoriesCanonical (s : State) : Prop :=
  s.store.wf = true
    ∧ (∀ m : Mem, zeroWf (s.control.shadows.get m) = true)
    ∧ ∀ b : Fin 2, zeroWf (s.bank b).words = true

end Sys2Proof.Safety
end

