-- ==== Sys2Proof/Certificates/Slice0/Obligations.lean ====
section
/-! DEFINITION. The statements for the provers. Each docstring names the rules of spec/ it formalises. -/

open Sys2Proof Sys2Proof.Machine Sys2Proof.Safety

/-! ## The machine -/

/-- A step at a state with command `c` at the front of its queue is `exec` of `c` with the queue's rest: each command
is taken whole (the queue is the model's, log 15). With no command waiting the part idles (the model's choice, log 3). -/
def Obligations.StepRunsFrontCommand : Prop :=
  (∀ (c : Instr) (rest : List Instr) (s : State), step (s.setPending (c :: rest)) = exec c (s.setPending rest))
    ∧ ∀ s : State, s.pending = [] → step s = .next s

/-! ## Resets -/

/-- POWER_ON. The store side: link and queue (R44), store and controller (R150, R152, R153, R161), slots (R1, R25),
coverage (R63), Control Capture (R143, R144, R148). The exposure side: scanner (R85, R104), engine and feeder (R132),
Event Unit (R177, R179, R180), AUX (R145), monitor (R171). INTERLOCK_OPEN follows the input at once, and STOP with
it. That the reload record's disturbed mark is clear is the model's choice, log 30, and so are the 0 in every bank
word, log 7, and that no entry is damaged, log 8; the levels of the inputs come with the command, log 21. -/
def Obligations.PowerOnClearsThePart : Prop :=
  (∀ (dt : Nat) (straps : Straps) (gate interlock lselLow : Bool) (s : State), ∃ t,
    exec (.powerOn dt straps gate interlock lselLow) s = .next t
      ∧ t.now = s.now + dt ∧ t.pending = s.pending ∧ t.powerOns = s.powerOns + 1
      ∧ t.pins = ⟨false, interlock, gate, lselLow⟩
      ∧ t.link.txn = none ∧ t.link.ld = none ∧ t.lrdy = false ∧ t.lstb = false ∧ t.queue = []
      ∧ t.link.overruns = 0 ∧ t.link.outOfRange = 0 ∧ t.link.partials = 0
      ∧ (∀ cell, sparseGet t.store cell = none)
      ∧ t.storeWords = (if straps.size1 = straps.size0 then 67108864 else if straps.size0 then 134217728 else 268435456)
      ∧ t.sc.init = some ⟨s.now + dt, 20000⟩ ∧ t.sc.refresh = none ∧ t.sc.pendingRefresh = 0 ∧ t.sc.grant = none
      ∧ (∀ n, t.slot n = Slot.cleared)
      ∧ t.slots.queue = [] ∧ t.slots.usersA = 0 ∧ t.slots.usersB = 0
      ∧ (∀ n, (t.cover n).cursor = 0 ∧ (t.cover n).runs = []) ∧ t.fill.free = 48
      ∧ (∀ u, t.tableState u = .empty) ∧ (∀ m a, zeroGet (t.control.shadows.get m) a = 0)
      ∧ t.control.reload = ⟨none, false, 0, false, .none⟩ ∧ t.control.command = ⟨0, 0, 0, .none⟩
      ∧ ∀ (n : Fin 8) (k : Fin 7), (t.control.staging[n])[k] = 0)
    ∧ (∀ (dt : Nat) (straps : Straps) (gate interlock lselLow : Bool) (s : State), ∃ t,
    exec (.powerOn dt straps gate interlock lselLow) s = .next t
      ∧ t.scan.live = ⟨8, 0, 0, 32, 8, 0, 1000⟩ ∧ ScanSettings.ofStaging t.control.scanStaging = t.scan.live
      ∧ t.scan.state = .off ∧ t.scan.facet = 0 ∧ t.scan.homeMark = false ∧ t.scan.inRun = 0 ∧ t.scan.outRun = 0
      ∧ t.scan.lastSos = none ∧ t.scan.stats = ⟨true, 0, 0, 0⟩ ∧ t.scan.glitches = 0 ∧ t.scan.slips = 0
      ∧ t.engine = ⟨.stopped, false, none, 0, none, false, none, none⟩
      ∧ (∀ b, (t.bank b).state = .free ∧ (t.bank b).tag = none ∧ ∀ p, zeroGet (t.bank b).words p = 0)
      ∧ (∀ m e, t.harmAt m e = none) ∧ t.feeder.target = 0 ∧ t.feeder.fetch = none ∧ t.drive.sweep = none
      ∧ t.drive.red = 0 ∧ t.drive.green = 0 ∧ t.drive.blue = 0 ∧ t.expo = false ∧ t.done = false
      ∧ (∀ i, t.mode i = .level ∧ t.bypassed i = false ∧ t.attnMapped i = false)
      ∧ (∀ i, t.enabled i = true ↔ i = .frameFault ∨ i = .interlockOpen ∨ i = .gateStuck)
      ∧ (∀ i, t.stopMapped i = true ↔ i = .frameFault ∨ i = .interlockOpen ∨ i = .gateStuck)
      ∧ (∀ i, t.stuck i = true ↔ i = .interlockOpen ∧ interlock = true)
      ∧ (∀ i : Fin 16, t.events.stretch[i] = none) ∧ t.events.sweepPulse = none ∧ t.events.framePulse = none
      ∧ t.events.activity = none ∧ t.attn = false ∧ t.stop = interlock
      ∧ (∀ n : Fin 4, t.aux n = false ∧ (t.control.auxWords[n]).toNat % 16 = 0)
      ∧ t.monitor.state = .idle ∧ t.monitor.first = true ∧ ∀ i, t.record i = ⟨false, false, false, false, none⟩)
    ∧ Slot.cleared =
        { state := .vacant, frame := 0, base := 0, width := 0, height := 0, pitch := 0, stock := .a, bypass := false,
          chase := 0, rep := 0, lead := 0, trimR := 0, trimG := 0, trimB := 0, lost := false, sealed := false,
          complete := false, suspect := false, trimClamped := false, rewrites := 0, spoiled := 0, exposed := 0,
          cause := none, fetchLine := -1 }

/-- RST_ASSERT. What the assertion clears in the link (R45), the Slot Table (R25), the Fill Tracker (R63) and Control
Capture (R143, R148), and what it keeps (R143, R144, R145, R161); scanner (R104), engine, feeder and drives (R132),
Event Unit (R177, R179), the activity envelope on the report of the sweep cut (R180), monitor (R171). That a mode other
than LEVEL records nothing at the reset is the model's reading, log 12; that the reload record's disturbed mark stays,
log 30. -/
def Obligations.BridgeResetKeepsStoreAndTables : Prop :=
  (∀ (dt : Nat) (s : State), s.mayReach (s.now + dt) = true → ∃ t,
    exec (.rstAssert dt) s = .next t
      ∧ t.now = s.now + dt ∧ Keeps [.pins, .link, .queue, .sc, .slots, .fill, .control, .scan, .engine, .feeder,
          .drive, .events, .monitor] s t
      ∧ t.pins = { s.pins with rst := true }
      ∧ t.link.txn = none ∧ t.link.ld = none ∧ t.lrdy = false ∧ t.lstb = false ∧ t.queue = []
      ∧ t.link.overruns = 0 ∧ t.link.outOfRange = 0 ∧ t.link.partials = 0
      ∧ t.sc.size = s.sc.size ∧ t.sc.init = s.sc.init ∧ t.sc.refresh = s.sc.refresh
      ∧ t.sc.pendingRefresh = s.sc.pendingRefresh ∧ t.sc.grant.map Grant.hold = s.sc.grant.map Grant.hold
      ∧ (∀ g ∈ t.sc.grant, match g.unit with
          | .refresh => True
          | .placement left => left = 0
          | .feeder _ _ _ _ wanted | .linkRead _ _ _ wanted | .reload _ _ _ wanted => wanted = false)
      ∧ (∀ n, t.slot n = Slot.cleared) ∧ t.slots.queue = [] ∧ t.slots.usersA = 0 ∧ t.slots.usersB = 0
      ∧ (∀ n, (t.cover n).cursor = 0 ∧ (t.cover n).runs = []) ∧ t.fill.free = 48
      ∧ t.control.shadows = s.control.shadows ∧ t.control.staging = s.control.staging
      ∧ t.control.scanStaging = s.control.scanStaging ∧ t.control.eventWords = s.control.eventWords
      ∧ t.control.auxWords = s.control.auxWords
      ∧ (∀ u, t.tableState u = if s.tableState u = .loading then .stale else s.tableState u)
      ∧ t.control.reload = (if s.control.reload.inFlight then
          { s.control.reload with inFlight := false, outcome := .abandoned } else s.control.reload)
      ∧ t.control.command = ⟨0, 0, 0, .none⟩)
    ∧ (∀ (dt : Nat) (s : State), s.mayReach (s.now + dt) = true → ∃ t,
    exec (.rstAssert dt) s = .next t
      ∧ t.scan.live = s.scan.live ∧ t.scan.state = (if s.scan.live.period = 0 then .off else .seeking)
      ∧ t.scan.facet = 0 ∧ t.scan.homeMark = false ∧ t.scan.inRun = 0 ∧ t.scan.outRun = 0
      ∧ t.scan.lastSos = none ∧ t.scan.stats = ⟨true, 0, 0, 0⟩ ∧ t.scan.glitches = 0 ∧ t.scan.slips = 0
      ∧ t.engine = ⟨.stopped, false, none, 0, none, false, none, none⟩
      ∧ (∀ b, (t.bank b).state = .free ∧ (t.bank b).tag = none ∧ (t.bank b).words = (s.bank b).words)
      ∧ t.feeder.target = 0 ∧ t.feeder.fetch = none ∧ t.drive = ⟨none, 0, 0, 0⟩
      ∧ (∀ i, t.stuck i = true ↔ i.isLevel = true ∧ s.mode i = .level ∧ t.raw i = true)
      ∧ (∀ i : Fin 16, t.events.stretch[i] = none) ∧ t.events.sweepPulse = none ∧ t.events.framePulse = none
      ∧ t.events.activity = activityAfter s (s.now + dt)
      ∧ t.monitor.state = .idle ∧ t.monitor.first = s.monitor.first ∧ t.monitor.records = s.monitor.records
      ∧ t.monitor.damage = s.monitor.damage)

/-- RST_RELEASE reads the straps and goes on without initialisation, LSEL at the level it then has, and the arbiter decides on
the requests then presented (R45, R150, R156, R161).
While RST is held, SOS and HOME are ignored and a header opens no transaction (R45, R104; the level of LSEL is followed,
log 28). While LSEL stays low after a release, the header and the write beats of that transaction are ignored (R45). -/
def Obligations.RstIsHeldAndReleased : Prop :=
  (∀ (dt : Nat) (straps : Straps) (lselLow : Bool) (s : State),
    s.mayReach (s.now + dt) = true → s.pins.rst = true → ∃ t,
    exec (.rstRelease dt straps lselLow) s = .next t
      ∧ t.now = s.now + dt ∧ Keeps [.pins, .link, .sc] s t
      ∧ t.pins = { s.pins with rst := false, lselLow := lselLow } ∧ (s.link.txn = none → t.link = s.link)
      ∧ t.storeWords = (if straps.size1 = straps.size0 then 67108864 else if straps.size0 then 134217728 else 268435456)
      ∧ t.controlBase + 262144 = t.storeWords
      ∧ t.sc.init = s.sc.init ∧ t.sc.refresh = s.sc.refresh ∧ t.sc.pendingRefresh = s.sc.pendingRefresh
      ∧ (∀ g ∈ s.sc.grant, t.sc.grant = some g)
      ∧ t = State.arbitrate { s with now := s.now + dt, pins := t.pins, sc := { s.sc with size := t.sc.size } })
    ∧ (∀ (dt : Nat) (w1 w2 : Word) (s : State), s.mayReach (s.now + dt) = true → s.pins.rst = true →
    exec (.sos dt) s = .next { s with now := s.now + dt }
      ∧ exec (.home dt) s = .next { s with now := s.now + dt }
      ∧ (s.pins.lselLow = false → exec (.linkHeader dt w1 w2) s =
          .next { s with now := s.now + dt, pins := { s.pins with lselLow := true }, link := { s.link with ld := none } }))
    ∧ (∀ (dt : Nat) (w1 w2 : Word) (en : Enables) (s : State),
    s.mayReach (s.now + dt) = true → s.pins.lselLow = true → s.link.txn = none →
      exec (.linkHeader dt w1 w2) s = .next { s with now := s.now + dt }
        ∧ exec (.writeBeat dt w1 en) s = .next { s with now := s.now + dt })

/-! ## The store link -/

/-- The beat addresses of R27: a linear burst runs upward modulo Z, a wrapped one runs round its aligned group and
comes back to its first address after g beats. -/
def Obligations.BeatAddressesFollowTheBurst : Prop :=
  (∀ z a k, beatAddr z .linear a k = (a + k) % z)
    ∧ ∀ g z a k, g = 8 ∨ g = 16 ∨ g = 32 →
        beatAddr z (.wrapped g) a k / g = a / g ∧ beatAddr z (.wrapped g) a k % g = (a + k) % g
          ∧ beatAddr z (.wrapped g) a (k + g) = beatAddr z (.wrapped g) a k
          ∧ beatAddr z (.wrapped g) a k / 512 = a / 512

/-- LINK_HEADER decodes direction, burst, group and address and tests the address against Z (R26, R28, R43). A read of
store words wants its first segment, until a grant decision made at once gives it (R30, R156); nothing but that decision
changes in the Store Controller. -/
def Obligations.HeaderOpensTransaction : Prop :=
  ∀ (dt : Nat) (w1 w2 : Word) (s : State),
    s.mayReach (s.now + dt) = true → s.pins.lselLow = false → s.pins.rst = false → ∃ t x,
      exec (.linkHeader dt w1 w2) s = .next t
        ∧ t.now = s.now + dt ∧ Keeps [.pins, .link, .sc, .events] s t ∧ t.pins = { s.pins with lselLow := true }
        ∧ t.link.txn = some x ∧ t.lstb = false ∧ OnlyGrants s t
        ∧ t.link = { s.link with txn := some x, ld := none, outOfRange := t.link.outOfRange }
        ∧ x.write = w1.getLsbD 31
        ∧ x.burst = (if w1.getLsbD 30 then
            .wrapped (if w1.toNat / 2 ^ 28 % 4 = 0 then 8 else if w1.toNat / 2 ^ 28 % 4 = 1 then 16 else 32)
          else .linear)
        ∧ x.addr = w1.toNat % 2 ^ 28 ∧ x.beats = 0 ∧ x.buffer = [] ∧ x.snapshot = none
        ∧ (x.outOfRange = true ↔ s.storeWords ≤ x.addr)
        ∧ (x.wants = true → x.write = false ∧ x.addr < s.storeWords ∧ s.isStatus x.addr = false)
        ∧ (x.write = false → x.addr < s.storeWords → s.isStatus x.addr = false →
            x.wants = true ∨ s.sc.grant = none ∧ ∃ g ∈ t.sc.grant, ∃ len, g.unit = .linkRead x.burst x.addr len true)
        ∧ t.link.overruns = s.link.overruns ∧ t.link.partials = s.link.partials
        ∧ t.link.outOfRange = (if s.storeWords ≤ x.addr then min (s.link.outOfRange + 1) 65535 else s.link.outOfRange)
        ∧ Raised (if s.storeWords ≤ x.addr then [.linkFault] else []) s t

/-- LRDY at the header: a write out of range is answered at once and one in range with 64 free entries (R28, R33); a
read waits for an empty queue and the end of initialisation, and a read of store words for the grant of its first
segment, which an idle store gives at once unless the feeder or an urgent refresh is served first (R30, R156, log 29).
That an out-of-range read, too, waits for the end of initialisation is the model's reading, log 13.
READ_ADMIT and WRITE_ADMIT: LRDY rises later when the condition holds, and nothing else changes (R29). -/
def Obligations.LrdyRisesWhenItsConditionHolds : Prop :=
  (∀ s : State, s.lrdy = true ↔ ∃ x ∈ s.link.txn, x.lrdy = true)
    ∧ (∀ (dt : Nat) (w1 w2 : Word) (s t : State) (x : Txn),
    s.pins.rst = false → exec (.linkHeader dt w1 w2) s = .next t → t.link.txn = some x →
      (x.write = true → x.outOfRange = true → x.lrdy = true)
        ∧ (x.write = true → x.outOfRange = false → (x.lrdy = true ↔ s.queue.length ≤ 192))
        ∧ (x.write = false → x.outOfRange = true ∨ s.isStatus x.addr = true →
            (x.lrdy = true ↔ s.queue = [] ∧ s.sc.init = none))
        ∧ (x.write = false → x.outOfRange = false → s.isStatus x.addr = false →
            (x.lrdy = true ↔ s.queue = [] ∧ s.sc.init = none ∧ s.sc.grant = none ∧ s.feeder.fetch = none
              ∧ s.sc.pendingRefresh < 8)))
    ∧ (∀ (dt : Nat) (s : State) (x : Txn),
    s.mayReach (s.now + dt) = true → s.link.txn = some x → x.lrdy = false →
      (x.write = true → x.outOfRange = true ∨ s.queue.length ≤ 192 →
        exec (.writeAdmit dt) s =
          .next { s with now := s.now + dt, link := { s.link with txn := some { x with lrdy := true } } })
        ∧ (x.write = false → s.queue = [] → x.wants = false → s.sc.init = none →
          exec (.readAdmit dt) s =
            .next { s with now := s.now + dt, link := { s.link with txn := some { x with lrdy := true } } }))

/-- WRITE_BEAT (R28, R36, R43): the first 64 beats of a write in range join the tail of the Write Queue with address,
data and enables, and the grant decision a free store then makes (R34, R156) is all that changes beside; a later one is discarded, counted, and the first of them raises LINK_FAULT; a beat of a write out
of range is discarded. -/
def Obligations.WriteBeatJoinsTheQueueOrIsDiscarded : Prop :=
  ∀ (dt : Nat) (data : Word) (en : Enables) (s : State) (x : Txn),
    s.mayReach (s.now + dt) = true → s.link.txn = some x → x.write = true → x.lrdy = true →
      (x.outOfRange = true → exec (.writeBeat dt data en) s =
        .next { s with now := s.now + dt, link := { s.link with txn := some { x with beats := x.beats + 1 } } })
        ∧ (x.outOfRange = false → x.beats < 64 → ∃ t, exec (.writeBeat dt data en) s = .next t
            ∧ t.now = s.now + dt ∧ Keeps [.link, .queue, .sc] s t
            ∧ t.queue = s.queue ++ [⟨beatAddr s.storeWords x.burst x.addr x.beats, data, en⟩]
            ∧ t.link = { s.link with txn := some { x with beats := x.beats + 1 } } ∧ OnlyGrants s t
            ∧ t = State.arbitrate { s with
                now := s.now + dt, queue := s.queue ++ [⟨beatAddr s.storeWords x.burst x.addr x.beats, data, en⟩]
                link := { s.link with txn := some { x with beats := x.beats + 1 } } })
        ∧ (x.outOfRange = false → 64 ≤ x.beats → ∃ t, exec (.writeBeat dt data en) s = .next t
            ∧ t.now = s.now + dt ∧ Keeps [.link, .events] s t
            ∧ t.link = { s.link with
                txn := some { x with beats := x.beats + 1 }, overruns := min (s.link.overruns + 1) 65535 }
            ∧ Raised (if x.beats = 64 then [.linkFault] else []) s t)

/-- READ_BEAT (R31, R35): a status word comes from the snapshot of its group in use, or from a group assembled at this
beat, and every later beat of the group comes from the same snapshot; a store word is the next of the segment read. LD
carries it with LSTB at the tick of the beat. With the buffer empty and a store word next, the next segment is wanted,
and the grant decision a free store then makes (R156) is all that changes outside the transaction and LD. No other
command raises LSTB, and at any later tick it is low. When a word is there is the model's reading, log 16; that a
link clock is one tick, log 23. -/
def Obligations.ReadBeatDeliversStatusOrStoreWord : Prop :=
  (∀ s : State, s.lstb = s.ldWord.isSome
      ∧ s.ldWord = (match s.link.ld with | some x => if x.tick = s.now then some x.word else none | none => none))
    ∧ (∀ (dt : Nat) (s : State) (x : Txn) (a a' : Nat),
    s.mayReach (s.now + dt) = true → s.link.txn = some x → x.write = false → x.lrdy = true → x.outOfRange = false →
    a = beatAddr s.storeWords x.burst x.addr x.beats → a' = beatAddr s.storeWords x.burst x.addr (x.beats + 1) →
      (s.isStatus a = true → ∃ t y w, exec (.readBeat dt) s = .next t
        ∧ t.now = s.now + dt ∧ Keeps [.link, .sc] s t ∧ t.link.txn = some y ∧ y.beats = x.beats + 1
        ∧ OnlyGrants s t ∧ t.link = { s.link with txn := some y, ld := some ⟨w, t.now⟩ }
        ∧ t = State.arbitrate { s with
            now := s.now + dt
            link := { s.link with
              txn := some { x with
                beats := x.beats + 1, snapshot := y.snapshot, wants := x.buffer.isEmpty && !s.isStatus a' }
              ld := some ⟨w, s.now + dt⟩ } }
        ∧ t.lstb = true ∧ t.ldWord = some (match x.snapshot with
            | some (g, ws) =>
              if g = (a - s.controlBase) / 16 then ws.getD ((a - s.controlBase) % 16) 0
              else s.statusWord (a - s.controlBase)
            | none => s.statusWord (a - s.controlBase))
        ∧ ∃ ws, y.snapshot = some ((a - s.controlBase) / 16, ws)
            ∧ (∀ ws', x.snapshot = some ((a - s.controlBase) / 16, ws') → ws = ws')
            ∧ ∀ k, k < 16 → (∀ ws', x.snapshot ≠ some ((a - s.controlBase) / 16, ws')) →
                ws[k]? = some (s.statusWord (16 * ((a - s.controlBase) / 16) + k)))
        ∧ (s.isStatus a = false → ∀ w rest, x.buffer = w :: rest → ∃ t y, exec (.readBeat dt) s = .next t
            ∧ t.now = s.now + dt ∧ Keeps [.link, .sc] s t ∧ t.lstb = true ∧ t.ldWord = some w ∧ t.link.txn = some y
            ∧ y.beats = x.beats + 1 ∧ y.buffer = rest ∧ y.snapshot = none
            ∧ OnlyGrants s t ∧ t.link = { s.link with txn := some y, ld := some ⟨w, t.now⟩ }
            ∧ t = State.arbitrate { s with
                now := s.now + dt
                link := { s.link with
                  txn := some { x with
                    beats := x.beats + 1, buffer := rest, snapshot := none
                    wants := rest.isEmpty && !s.isStatus a' }
                  ld := some ⟨w, s.now + dt⟩ } }))
    ∧ (∀ (c : Instr) (s t : State), (∀ x ∈ s.link.ld, x.tick ≤ s.now) → exec c s = .next t →
      (∀ x ∈ t.link.ld, x.tick ≤ t.now)
        ∧ ((∀ dt, c ≠ .readBeat dt) → t.lstb = true → s.lstb = true ∧ t.now = s.now ∧ t.ldWord = s.ldWord))

/-- LSEL_RISE (R29, R32, R37): the transaction ends, LRDY and LSTB fall, queued beats stay, a granted read segment runs
on and is discarded, and any other unit goes on as it was. -/
def Obligations.LselRiseEndsTransaction : Prop :=
  ∀ (dt : Nat) (s : State), s.mayReach (s.now + dt) = true → ∃ t,
    exec (.lselRise dt) s = .next t
      ∧ t.now = s.now + dt ∧ Keeps [.pins, .link, .sc] s t ∧ t.pins = { s.pins with lselLow := false }
      ∧ t.link = { s.link with txn := none, ld := none } ∧ t.lrdy = false ∧ t.lstb = false
      ∧ t.sc = { s.sc with grant := t.sc.grant } ∧ t.sc.grant.map Grant.hold = s.sc.grant.map Grant.hold
      ∧ (∀ g ∈ t.sc.grant, ∀ b a len wanted, g.unit = .linkRead b a len wanted → wanted = false)
      ∧ ∀ g ∈ s.sc.grant, match g.unit with
          | .linkRead b a len _ => t.sc.grant = some ⟨.linkRead b a len false, g.hold⟩
          | _ => t.sc.grant = some g

/-! ## The Store Controller -/

/-- The grant decision (R153, R156): with the store in service and free, the highest-ranked request is granted, in the
order urgent refresh, FEEDER, LINK, refresh of low rank, RELOAD; otherwise nothing changes hands. The requests (R155,
R158): FEEDER is for the next words of the fetch, to the end of the line or of the page (R117); LINK for a placement
unit, the longest run of beats from the head of the queue in the head's page, 16 at most (R34), or with no beat queued
for the segment an open read wants, from its next beat's word to the end of the page or one pass round the group (R27,
R31); RELOAD for the next 64 words of the span, or what is left of it (R140). A unit holds the store for at most 266
ticks, and its words lie in one page (R31, R34, R117, R140, R151, R155): a reload segment's because the progress rises in steps of 64 (the property `ReloadInStep` of TablesStaySound), a wrapped pass's because a group of 8, 16
or 32 words (R26) does. -/
def Obligations.ArbiterGrantsTheHighestRank : Prop :=
  (∀ (s : State) (request : Option GrantUnit),
    request = (if 8 ≤ s.sc.pendingRefresh then some .refresh
      else if s.feederRequest.isSome then s.feederRequest
      else if s.linkRequest.isSome then s.linkRequest
      else if 0 < s.sc.pendingRefresh then some .refresh
      else s.reloadRequest) →
    s.nextGrant = request ∧ (s.sc.init ≠ none ∨ s.sc.grant ≠ none → s.arbitrate = s)
      ∧ (s.sc.init = none → s.sc.grant = none →
          (request = none → s.arbitrate = s)
          ∧ ∀ u, request = some u → s.arbitrate = { s with
              sc := { s.sc with grant := some ⟨u, ⟨s.now, u.longest⟩⟩ }
              link := match u with
                | .linkRead _ _ _ _ => { s.link with txn := s.link.txn.map (fun x => { x with wants := false }) }
                | _ => s.link }))
    ∧ (∀ s : State,
      (s.feeder.fetch = none → s.feederRequest = none)
        ∧ (∀ f x a, s.feeder.fetch = some f → x = s.slot f.slot → a = x.base + f.line * x.pitch + f.pos →
            s.feederRequest = some (.feeder f.bank f.pos (min (x.width - f.pos) (512 - a % 512)) a true))
        ∧ (∀ h rest, s.queue = h :: rest → ∃ n, s.linkRequest = some (.placement n) ∧ 0 < n ∧ n ≤ 16
            ∧ n ≤ s.queue.length ∧ (∀ b ∈ s.queue.take n, b.addr / 512 = h.addr / 512)
            ∧ (n = 16 ∨ ∀ b, s.queue[n]? = some b → b.addr / 512 ≠ h.addr / 512))
        ∧ (s.queue = [] → (∀ x ∈ s.link.txn, x.wants = false) → s.linkRequest = none)
        ∧ (∀ x a, s.queue = [] → s.link.txn = some x → x.wants = true →
            a = beatAddr s.storeWords x.burst x.addr x.beats →
            s.linkRequest = some (match x.burst with
              | .linear => .linkRead .linear a (512 - a % 512) true
              | .wrapped g => .linkRead (.wrapped g) a g true))
        ∧ (s.control.reload.inFlight = false ∨ s.control.reload.table = none → s.reloadRequest = none)
        ∧ (∀ u, s.control.reload.inFlight = true → s.control.reload.table = some u → s.reloadRequest =
            some (.reload u s.control.reload.progress (min 64 (u.span - s.control.reload.progress)) true)))
    ∧ (∀ u : GrantUnit, u.longest = (match u with
      | .refresh => 12
      | .feeder _ _ len _ _ | .linkRead _ _ len _ => 10 + (len + 1) / 2
      | .placement n => 10 + 2 * n
      | .reload _ _ _ _ => 42))
    ∧ (∀ (s : State) (u : GrantUnit), (∀ t ∈ s.link.txn, burstFits t.burst = true) → s.nextGrant = some u →
    u.longest ≤ 266 ∧
      match u with
      | .feeder _ _ len a _ => len ≤ 512 ∧ (0 < len → (a + len - 1) / 512 = a / 512)
      | .linkRead .linear a len _ => len ≤ 512 ∧ (0 < len → (a + len - 1) / 512 = a / 512)
      | .linkRead (.wrapped g) a len _ => len = g
          ∧ (g = 8 ∨ g = 16 ∨ g = 32 → ∀ k, beatAddr s.storeWords (.wrapped g) a k / 512 = a / 512)
      | .placement n =>
        0 < n ∧ n ≤ 16 ∧ n ≤ s.queue.length ∧ ∀ b ∈ s.queue.take n, ∀ h ∈ s.queue.head?, b.addr / 512 = h.addr / 512
      | .reload table first len _ => len ≤ 64
          ∧ (first % 64 = 0 → 0 < len →
            (s.controlBase + table.area + first + len - 1) / 512 = (s.controlBase + table.area + first) / 512)
      | .refresh => True)

/-- STORE_INIT_END and REFRESH_DUE (R153, R154): initialisation ends and the first refresh is due 780 ticks later; a
due raises the count by one and the next comes 780 ticks later; each makes the grant decision (R153, R156). REFRESH_DONE and PLACEMENT_UNIT_END (R34, R154, R156):
the unit ends, a refresh lowers the count by one, and the next grant decision is made on the free store. -/
def Obligations.RefreshRunsAtFixedIntervals : Prop :=
  (∀ (s : State) (x : Timer), s.mayReach x.ends = true →
    (s.sc.init = some x → ∃ t, exec .storeInitEnd s = .next t
      ∧ t.now = x.ends ∧ Keeps [.sc, .link] s t ∧ t.sc.init = none ∧ t.sc.refresh = some ⟨x.ends, 780⟩
      ∧ t.sc.pendingRefresh = s.sc.pendingRefresh ∧ t.sc.size = s.sc.size ∧ (∀ g ∈ s.sc.grant, t.sc.grant = some g)
      ∧ t = State.arbitrate { s with
          now := x.ends, sc := { s.sc with init := none, refresh := some ⟨x.ends, 780⟩ } })
      ∧ (s.sc.refresh = some x → ∃ t, exec .refreshDue s = .next t
          ∧ t.now = x.ends ∧ Keeps [.sc, .link] s t ∧ t.sc.refresh = some ⟨x.ends, 780⟩
          ∧ t.sc.pendingRefresh = s.sc.pendingRefresh + 1 ∧ t.sc.init = s.sc.init ∧ t.sc.size = s.sc.size
          ∧ (∀ g ∈ s.sc.grant, t.sc.grant = some g)
          ∧ t = State.arbitrate { s with
              now := x.ends
              sc := { s.sc with pendingRefresh := s.sc.pendingRefresh + 1, refresh := some ⟨x.ends, 780⟩ } }))
    ∧ (∀ (dt : Nat) (s : State) (hold : Timer), s.mayReach (s.now + dt) = true →
    (s.sc.grant = some ⟨.refresh, hold⟩ → exec (.refreshDone dt) s =
      .next (State.arbitrate { s with
        now := s.now + dt, sc := { s.sc with grant := none, pendingRefresh := s.sc.pendingRefresh - 1 } }))
      ∧ (s.sc.grant = some ⟨.placement 0, hold⟩ → exec (.placementUnitEnd dt) s =
          .next (State.arbitrate { s with now := s.now + dt, sc := { s.sc with grant := none } })))

/-- READ_SEGMENT_DONE (R27, R31, R152, R155, R157): the words of the segment, as the store holds them, go into the read
buffer in the order of R27; those of a segment no longer wanted are discarded; and the next grant decision is made on
the free store (R156). -/
def Obligations.ReadSegmentFillsTheBuffer : Prop :=
  (∀ (s : State) (a k : Nat), k < 4 → (s.loadWord a).extractLsb' (8 * k) 8 = s.storeByte (4 * a + k)
      ∧ ∀ w : Word, byteOf w k = w.extractLsb' (8 * k) 8)
    ∧ ∀ (dt : Nat) (s : State) (burst : Burst) (a len : Nat) (wanted : Bool) (hold : Timer),
    s.mayReach (s.now + dt) = true → s.sc.grant = some ⟨.linkRead burst a len wanted, hold⟩ →
      (wanted = false → exec (.readSegmentDone dt) s =
        .next (State.arbitrate { s with now := s.now + dt, sc := { s.sc with grant := none } }))
        ∧ (wanted = true → (∀ k, k < len → beatAddr s.storeWords burst a k < s.storeWords) → ∀ x, s.link.txn = some x →
            ∃ t y, exec (.readSegmentDone dt) s = .next t ∧ t.now = s.now + dt ∧ Keeps [.link, .sc] s t
              ∧ t.link.txn = some y ∧ y.beats = x.beats ∧ y.buffer.length = len
              ∧ (∀ k, k < len → y.buffer[k]? = some (s.loadWord (beatAddr s.storeWords burst a k)))
              ∧ t = State.arbitrate { s with
                  now := s.now + dt, sc := { s.sc with grant := none }
                  link := { s.link with txn := some { x with buffer := y.buffer } } })

/-- FEEDER_SEGMENT_DONE (R117, R120, R157): the words of a wanted segment are written at the bank positions that match
their line positions; their damage is gone, and the rest of the monitor stays (R162); after the last word the bank is
FULL and the fetch ends, otherwise the fetch goes on; the words of an abandoned fetch are discarded; and the next grant
decision is made on the free store (R156). -/
def Obligations.FetchSegmentFillsTheBank : Prop :=
  ∀ (dt : Nat) (s : State) (b : Fin 2) (pos len addr : Nat) (hold : Timer) (f : Fetch),
    s.mayReach (s.now + dt) = true →
      (s.sc.grant = some ⟨.feeder b pos len addr false, hold⟩ → exec (.feederSegmentDone dt) s =
        .next (State.arbitrate { s with now := s.now + dt, sc := { s.sc with grant := none } }))
        ∧ (s.sc.grant = some ⟨.feeder b pos len addr true, hold⟩ → s.feeder.fetch = some f → f.bank = b → f.pos = pos →
            addr + len ≤ s.storeWords → zeroWf (s.bank b).words = true → ∃ t, exec (.feederSegmentDone dt) s = .next t
              ∧ t.now = s.now + dt ∧ Keeps [.feeder, .monitor, .sc, .link] s t
              ∧ (∀ j, j < len → zeroGet (t.bank b).words (pos + j) = s.loadWord (addr + j))
              ∧ (∀ p, p < pos ∨ pos + len ≤ p → zeroGet (t.bank b).words p = zeroGet (s.bank b).words p)
              ∧ (∀ c, c ≠ b → t.bank c = s.bank c) ∧ (t.bank b).tag = (s.bank b).tag
              ∧ t.feeder.target = s.feeder.target
              ∧ Refreshed (fun m e => m = (if b = 0 then .bank0 else .bank1) ∧ pos ≤ e ∧ e < pos + len) s t
              ∧ t = State.arbitrate { s with
                  now := s.now + dt, sc := { s.sc with grant := none }, feeder := t.feeder, monitor := t.monitor }
              ∧ (pos + len = (s.slot f.slot).width → (t.bank b).state = .full ∧ t.feeder.fetch = none)
              ∧ (pos + len ≠ (s.slot f.slot).width →
                  (t.bank b).state = (s.bank b).state ∧ t.feeder.fetch = some { f with pos := pos + len }))

/-- RELOAD_SEGMENT_DONE (R136, R137, R140, R143, R157): each entry word of the segment is captured into its own shadow
entry with its clamp, its damage gone (R162), gap words are ignored, no other entry changes, and the progress rises by the length; TABLE_CLAMP
is raised for a clamped entry, COMMAND_DONE at the end of the reload, and no other source; the rest of Control Capture
stays; after a bridge reset the words are discarded. With the last segment the unit is VALID and the outcome DONE, or STALE and
DISTURBED, with COMMAND_DONE (R142); its disturbed mark stays (log 30). -/
def Obligations.ReloadSegmentCapturesItsEntries : Prop :=
  (∀ (dt : Nat) (s : State) (u : TableUnit) (first len : Nat) (wanted : Bool) (hold : Timer),
    s.mayReach (s.now + dt) = true → s.sc.grant = some ⟨.reload u first len wanted, hold⟩ →
      (wanted = false → exec (.reloadSegmentDone dt) s =
        .next (State.arbitrate { s with now := s.now + dt, sc := { s.sc with grant := none } }))
        ∧ (wanted = true → first + len ≤ u.span → s.controlBase + u.area + first + len ≤ s.storeWords →
            (∀ m, zeroWf (s.control.shadows.get m) = true) → ∃ t, exec (.reloadSegmentDone dt) s = .next t
              ∧ t.now = s.now + dt ∧ Keeps [.control, .monitor, .events, .sc, .link] s t
              ∧ t.control.reload.progress = s.control.reload.progress + len
              ∧ t.control = { s.control with
                  shadows := t.control.shadows, tables := t.control.tables, reload := t.control.reload }
              ∧ t.control.reload.table = s.control.reload.table
              ∧ Refreshed (fun m e => ∃ o, first ≤ o ∧ o < first + len ∧ u.isEntry o = true ∧ entryPlace u o = (m, e))
                  s t
              ∧ t = State.arbitrate { s with
                  now := s.now + dt, sc := { s.sc with grant := none }
                  control := t.control, monitor := t.monitor, events := t.events }
              ∧ (∀ clamped : Bool,
                  (clamped = true ↔ ∃ o, first ≤ o ∧ o < first + len ∧ u.isEntry o = true
                    ∧ (captureValue u o ((s.loadWord (s.controlBase + u.area + o)).extractLsb' 0 16)).2 = true) →
                  Raised ((if clamped then [.tableClamp] else [])
                    ++ (if s.control.reload.progress + len = u.span then [.commandDone] else [])) s t)
              ∧ ∀ v o, v.isEntry o = true →
                  zeroGet (t.control.shadows.get (entryPlace v o).1) (entryPlace v o).2 =
                    if v = u ∧ first ≤ o ∧ o < first + len then
                      (captureValue u o ((s.loadWord (s.controlBase + u.area + o)).extractLsb' 0 16)).1
                    else zeroGet (s.control.shadows.get (entryPlace v o).1) (entryPlace v o).2))
    ∧ (∀ (dt : Nat) (s t : State) (u : TableUnit) (first len : Nat) (hold : Timer),
    s.sc.grant = some ⟨.reload u first len true, hold⟩ → exec (.reloadSegmentDone dt) s = .next t →
      (s.control.reload.progress + len = u.span →
        t.tableState u = (if s.control.reload.disturbed then .stale else .valid)
          ∧ t.control.reload.inFlight = false
          ∧ t.control.reload.outcome = (if s.control.reload.disturbed then .disturbed else .done)
          ∧ t.stuck .commandDone = true)
        ∧ (s.control.reload.progress + len ≠ u.span →
            t.tableState u = s.tableState u ∧ t.control.reload.inFlight = s.control.reload.inFlight
              ∧ t.control.reload.outcome = s.control.reload.outcome)
        ∧ t.control.reload.disturbed = s.control.reload.disturbed
        ∧ ∀ v, v ≠ u → t.tableState v = s.tableState v)

/-! ## Placement -/

/-- NO_ENABLE_BEAT and STATUS_PAGE_WRITE leave everything but the queue and the unit (R39 step 1, R40);
STORE_PLAIN_WORD stores the enabled bytes of a word that no slot has as a picture word, or that no area of the control
region has (R40, R42). -/
def Obligations.PlainBeatsAreStoredOrDiscarded : Prop :=
  ∀ (dt : Nat) (s : State) (b : Beat) (left : Nat) (hold : Timer) (rest : List Beat),
    Placing s dt b left hold rest →
      (b.enables = 0 → exec (.noEnableBeat dt) s = .next { s with
          now := s.now + dt, queue := rest, sc := { s.sc with grant := some ⟨.placement left, hold⟩ } })
        ∧ (∀ o, ControlBeat s b o → o < 1024 → exec (.statusPageWrite dt) s = .next { s with
            now := s.now + dt, queue := rest, sc := { s.sc with grant := some ⟨.placement left, hold⟩ } })
        ∧ (∀ o, ControlBeat s b o → areaOf o = .plain →
            ∃ t, exec (.storePlainWord dt) s = .next t ∧ Placed s t dt b left hold rest [])
        ∧ (b.enables ≠ 0 → b.addr < s.controlBase → RegionsDisjoint s →
            (∀ n line column, ¬ IsPicture (s.slot n) b.addr line column) →
            ∃ t, exec (.storePlainWord dt) s = .next t ∧ Placed s t dt b left hold rest [])

/-- The areas of the control region by offset (R40, R133, R134): what lies at no listed offset is plain. The words of
the status page, the area and the span of each table unit, and the protected memory and the address of each entry
(R162). -/
def Obligations.ControlRegionMap : Prop :=
  (∀ (s : State) (a : Nat), s.isStatus a = true ↔ s.controlBase ≤ a ∧ a ≤ s.controlBase + 0x3FF)
    ∧ (∀ (u : TableUnit) (o : Nat),
      u.area = (match u with | .stockA => 0x1000 | .stockB => 0x1400 | .modulator => 0x2000 | .facet => 0x3000)
        ∧ u.span = (match u with | .stockA => 815 | .stockB => 815 | .modulator => 3072 | .facet => 48)
        ∧ (u.isEntry o = true ↔ areaOf (u.area + o) = .entry u o))
    ∧ (∀ o : Nat, entryPlace .stockA o = (.stockA, o) ∧ entryPlace .stockB o = (.stockB, o)
      ∧ entryPlace .facet o = (.facet, o)
      ∧ (o < 1024 → entryPlace .modulator o = (.modR, o) ∧ entryPlace .modulator (1024 + o) = (.modG, o)
        ∧ entryPlace .modulator (2048 + o) = (.modB, o)))
    ∧ ∀ o : Nat,
    (areaOf o = .status ↔ o ≤ 0x3FF) ∧ (areaOf o = .command ↔ o = 0x400)
      ∧ (∀ (n : Fin 8) (k : Fin 16), areaOf o = .descriptor n k ↔ o = 0x800 + 16 * n + k)
      ∧ (∀ j, areaOf o = .entry .stockA j ↔
          o = 0x1000 + j ∧ (j ≤ 770 ∨ 800 ≤ j ∧ j ≤ 808 ∨ 812 ≤ j ∧ j ≤ 814))
      ∧ (∀ j, areaOf o = .entry .stockB j ↔
          o = 0x1400 + j ∧ (j ≤ 770 ∨ 800 ≤ j ∧ j ≤ 808 ∨ 812 ≤ j ∧ j ≤ 814))
      ∧ (∀ j, areaOf o = .entry .modulator j ↔ o = 0x2000 + j ∧ j < 3072)
      ∧ (∀ j, areaOf o = .entry .facet j ↔ o = 0x3000 + j ∧ j < 48)
      ∧ (∀ k : Fin 8, areaOf o = .scanStaging k ↔ o = 0x3100 + k)
      ∧ (∀ k : Fin 5, areaOf o = .eventSetting k ↔ o = 0x3200 + k)
      ∧ (∀ k : Fin 4, areaOf o = .auxFunction k ↔ o = 0x3300 + k)

/-- PLACE_PICTURE_WORD, dropped (R41 steps 1 and 2, R42, R43): a word of an EXPOSED or FAULTED slot, or at or below the
fetch line, raises WRITE_LOCKED; one with an enable clear raises PARTIAL_PIXEL and counts. Nothing is stored and no
slot or coverage record changes. That the damage which has arisen by then comes with the step is the model's choice,
log 8. -/
def Obligations.LockedOrPartialPictureWordIsDropped : Prop :=
  (∀ x : SlotState, x.queued = true ↔ x = .opened ∨ x = .filling ∨ x = .ready ∨ x = .exposing)
    ∧ ∀ (dt : Nat) (arisen : List Damage) (s : State) (b : Beat) (left : Nat) (hold : Timer) (rest : List Beat)
    (n : Fin 8) (line column : Nat),
    Placing s dt b left hold rest → RegionsDisjoint s → b.enables ≠ 0 → IsPicture (s.slot n) b.addr line column →
      ((s.slot n).state = .exposed ∨ (s.slot n).state = .faulted ∨ (line : Int) ≤ (s.slot n).fetchLine →
        ∃ t, exec (.placePictureWord dt arisen) s = .next t ∧ BeatTaken s t dt left hold rest
          ∧ Keeps [.queue, .sc, .events, .monitor] s t ∧ Raised [.writeLocked] s t
          ∧ t.monitor = (s.arise arisen).monitor)
        ∧ ((s.slot n).state.queued = true → (s.slot n).fetchLine < line → b.enables ≠ 0xF#4 →
          ∃ t, exec (.placePictureWord dt arisen) s = .next t ∧ BeatTaken s t dt left hold rest
            ∧ Keeps [.queue, .sc, .link, .events, .monitor] s t ∧ Raised [.partialPixel] s t
            ∧ t.link = { s.link with partials := min (s.link.partials + 1) 65535 }
            ∧ t.monitor = (s.arise arisen).monitor)

/-- PLACE_PICTURE_WORD, converted (R5, R6, R41 step 3, R48, R56, R64, R78, R81): the exposure word is stored with all
four bytes, the index recorded in the coverage of its slot, OPEN becomes FILLING, a completed FILLING slot READY with
SLOT_READY, an uncorrectable stock-set read sets SUSPECT with INTEGRITY, and the monitor is as the checks of the
conversion's reads leave it (R69, R163; the list and the checks: ConversionFollowsTheTwoStages and
CheckedReadsAreRecorded). That the damage the reads find comes with the step is the model's choice, log 8. -/
def Obligations.PictureWordIsConvertedAndStored : Prop :=
  ∀ (dt : Nat) (arisen : List Damage) (s : State) (b : Beat) (left : Nat) (hold : Timer) (rest : List Beat)
    (n : Fin 8) (line column : Nat) (x : Slot) (i : Nat) (done failed : Bool),
    Placing s dt b left hold rest → RegionsDisjoint s → b.enables = 0xF#4 → x = s.slot n →
    IsPicture x b.addr line column → x.state.queued = true → x.fetchLine < line → i = line * x.width + column →
    (done = true ↔ i = (s.cover n).cursor ∧ x.lost = false
      ∧ ((s.recordFill n i).cover n).cursor = x.width * x.height) →
    failed = (s.arise arisen).anyFails ((s.arise arisen).conversionReads x.stock x.bypass b.data) →
      ∃ t, exec (.placePictureWord dt arisen) s = .next t ∧ BeatTaken s t dt left hold rest
        ∧ Keeps [.queue, .store, .sc, .slots, .fill, .events, .monitor] s t ∧ OtherSlotsKept n s t
        ∧ t.slots.queue = s.slots.queue ∧ (∀ y, t.users y = s.users y)
        ∧ Stored s t ⟨b.addr, (s.arise arisen).convert x.stock x.bypass b.data, 0xF⟩
        ∧ t.fill = (s.recordFill n i).fill
        ∧ t.slot n = { x with
            state := if x.state = .opened ∨ x.state = .filling then (if done then .ready else .filling) else x.state
            suspect := x.suspect || failed
            complete := x.complete || done
            lost := ((s.recordFill n i).slot n).lost
            rewrites := ((s.recordFill n i).slot n).rewrites }
        ∧ Raised ((if failed then [.integrity] else [])
            ++ (if done = true ∧ (x.state = .opened ∨ x.state = .filling) then [.slotReady] else [])
            ++ (if x.lost = false ∧ ((s.recordFill n i).slot n).lost = true then [.coverageLost] else [])) s t
        ∧ t.monitor.state = s.monitor.state ∧ t.monitor.first = s.monitor.first
        ∧ t.monitor =
            ((s.arise arisen).checkReads ((s.arise arisen).conversionReads x.stock x.bypass b.data)).monitor

/-- The Fill Tracker takes an index through the first matching case (R46 to R56): what the coverage record, the free
count, LOST, COMPLETE, the rewrites counter and the slot's state become in each, and the events raised. -/
def Obligations.FillTakesTheFirstMatchingCase : Prop :=
  ∀ (s : State) (n : Fin 8) (i : Nat) (t : State) (c : Coverage) (x : Slot),
    t = s.recordFill n i → c = s.cover n → x = s.slot n → i < x.width * x.height →
    runsBetween (x.width * x.height) c.cursor c.runs → (x.lost = true → c.runs = []) →
      Keeps [.slots, .fill, .events] s t ∧ OtherSlotsKept n s t
        ∧ (i < c.cursor ∨ (∃ r ∈ c.runs, r.first ≤ i ∧ i < r.stop) →
            t.fill = s.fill ∧ t.slot n = { x with rewrites := min (x.rewrites + 1) 65535 } ∧ t.events = s.events)
        ∧ (i = c.cursor → (∀ r rest, c.runs = r :: rest → r.first = i + 1 →
              t.cover n = ⟨r.stop, rest⟩ ∧ t.fill.free = s.fill.free + 1)
            ∧ ((∀ r ∈ c.runs, r.first ≠ i + 1) → t.cover n = ⟨i + 1, c.runs⟩ ∧ t.fill.free = s.fill.free)
            ∧ (t.slot n).complete =
                (x.complete || !x.lost && decide ((t.cover n).cursor = x.width * x.height))
            ∧ (t.slot n).lost = x.lost ∧ (t.slot n).rewrites = x.rewrites
            ∧ t.slot n = { x with complete := (t.slot n).complete, state := (t.slot n).state }
            ∧ ∀ ready : Bool,
                (ready = true ↔ x.lost = false ∧ (t.cover n).cursor = x.width * x.height ∧ x.state = .filling) →
                (t.slot n).state = (if ready then .ready else x.state)
                  ∧ Raised (if ready then [.slotReady] else []) s t)
        ∧ (c.cursor < i → (t.slot n).lost = x.lost → t.events = s.events)
        ∧ (c.cursor < i → x.lost = true → t = s)
        ∧ (c.cursor < i → x.lost = false → (∀ r ∈ c.runs, ¬ (r.first ≤ i ∧ i < r.stop)) →
            (∀ pre post a e, c.runs = pre ++ ⟨a, i⟩ :: ⟨i + 1, e⟩ :: post →
                t.cover n = ⟨c.cursor, pre ++ ⟨a, e⟩ :: post⟩ ∧ t.fill.free = s.fill.free + 1 ∧ t.slot n = x)
              ∧ (∀ pre post a, c.runs = pre ++ ⟨a, i⟩ :: post → (∀ r ∈ post, r.first ≠ i + 1) →
                  t.cover n = ⟨c.cursor, pre ++ ⟨a, i + 1⟩ :: post⟩ ∧ t.fill.free = s.fill.free ∧ t.slot n = x)
              ∧ (∀ pre post e, c.runs = pre ++ ⟨i + 1, e⟩ :: post → (∀ r ∈ pre, r.stop ≠ i) →
                  t.cover n = ⟨c.cursor, pre ++ ⟨i, e⟩ :: post⟩ ∧ t.fill.free = s.fill.free ∧ t.slot n = x)
              ∧ (∀ pre post, c.runs = pre ++ post → (∀ r ∈ pre, r.stop < i) → (∀ r ∈ post, i + 1 < r.first) →
                  (0 < s.fill.free → t.cover n = ⟨c.cursor, pre ++ ⟨i, i + 1⟩ :: post⟩
                      ∧ t.fill.free + 1 = s.fill.free ∧ t.slot n = x)
                    ∧ (s.fill.free = 0 → t.cover n = ⟨c.cursor, []⟩ ∧ t.fill.free = c.runs.length
                        ∧ t.slot n = { x with lost := true } ∧ Raised [.coverageLost] s t)))

/-- TABLE_WORD_WRITE (R136, R137, R141): the word is stored; a VALID unit not in use captures a word with both low
bytes enabled, the entry's damage gone (R162), and no other entry changes; any other low byte makes it STALE with TABLE_STALE and its shadow stays;
STALE and EMPTY stay; LOADING is marked disturbed; with neither low byte enabled nothing else happens. -/
def Obligations.TableWordsAreCapturedOrMakeStale : Prop :=
  ∀ (dt : Nat) (s : State) (b : Beat) (left : Nat) (hold : Timer) (rest : List Beat) (u : TableUnit) (o : Nat)
    (low both : Bool),
    Placing s dt b left hold rest → ControlBeat s b (u.area + o) → u.isEntry o = true →
    (∀ m, zeroWf (s.control.shadows.get m) = true) →
    low = (b.enables.getLsbD 0 || b.enables.getLsbD 1) → both = (b.enables.getLsbD 0 && b.enables.getLsbD 1) →
      ∃ t, exec (.tableWordWrite dt) s = .next t
        ∧ Placed s t dt b left hold rest [.control, .events, .monitor]
        ∧ (low = false ∨ s.tableState u = .stale ∨ s.tableState u = .empty →
            t.control = s.control ∧ t.events = s.events ∧ t.monitor = s.monitor)
        ∧ (low = true → s.tableState u = .loading →
            t.control = { s.control with reload := { s.control.reload with disturbed := true } }
              ∧ t.events = s.events ∧ t.monitor = s.monitor)
        ∧ (low = true → s.tableState u = .valid → both = false ∨ s.inUse u = true →
            t.control = { s.control with tables := s.control.tables.put u .stale }
              ∧ Raised [.tableStale] s t ∧ t.monitor = s.monitor)
        ∧ (both = true → s.tableState u = .valid → s.inUse u = false →
            t.control = { s.control with shadows := t.control.shadows }
              ∧ (∀ v p, v.isEntry p = true →
                  zeroGet (t.control.shadows.get (entryPlace v p).1) (entryPlace v p).2 =
                    if v = u ∧ p = o then (captureValue u o (b.data.extractLsb' 0 16)).1
                    else zeroGet (s.control.shadows.get (entryPlace v p).1) (entryPlace v p).2)
              ∧ Raised (if (captureValue u o (b.data.extractLsb' 0 16)).2 then [.tableClamp] else []) s t
              ∧ Refreshed (fun m e => entryPlace u o = (m, e)) s t)

/-- The clamp of a captured entry by its kind (R134, R137), and when it counts as clamped. -/
def Obligations.CapturedEntriesAreClamped : Prop :=
  ∀ (u : TableUnit) (o : Nat) (h : Half),
    (u = .modulator → captureValue u o h = (h, false))
      ∧ (u = .facet → ((captureValue u o h).1.toInt = max (-64) (min 63 h.toInt))
          ∧ ((captureValue u o h).2 = true ↔ h.toInt < -64 ∨ 63 < h.toInt))
      ∧ (u = .stockA ∨ u = .stockB →
          (o ≤ 770 → (captureValue u o h).1.toNat = min 1023 h.toNat
              ∧ ((captureValue u o h).2 = true ↔ 1023 < h.toNat))
            ∧ (800 ≤ o → o ≤ 808 → captureValue u o h = (h, false))
            ∧ (812 ≤ o → o ≤ 814 → (captureValue u o h).1.toInt = max (-2048) (min 2047 h.toInt)
                ∧ ((captureValue u o h).2 = true ↔ h.toInt < -2048 ∨ 2047 < h.toInt)))

/-- STAGING_WRITE, EVENT_SETTINGS_WRITE and AUX_FUNCTION_WRITE (R144, R145, R173, R175, R179): the enabled bytes are
merged into the one word of the copy or the settings, words +7 and up of a staging area into none; a level source
found true in LEVEL mode sets its sticky bit at once. -/
def Obligations.StagingAndSettingsAreMergedByByte : Prop :=
  ∀ (dt : Nat) (s : State) (b : Beat) (left : Nat) (hold : Timer) (rest : List Beat),
    Placing s dt b left hold rest →
      (∀ (n : Fin 8) (k : Fin 16), ControlBeat s b (0x800 + 16 * n + k) → ∃ t,
        exec (.stagingWrite dt) s = .next t ∧ Placed s t dt b left hold rest [.control]
          ∧ t.control = { s.control with staging := t.control.staging }
          ∧ ∀ (m : Fin 8) (j : Fin 7) (i : Nat), i < 4 →
              byteOf (t.control.staging[m])[j] i =
                if m = n ∧ j.val = k.val ∧ b.enables.getLsbD i = true then byteOf b.data i
                else byteOf (s.control.staging[m])[j] i)
        ∧ (∀ k : Fin 8, ControlBeat s b (0x3100 + k) → ∃ t,
          exec (.stagingWrite dt) s = .next t ∧ Placed s t dt b left hold rest [.control]
            ∧ t.control = { s.control with scanStaging := t.control.scanStaging }
            ∧ ∀ (j : Fin 7) (i : Nat), i < 4 → byteOf t.control.scanStaging[j] i =
                if j.val = k.val ∧ b.enables.getLsbD i = true then byteOf b.data i
                else byteOf s.control.scanStaging[j] i)
        ∧ (∀ k : Fin 5, ControlBeat s b (0x3200 + k) → ∃ t,
          exec (.eventSettingsWrite dt) s = .next t ∧ Placed s t dt b left hold rest [.control, .events]
            ∧ t.control = { s.control with eventWords := t.control.eventWords }
            ∧ (∀ (j : Fin 5) (i : Nat), i < 4 → byteOf t.control.eventWords[j] i =
                if j = k ∧ b.enables.getLsbD i = true then byteOf b.data i else byteOf s.control.eventWords[j] i)
            ∧ t.events = { s.events with sticky := t.events.sticky }
            ∧ ∀ i, t.stuck i = true ↔ s.stuck i = true ∨ i.isLevel = true ∧ t.mode i = .level ∧ s.raw i = true)
        ∧ (∀ k : Fin 4, ControlBeat s b (0x3300 + k) → ∃ t,
          exec (.auxFunctionWrite dt) s = .next t ∧ Placed s t dt b left hold rest [.control]
            ∧ t.control = { s.control with auxWords := t.control.auxWords }
            ∧ ∀ (j : Fin 4) (i : Nat), i < 4 → byteOf t.control.auxWords[j] i =
                if j = k ∧ b.enables.getLsbD i = true then byteOf b.data i else byteOf s.control.auxWords[j] i)

/-- MALFORMED_COMMAND and UNKNOWN_COMMAND (R146, R147): the word is stored, the count rises modulo 65536, the record
holds the bytes that were enabled, COMMAND_DONE is raised, and nothing else changes. -/
def Obligations.MalformedAndUnknownCommandsAreRecorded : Prop :=
  ∀ (dt : Nat) (s : State) (b : Beat) (left : Nat) (hold : Timer) (rest : List Beat),
    Placing s dt b left hold rest → ControlBeat s b 0x400 →
      (b.enables ≠ 0xF#4 → ∃ t, exec (.malformedCommand dt) s = .next t
        ∧ Placed s t dt b left hold rest [.control, .events] ∧ Raised [.commandDone] s t
        ∧ t.control = { s.control with command :=
            ⟨(s.control.command.count + 1) % 65536, if b.enables.getLsbD 0 then b.data.extractLsb' 0 8 else 0,
             if b.enables.getLsbD 1 then b.data.extractLsb' 8 8 else 0, .malformed⟩ })
        ∧ (b.enables = 0xF#4 →
          b.data.toNat % 256 ∉ [0x01, 0x02, 0x03, 0x04, 0x10, 0x20, 0x21, 0x22, 0x30, 0x31, 0x40, 0x50, 0x51] →
          ∃ t, exec (.unknownCommand dt) s = .next t ∧ Commanded s t dt b left hold rest .unknown [] []
            ∧ ReloadKept s t)

/-! ## The slot commands -/

/-- DESCRIBE, refused (R11, R12, R14, R15, R147): the first check that fails gives the outcome, in the order of R11,
and no slot, queue entry or user count changes. Any one field outside its range of R12 gives RANGE. The fields stand at
their bits of the staging copy (section 11.3, R181), and a region ends with the last word of its last line (R2). -/
def Obligations.DescribeRefusesInOrder : Prop :=
  (∀ w : Vector Word 7, Descriptor.ofStaging w = {
      frame := w[0], base := w[1].toNat, width := w[2].toNat % 65536, height := w[2].toNat / 65536
      pitch := w[3].toNat % 65536, chase := w[3].toNat / 65536, selector := w[4].toNat % 4, bypass := w[4].getLsbD 8
      rep := w[4].toNat / 65536 % 8, lead := w[4].toNat / 16777216, trimR := (w[5].extractLsb' 0 16).toInt
      trimG := (w[5].extractLsb' 16 16).toInt, trimB := (w[6].extractLsb' 0 16).toInt })
    ∧ (∀ x : Slot, x.last = x.base + (x.height - 1) * x.pitch + x.width - 1 ∧ x.size = x.width * x.height)
    ∧ ∀ (dt : Nat) (s : State) (b : Beat) (left : Nat) (hold : Timer) (rest : List Beat) (target : Nat) (o : CmdOutcome),
    Commanding s dt b left hold rest 0x01 target →
    (7 < target ∧ o = .range
      ∨ ∃ (n : Fin 8) (d : Descriptor) (last : Nat), target = n.val
          ∧ d = Descriptor.ofStaging s.control.staging[n] ∧ last = d.base + (d.height - 1) * d.pitch + d.width - 1
          ∧ ((s.slot n).state ≠ .vacant ∧ o = .busy
            ∨ (s.slot n).state = .vacant ∧ ¬ FieldsInRange d ∧ o = .range
            ∨ (s.slot n).state = .vacant ∧ FieldsInRange d ∧ o = .overlap
                ∧ (s.controlBase ≤ last
                  ∨ ∃ m, m ≠ n ∧ (s.slot m).state ≠ .vacant ∧ d.base ≤ (s.slot m).last ∧ (s.slot m).base ≤ last)
            ∨ (s.slot n).state = .vacant ∧ FieldsInRange d ∧ last < s.controlBase
                ∧ (∀ m, m ≠ n → (s.slot m).state ≠ .vacant → last < (s.slot m).base ∨ (s.slot m).last < d.base)
                ∧ s.tableState (if d.selector = 0 then .stockA else .stockB) ≠ .valid ∧ o = .table)) →
      ∃ t, exec (.describe dt) s = .next t ∧ Commanded s t dt b left hold rest o [] [] ∧ ReloadKept s t

/-- DESCRIBE, accepted (R11 to R16): a VACANT slot, fields in range, a region below CB that meets no other, and a VALID
set; the record takes the fields at their bits (section 11.3, R181) with the trims clamped, and the slot joins the
queue's tail and its set's users. -/
def Obligations.DescribeAcceptsTheStagedFrame : Prop :=
  ∀ (dt : Nat) (s : State) (b : Beat) (left : Nat) (hold : Timer) (rest : List Beat) (n : Fin 8) (x : Slot)
    (w : Vector Word 7) (tr tg tb : Int),
    Commanding s dt b left hold rest 0x01 n.val → w = s.control.staging[n] →
    tr = (w[5].extractLsb' 0 16).toInt → tg = (w[5].extractLsb' 16 16).toInt → tb = (w[6].extractLsb' 0 16).toInt →
    x = { state := .opened, frame := w[0], base := w[1].toNat, width := w[2].toNat % 65536
          height := w[2].toNat / 65536, pitch := w[3].toNat % 65536, chase := w[3].toNat / 65536
          stock := if w[4].toNat % 4 = 0 then .a else .b, bypass := w[4].getLsbD 8
          rep := w[4].toNat / 65536 % 8, lead := w[4].toNat / 16777216
          trimR := max (-128) (min 127 tr), trimG := max (-128) (min 127 tg), trimB := max (-128) (min 127 tb)
          lost := false, sealed := false, complete := false, suspect := false
          trimClamped := decide (tr < -128 ∨ 127 < tr ∨ tg < -128 ∨ 127 < tg ∨ tb < -128 ∨ 127 < tb)
          rewrites := 0, spoiled := 0, exposed := 0, cause := none, fetchLine := -1 } →
    (s.slot n).state = .vacant →
    256 ≤ x.width ∧ x.width ≤ 8192 ∧ x.width % 8 = 0 ∧ 16 ≤ x.height ∧ x.height ≤ 6144 ∧ x.width ≤ x.pitch
      ∧ x.pitch ≤ 16384 ∧ x.base % 64 = 0 ∧ w[4].toNat % 4 ≤ 1 ∧ x.chase ≤ 6144 ∧ 1 ≤ x.rep ∧ x.rep ≤ 4 →
    x.base + (x.height - 1) * x.pitch + x.width - 1 < s.controlBase →
    (∀ m, m ≠ n → (s.slot m).state ≠ .vacant →
      x.base + (x.height - 1) * x.pitch + x.width - 1 < (s.slot m).base ∨ (s.slot m).last < x.base) →
    s.tableState (match x.stock with | .a => .stockA | .b => .stockB) = .valid →
      ∃ t, exec (.describe dt) s = .next t
        ∧ Commanded s t dt b left hold rest (if x.trimClamped then .doneClamped else .done) [] [.slots, .fill]
        ∧ ReloadKept s t ∧ OtherSlotsKept n s t ∧ t.slot n = x ∧ t.cover n = ⟨0, []⟩ ∧ t.fill.free = s.fill.free
        ∧ t.slots.queue = s.slots.queue ++ [n]
        ∧ ∀ y, t.users y = if y = x.stock then s.users y + 1 else s.users y

/-- SEAL (R17, R59): OPEN or FILLING becomes READY and SEALED with SLOT_READY, the runs return to the pool, the cursor
stays. RELEASE (R1, R20): EXPOSED or FAULTED becomes VACANT with its record cleared and its cursor 0. Each gives STATE
in any other state and RANGE for a target above 7 (R147), and nothing changes. -/
def Obligations.SealAndReleaseMoveTheSlot : Prop :=
  (∀ (dt : Nat) (s : State) (b : Beat) (left : Nat) (hold : Timer) (rest : List Beat) (target : Nat),
    Commanding s dt b left hold rest 0x02 target →
      (7 < target → ∃ t, exec (.sealSlot dt) s = .next t ∧ Commanded s t dt b left hold rest .range [] []
        ∧ ReloadKept s t)
        ∧ ∀ n : Fin 8, target = n.val →
          ((s.slot n).state = .opened ∨ (s.slot n).state = .filling → ∃ t, exec (.sealSlot dt) s = .next t
            ∧ Commanded s t dt b left hold rest .done [.slotReady] [.slots, .fill] ∧ ReloadKept s t
            ∧ OtherSlotsKept n s t ∧ t.slot n = { s.slot n with state := .ready, sealed := true }
            ∧ t.cover n = { s.cover n with runs := [] } ∧ t.fill.free = s.fill.free + (s.cover n).runs.length
            ∧ t.slots.queue = s.slots.queue ∧ ∀ y, t.users y = s.users y)
          ∧ ((s.slot n).state ≠ .opened → (s.slot n).state ≠ .filling → ∃ t, exec (.sealSlot dt) s = .next t
            ∧ Commanded s t dt b left hold rest .state [] [] ∧ ReloadKept s t))
    ∧ (∀ (dt : Nat) (s : State) (b : Beat) (left : Nat) (hold : Timer) (rest : List Beat) (target : Nat),
    Commanding s dt b left hold rest 0x04 target →
      (7 < target → ∃ t, exec (.release dt) s = .next t ∧ Commanded s t dt b left hold rest .range [] []
        ∧ ReloadKept s t)
        ∧ ∀ n : Fin 8, target = n.val →
          ((s.slot n).state = .exposed ∨ (s.slot n).state = .faulted → ∃ t, exec (.release dt) s = .next t
            ∧ Commanded s t dt b left hold rest .done [] [.slots, .fill] ∧ ReloadKept s t ∧ OtherSlotsKept n s t
            ∧ t.slot n = Slot.cleared ∧ (t.cover n).cursor = 0 ∧ t.fill.free = s.fill.free
            ∧ t.slots.queue = s.slots.queue ∧ ∀ y, t.users y = s.users y)
          ∧ ((s.slot n).state ≠ .exposed → (s.slot n).state ≠ .faulted → ∃ t, exec (.release dt) s = .next t
            ∧ Commanded s t dt b left hold rest .state [] [] ∧ ReloadKept s t))

/-- WITHDRAW (R10, R18, R19, R118, R147): OPEN, FILLING or READY becomes VACANT, its record cleared, out of the queue
and its set's users, its runs back in the pool; in WAITING a prefetch of it is discarded; EXPOSING is aborted with
cause WITHDRAWN; any other state gives STATE. -/
def Obligations.WithdrawRemovesOrAborts : Prop :=
  ∀ (dt : Nat) (s : State) (b : Beat) (left : Nat) (hold : Timer) (rest : List Beat) (target : Nat),
    Commanding s dt b left hold rest 0x03 target →
      (7 < target → ∃ t, exec (.withdraw dt) s = .next t ∧ Commanded s t dt b left hold rest .range [] []
        ∧ ReloadKept s t)
        ∧ ∀ n : Fin 8, target = n.val →
          ((s.slot n).state = .vacant ∨ (s.slot n).state = .exposed ∨ (s.slot n).state = .faulted → ∃ t,
            exec (.withdraw dt) s = .next t ∧ Commanded s t dt b left hold rest .state [] [] ∧ ReloadKept s t)
          ∧ ((s.slot n).state = .opened ∨ (s.slot n).state = .filling ∨ (s.slot n).state = .ready → ∃ t,
            exec (.withdraw dt) s = .next t
              ∧ Commanded s t dt b left hold rest .done [] [.slots, .fill, .feeder] ∧ ReloadKept s t
              ∧ OtherSlotsKept n s t ∧ t.slot n = Slot.cleared ∧ t.cover n = ⟨0, []⟩
              ∧ t.fill.free = s.fill.free + (s.cover n).runs.length
              ∧ t.slots.queue = s.slots.queue.filter (fun m => m != n)
              ∧ (∀ y, t.users y = if y = (s.slot n).stock then s.users y - 1 else s.users y)
              ∧ (s.engine.state = .waiting → (∃ k, ∃ x ∈ (s.bank k).tag, x.1 = n) → FeederCleared s t)
              ∧ (s.engine.state ≠ .waiting ∨ (∀ k, ∀ x ∈ (s.bank k).tag, x.1 ≠ n) → t.feeder = s.feeder))
          ∧ ((s.slot n).state = .exposing → s.engine.slot = some n → s.expo = true → ∃ t,
            exec (.withdraw dt) s = .next t
              ∧ Recorded s t dt b left hold rest .done [.slots, .fill, .engine, .feeder, .drive] ∧ ReloadKept s t
              ∧ Aborted s t n .withdrawn [.commandDone])

/-! ## The other commands -/

/-- RELOAD (R139): a target above 3, a reload in flight, a unit in use, in this order; otherwise the unit becomes
LOADING and the record starts at progress 0. A stock set is in use while its user count is above 0, MODULATOR and FACET
in LEADING and IMAGING (R135). -/
def Obligations.ReloadIsTakenOrRefused : Prop :=
  (∀ s : State, (s.inUse .stockA = true ↔ 0 < s.users .a) ∧ (s.inUse .stockB = true ↔ 0 < s.users .b)
      ∧ s.inUse .modulator = s.expo ∧ s.inUse .facet = s.expo)
    ∧ ∀ (dt : Nat) (s : State) (b : Beat) (left : Nat) (hold : Timer) (rest : List Beat) (target : Nat),
    Commanding s dt b left hold rest 0x10 target →
      (3 < target → ∃ t, exec (.reload dt) s = .next t ∧ Commanded s t dt b left hold rest .range [] []
        ∧ ReloadKept s t)
        ∧ ∀ u : TableUnit, target = u.code →
          (s.control.reload.inFlight = true → ∃ t, exec (.reload dt) s = .next t
            ∧ Commanded s t dt b left hold rest .busy [] [] ∧ ReloadKept s t)
          ∧ (s.control.reload.inFlight = false → s.inUse u = true → ∃ t, exec (.reload dt) s = .next t
            ∧ Commanded s t dt b left hold rest .inUse [] [] ∧ ReloadKept s t)
          ∧ (s.control.reload.inFlight = false → s.inUse u = false → ∃ t, exec (.reload dt) s = .next t
            ∧ Commanded s t dt b left hold rest .started [] []
            ∧ t.control.reload = ⟨some u, true, 0, false, .none⟩
            ∧ t.tableState u = .loading ∧ ∀ v, v ≠ u → t.tableState v = s.tableState v)

/-- RUN, HALT and ABORT (R106 to R109): outcome DONE in every state, with the effect of each on the engine; ABORT of a
frame gives cause ABORTED. -/
def Obligations.RunHaltAbort : Prop :=
  ∀ (dt : Nat) (s : State) (b : Beat) (left : Nat) (hold : Timer) (rest : List Beat) (target : Nat),
    (Commanding s dt b left hold rest 0x20 target → ∃ t, exec (.run dt) s = .next t
      ∧ Commanded s t dt b left hold rest .done [] [.engine] ∧ ReloadKept s t
      ∧ t.engine = (if s.engine.state = .stopped then
          { s.engine with state := .waiting, haltPending := false, gateTimer := none }
        else { s.engine with haltPending := false }))
      ∧ (Commanding s dt b left hold rest 0x21 target →
        (s.engine.state = .stopped → ∃ t, exec (.halt dt) s = .next t
          ∧ Commanded s t dt b left hold rest .done [] [] ∧ ReloadKept s t)
        ∧ (s.expo = true ∨ s.engine.state = .closing → ∃ t, exec (.halt dt) s = .next t
          ∧ Commanded s t dt b left hold rest .done [] [.engine] ∧ ReloadKept s t
          ∧ t.engine = { s.engine with haltPending := true })
        ∧ (s.engine.state = .waiting → ∃ t, exec (.halt dt) s = .next t
          ∧ Commanded s t dt b left hold rest .done [] [.engine, .feeder, .slots, .drive] ∧ ReloadKept s t
          ∧ t.engine = { s.engine with state := .stopped, haltPending := false, slot := none, gateTimer := none }
          ∧ FeederCleared s t ∧ t.drive = ⟨none, 0, 0, 0⟩
          ∧ (∀ n, t.slot n =
              if (s.slot n).state ≠ .vacant ∧ ∃ k, ∃ x ∈ (s.bank k).tag, x.1 = n then
                { s.slot n with fetchLine := -1 }
              else s.slot n)
          ∧ t.slots.queue = s.slots.queue ∧ ∀ y, t.users y = s.users y))
      ∧ (Commanding s dt b left hold rest 0x22 target →
        (s.engine.state = .stopped → ∃ t, exec (.abort dt) s = .next t
          ∧ Commanded s t dt b left hold rest .done [] [] ∧ ReloadKept s t)
        ∧ (s.engine.state = .waiting ∨ s.engine.state = .closing → ∃ t, exec (.abort dt) s = .next t
          ∧ Commanded s t dt b left hold rest .done [] [.engine, .feeder, .slots, .drive] ∧ ReloadKept s t
          ∧ t.engine = { s.engine with state := .stopped, haltPending := false, slot := none, gateTimer := none }
          ∧ FeederCleared s t ∧ t.drive = ⟨none, 0, 0, 0⟩ ∧ (s.engine.state = .closing → t.slots = s.slots)
          ∧ (s.engine.state = .waiting → (∀ n, t.slot n =
              if (s.slot n).state ≠ .vacant ∧ ∃ k, ∃ x ∈ (s.bank k).tag, x.1 = n then
                { s.slot n with fetchLine := -1 }
              else s.slot n)
            ∧ t.slots.queue = s.slots.queue ∧ ∀ y, t.users y = s.users y))
        ∧ (∀ n, s.expo = true → s.engine.slot = some n → ∃ t, exec (.abort dt) s = .next t
          ∧ Recorded s t dt b left hold rest .done [.slots, .fill, .engine, .feeder, .drive] ∧ ReloadKept s t
          ∧ Aborted s t n .aborted [.commandDone]))

/-- SCAN_APPLY (R86, R87, R181): BUSY in LEADING and IMAGING; otherwise the staged values are installed clamped, T_nom
before the window, the statistics, counts, runs and the last SOS time are cleared, and the scanner enters OFF or
SEEKING; DONE_CLAMPED exactly where an installed value differs from the staged one; of the events, COMMAND_DONE is raised and
SCAN_UNLOCKED follows the scanner (R102). CLEAR_SCAN_STATS (R88): the
statistics and counts are cleared in any engine state, and the rest is kept. -/
def Obligations.ScanApplyInstallsClampedSettings : Prop :=
  (∀ w : Vector Word 7, ScanSettings.ofStaging w = ⟨w[0].toNat % 256, w[1].toNat, w[2].toNat, w[3].toNat % 65536,
      w[4].toNat % 65536, w[5].toNat % 65536, w[6].toNat % 65536⟩)
    ∧ (∀ (dt : Nat) (s : State) (b : Beat) (left : Nat) (hold : Timer) (rest : List Beat) (target : Nat)
    (w : Vector Word 7) (p : Nat) (staged new : ScanSettings),
    Commanding s dt b left hold rest 0x30 target → w = s.control.scanStaging →
    staged = ⟨w[0].toNat % 256, w[1].toNat, w[2].toNat, w[3].toNat % 65536, w[4].toNat % 65536, w[5].toNat % 65536,
      w[6].toNat % 65536⟩ →
    p = (if staged.period = 0 then 0 else max 2000 (min 2000000 staged.period)) →
    new = ⟨max 4 (min 16 staged.facets), p, min staged.window (p / 4), max 4 (min 255 staged.lockCount),
      max 1 (min 64 staged.lossLimit), min staged.margin 4095, max 10 (min 5000 staged.gateWait)⟩ →
      (s.expo = true → ∃ t, exec (.scanApply dt) s = .next t ∧ Commanded s t dt b left hold rest .busy [] []
        ∧ ReloadKept s t)
        ∧ (s.expo = false → ∃ t, exec (.scanApply dt) s = .next t
          ∧ Recorded s t dt b left hold rest (if new = staged then .done else .doneClamped) [.scan] ∧ ReloadKept s t
          ∧ t.scan = ⟨new, if p = 0 then .off else .seeking, 0, false, 0, 0, none, ⟨true, 0, 0, 0⟩, 0, 0⟩
          ∧ Raised [.commandDone] (s.setScanState (if p = 0 then .off else .seeking)) t))
    ∧ (∀ (dt : Nat) (s : State) (b : Beat) (left : Nat) (hold : Timer) (rest : List Beat) (target : Nat),
    Commanding s dt b left hold rest 0x31 target → ∃ t, exec (.clearScanStats dt) s = .next t
      ∧ Commanded s t dt b left hold rest .done [] [.scan] ∧ ReloadKept s t
      ∧ t.scan = { s.scan with stats := ⟨true, 0, 0, 0⟩, glitches := 0, slips := 0 })

/-- CLEAR_EVENTS (R176): the sticky bits the argument names are cleared; then every level source in LEVEL mode whose
condition is true has its bit set again, and the command's own COMMAND_DONE is raised. -/
def Obligations.ClearEventsClearsTheNamedBits : Prop :=
  ∀ (dt : Nat) (s : State) (b : Beat) (left : Nat) (hold : Timer) (rest : List Beat) (target : Nat),
    Commanding s dt b left hold rest 0x40 target → ∃ t, exec (.clearEvents dt) s = .next t
      ∧ Recorded s t dt b left hold rest .done [] ∧ ReloadKept s t
      ∧ (∀ i : Source, i ≠ .commandDone → (t.stuck i = true ↔
          s.stuck i = true ∧ b.data.getLsbD (16 + i.index) = false
            ∨ i.isLevel = true ∧ s.mode i = .level ∧ s.raw i = true))
      ∧ (∀ i : Source, i ≠ .commandDone → t.events.stretch[i.index] = s.events.stretch[i.index])
      ∧ t.events.sweepPulse = s.events.sweepPulse ∧ t.events.framePulse = s.events.framePulse
      ∧ t.events.activity = s.events.activity

/-- MONITOR_STEP and MONITOR_STOP (R167, R168, R169): the activation, with every record cleared at the first; the pass
over the records in ascending index, the presented one copied and cleared; the return to LISTENING; and the stop,
which keeps the records and the flag. -/
def Obligations.MonitorStepsThroughTheRecords : Prop :=
  Indication.clear = ⟨false, false, false, false, none⟩
    ∧ (∀ r : Indication, r.holds = true ↔
        r.corr = true ∨ r.corrOvf = true ∨ r.uncorr = true ∨ r.uncorrOvf = true)
    ∧ ∀ (dt : Nat) (s : State) (b : Beat) (left : Nat) (hold : Timer) (rest : List Beat) (target : Nat),
    (Commanding s dt b left hold rest 0x50 target → ∃ t, exec (.monitorStep dt) s = .next t
      ∧ Commanded s t dt b left hold rest .done [] [.monitor] ∧ ReloadKept s t ∧ t.monitor.damage = s.monitor.damage
      ∧ (s.monitor.state = .idle → t.monitor.state = .listening ∧ t.monitor.first = false
          ∧ ∀ i, t.record i = if s.monitor.first then Indication.clear else s.record i)
      ∧ (∀ lo, (s.monitor.state = .listening ∧ lo = 0
            ∨ ∃ j r, s.monitor.state = .reporting j r ∧ lo = j.val + 1) →
          t.monitor.first = s.monitor.first
            ∧ ((∀ i : Fin 8, lo ≤ i.val → (s.record i).holds = false) →
                t.monitor.state = .listening ∧ t.monitor.records = s.monitor.records)
            ∧ ∀ i : Fin 8, lo ≤ i.val → (s.record i).holds = true →
                (∀ k : Fin 8, lo ≤ k.val → k < i → (s.record k).holds = false) →
                t.monitor.state = .reporting i (s.record i)
                  ∧ ∀ k, t.record k = if k = i then Indication.clear else s.record k))
      ∧ (Commanding s dt b left hold rest 0x51 target → ∃ t, exec (.monitorStop dt) s = .next t
        ∧ Commanded s t dt b left hold rest .done [] [.monitor] ∧ ReloadKept s t
        ∧ t.monitor = { s.monitor with state := .idle })

/-! ## The scanner -/

/-- SOS in the Scan Timing Unit (R89 to R99): ignored in OFF; a glitch counts and does nothing else; an accepted one
measures its period, becomes the last accepted SOS, and in a facet-counting state is the next facet, or a slip, and is
judged by the lock rules. SCAN_UNLOCKED follows the scanner's state (R102), and FACET_SLIP is raised at a slip alone. -/
def Obligations.SosAdvancesTheScanner : Prop :=
  (∀ x : ScanState, x.counts = true ↔ x = .counting ∨ x = .locked ∨ x = .unsteady)
    ∧ ∀ (dt : Nat) (s : State),
    (s.mayReach (s.now + dt) = true → s.pins.rst = false → s.scan.state = .off →
      exec (.sos dt) s = .next { s with now := s.now + dt })
      ∧ (∀ t0, s.mayReach (s.now + dt) = true → s.pins.rst = false → s.scan.state ≠ .off → s.scan.lastSos = some t0 →
        s.now + dt - t0 < s.scan.live.period / 2 → exec (.sos dt) s = .next { s with
          now := s.now + dt, scan := { s.scan with glitches := min (s.scan.glitches + 1) 65535 } })
      ∧ (SosAccepted s dt → ScanSound s → ∃ t, exec (.sos dt) s = .next t ∧ t.now = s.now + dt
        ∧ Keeps [.sc, .slots, .fill, .scan, .engine, .feeder, .drive, .events] s t
        ∧ t.scan.lastSos = some t.now ∧ t.scan.live = s.scan.live ∧ t.scan.glitches = s.scan.glitches
        ∧ t.scan.stats = (match s.scan.lastSos with
            | none => s.scan.stats
            | some t0 =>
              if s.scan.stats.empty then ⟨false, t.now - t0, t.now - t0, t.now - t0⟩
              else ⟨false, t.now - t0, min s.scan.stats.min (t.now - t0), max s.scan.stats.max (t.now - t0)⟩)
        ∧ t.stuck .scanUnlocked = (scanFollowed s t.scan.state).stuck .scanUnlocked
        ∧ (∀ i : Source, i ≠ .scanUnlocked → i ≠ .frameDone → i ≠ .frameFault → i ≠ .lineLate →
            i ≠ .facetSlip ∨ ¬ HomeMissing s.scan →
            t.stuck i = s.stuck i ∧ t.events.stretch[i.index] = s.events.stretch[i.index])
        ∧ (s.scan.state = .seeking → t.scan = { s.scan with lastSos := some t.now, stats := t.scan.stats })
        ∧ (HomeMissing s.scan →
            t.scan = { slipped s.scan with lastSos := some t.now, stats := t.scan.stats }
              ∧ t.stuck .facetSlip = true ∧ t.events.stretch[Source.facetSlip.index] = some ⟨t.now, 1000⟩)
        ∧ (s.scan.state.counts = true → ¬ HomeMissing s.scan →
            t.scan.facet = (s.scan.facet + 1) % s.scan.live.facets ∧ t.scan.homeMark = false
              ∧ t.scan.slips = s.scan.slips
              ∧ (periodError s t.now = none → t.scan.state = s.scan.state ∧ t.scan.inRun = s.scan.inRun
                  ∧ t.scan.outRun = s.scan.outRun)
              ∧ (s.scan.state = .counting → InWindow s t.now →
                  t.scan.state = (if s.scan.inRun + 1 = s.scan.live.lockCount then .locked else .counting)
                    ∧ t.scan.inRun = s.scan.inRun + 1 ∧ t.scan.outRun = 0)
              ∧ (s.scan.state = .counting → OutOfWindow s t.now →
                  t.scan.state = .counting ∧ t.scan.inRun = 0 ∧ t.scan.outRun = 0)
              ∧ (s.scan.state ≠ .counting → InWindow s t.now →
                  t.scan.state = .locked ∧ t.scan.inRun = s.scan.inRun ∧ t.scan.outRun = 0)
              ∧ (s.scan.state ≠ .counting → OutOfWindow s t.now →
                  if s.scan.outRun + 1 = s.scan.live.lossLimit then
                    t.scan.state = .counting ∧ t.scan.inRun = 0 ∧ t.scan.outRun = 0
                  else t.scan.state = .unsteady ∧ t.scan.inRun = s.scan.inRun
                    ∧ t.scan.outRun = s.scan.outRun + 1)))

/-- HOME and SILENCE_EXPIRY in the Scan Timing Unit (R89, R92, R94, R95): ignored in OFF; COUNTING at φ = P−1 from
SEEKING; the mark where HOME is in place; a slip elsewhere; and silence, which gives up counting and the last SOS. Outside
LEADING and IMAGING a slip and a silence change the scanner and the events alone (R127, R130); of the events,
SCAN_UNLOCKED follows the scanner (R102), and a slip raises FACET_SLIP. -/
def Obligations.HomeAndSilenceMoveTheScanner : Prop :=
  ∀ (dt : Nat) (s : State),
    (s.mayReach (s.now + dt) = true → s.pins.rst = false →
      (s.scan.state = .off → exec (.home dt) s = .next { s with now := s.now + dt })
        ∧ (s.scan.state = .seeking → ∃ t, exec (.home dt) s = .next t ∧ t.now = s.now + dt
            ∧ Keeps [.scan, .events] s t
            ∧ t.scan = { s.scan with state := .counting, facet := s.scan.live.facets - 1, homeMark := true }
            ∧ t.events = (s.setScanState .counting).events)
        ∧ (s.scan.state.counts = true → s.scan.facet + 1 = s.scan.live.facets → s.scan.homeMark = false →
            exec (.home dt) s = .next { s with now := s.now + dt, scan := { s.scan with homeMark := true } })
        ∧ (s.scan.state.counts = true → (s.scan.facet + 1 ≠ s.scan.live.facets ∨ s.scan.homeMark = true) →
            ∃ t, exec (.home dt) s = .next t ∧ t.now = s.now + dt ∧ Keeps (.scan :: abortBlocks) s t
              ∧ t.scan = slipped s.scan ∧ t.stuck .facetSlip = true
              ∧ t.events.stretch[Source.facetSlip.index] = some ⟨t.now, 1000⟩
              ∧ (s.expo = false → Keeps [.scan, .events] s t ∧ Raised [.facetSlip] (s.setScanState .seeking) t)))
      ∧ (∀ t0, s.scan.lastSos = some t0 → s.mayReach (t0 + 4 * s.scan.live.period) = true →
        ∃ t, exec .silenceExpiry s = .next t ∧ t.now = t0 + 4 * s.scan.live.period
          ∧ Keeps (.scan :: abortBlocks) s t
          ∧ t.scan = (if s.scan.state.counts then
              { s.scan with state := .seeking, facet := 0, homeMark := false, inRun := 0, outRun := 0, lastSos := none }
            else { s.scan with lastSos := none })
          ∧ (s.scan.state.counts = false → Keeps [.scan] s t)
          ∧ (s.scan.state.counts = true → s.expo = false →
              Keeps [.scan, .events] s t ∧ t.events = (s.setScanState .seeking).events))

/-! ## The Exposure Engine -/

/-- An accepted SOS in STOPPED, CLOSING and WAITING (R100, R110, R111): the frame starts exactly when the head is
eligible, its line 0 is in a FULL bank, MODULATOR and FACET are VALID, the scanner is LOCKED after the pulse, INTERLOCK
is closed and GATE is high; otherwise nothing but the scanner and the events changes. Of the events, SCAN_UNLOCKED
follows the scanner (R102), a slip raises FACET_SLIP (R95), and a start gives SWEEP and FRAME_START (R111, R179). That the drives are 0 from the SOS
to the first pixel clock is the model's reading, log 11. -/
def Obligations.SosStartsAFrameOrLeavesTheEngine : Prop :=
  ∀ (dt : Nat) (s t : State), SosAccepted s dt → exec (.sos dt) s = .next t →
    (s.engine.state = .stopped ∨ s.engine.state = .closing →
        Keeps [.scan, .events] s t ∧ (ScanSound s → ScanEvents s t))
      ∧ (s.engine.state = .waiting →
        (∀ n, ¬ (EligibleHead s n ∧ (∃ k, (s.bank k).tag = some (n, 0) ∧ (s.bank k).state = .full)
            ∧ s.tableState .modulator = .valid ∧ s.tableState .facet = .valid ∧ t.scan.state = .locked
            ∧ s.pins.interlock = false ∧ s.pins.gate = true)) →
          Keeps [.scan, .events] s t ∧ (ScanSound s → ScanEvents s t))
      ∧ (∀ n x, s.engine.state = .waiting → x = s.slot n → EligibleHead s n →
        (∃ k, (s.bank k).tag = some (n, 0) ∧ (s.bank k).state = .full) → s.tableState .modulator = .valid →
        s.tableState .facet = .valid → t.scan.state = .locked → s.pins.interlock = false → s.pins.gate = true →
          Keeps [.slots, .scan, .engine, .feeder, .drive, .events] s t ∧ OtherSlotsKept n s t
            ∧ t.slot n = { x with state := .exposing } ∧ t.slots.queue = s.slots.queue
            ∧ (∀ y, t.users y = s.users y)
            ∧ t.engine = { s.engine with
                state := if x.lead = 0 then .imaging else .leading, slot := some n, sweep := 0
                line := if x.lead = 0 then some 0 else none, spoiled := false }
            ∧ t.feeder.target = s.feeder.target ∧ t.feeder.fetch = s.feeder.fetch
            ∧ (0 < x.lead → t.feeder = s.feeder
                ∧ t.drive = ⟨some ⟨false, none, t.scan.facet, s.scan.live.margin, 0, false⟩, 0, 0, 0⟩)
            ∧ (x.lead = 0 → ∃ k, (s.bank k).tag = some (n, 0)
                ∧ ((s.bank k).state = .full ∨ (s.bank k).state = .sending)
                ∧ t.bank k = { s.bank k with state := .sending } ∧ (∀ j, j ≠ k → t.bank j = s.bank j)
                ∧ t.drive = ⟨some ⟨true, some k, t.scan.facet, s.scan.live.margin, 0, false⟩, 0, 0, 0⟩)
            ∧ t.expo = true ∧ t.events = { (scanFollowed s .locked).events with
                sweepPulse := some ⟨t.now, 1000⟩, framePulse := some ⟨t.now, 1000⟩ })

/-- An accepted SOS of a frame in progress (R112, R119, R120, R122, R125): the counter rises to k; lines exposed counts
a line whose last sweep has ended; sweep k is a lead sweep, or an image sweep of line (k − lead) div r that sends its
FULL or SENDING bank or is late; banks below the line are freed, a fetch into one of them is abandoned, and any other
bank but the one sent is unchanged; the line is spoiled where the rules say; the sweep that ends reports to the activity
envelope (R180), SWEEP is indicated (R179), SCAN_UNLOCKED follows the scanner (R102), a late sweep raises LINE_LATE, and
no other event changes. That the drives are 0 from the SOS to the first pixel clock is the model's reading, log 11. -/
def Obligations.SosBeginsTheNextSweep : Prop :=
  ∀ (dt : Nat) (s t : State) (n : Fin 8) (x : Slot) (k l : Nat) (first ready : Bool),
    SosAccepted s dt → exec (.sos dt) s = .next t → s.expo = true → s.engine.slot = some n → x = s.slot n →
    t.scan.state = .locked ∨ t.scan.state = .unsteady → k = s.engine.sweep + 1 → k ≠ x.lead + x.height * x.rep →
    l = (k - x.lead) / x.rep → first = decide ((k - x.lead) % x.rep = 0) →
    (ready = true ↔ ∃ j, (s.bank j).tag = some (n, l) ∧ ((s.bank j).state = .full ∨ (s.bank j).state = .sending)) →
      Keeps [.sc, .slots, .scan, .engine, .feeder, .drive, .events] s t ∧ OtherSlotsKept n s t
        ∧ t.slots.queue = s.slots.queue ∧ (∀ y, t.users y = s.users y)
        ∧ t.events.sweepPulse = some ⟨t.now, 1000⟩ ∧ t.events.framePulse = s.events.framePulse
        ∧ t.events.activity = activityAfter s t.now
        ∧ Raised (if x.lead ≤ k ∧ ready = false then [.lineLate] else [])
            (swept (reported (scanFollowed s t.scan.state) t.now) t.now) t
        ∧ t.engine.sweep = k ∧ t.engine.slot = some n ∧ t.engine.haltPending = s.engine.haltPending
        ∧ t.engine = { s.engine with
            state := t.engine.state, sweep := k, line := t.engine.line, spoiled := t.engine.spoiled }
        ∧ t.slot n = { x with
            exposed := x.exposed
              + (if x.lead ≤ s.engine.sweep ∧ (s.engine.sweep - x.lead) % x.rep + 1 = x.rep then 1 else 0)
            spoiled := (t.slot n).spoiled }
        ∧ (k < x.lead → t.engine.state = s.engine.state ∧ t.engine.line = s.engine.line
            ∧ t.engine.spoiled = s.engine.spoiled
            ∧ (t.slot n).spoiled = x.spoiled ∧ t.feeder = s.feeder ∧ t.sc = s.sc
            ∧ t.drive = ⟨some ⟨false, none, t.scan.facet, s.scan.live.margin, 0, false⟩, 0, 0, 0⟩)
        ∧ (x.lead ≤ k → t.engine.state = .imaging
            ∧ t.engine.line = (if first then some l else s.engine.line)
            ∧ t.feeder.target = (if first then max s.feeder.target l else s.feeder.target)
            ∧ (∀ j, (∃ y ∈ (s.bank j).tag, y.2 < l) → t.bank j = { s.bank j with state := .free, tag := none })
            ∧ (∀ f ∈ s.feeder.fetch, (∃ y ∈ (s.bank f.bank).tag, y.2 < l) → FetchAbandoned s t)
            ∧ ((∀ f ∈ s.feeder.fetch, ∀ y ∈ (s.bank f.bank).tag, l ≤ y.2) →
                t.feeder.fetch = s.feeder.fetch ∧ t.sc = s.sc)
            ∧ (t.stuck .lineLate = true ↔ s.stuck .lineLate = true ∨ ready = false)
            ∧ (ready = false →
                t.drive = ⟨some ⟨true, none, t.scan.facet, s.scan.live.margin, 0, false⟩, 0, 0, 0⟩
                  ∧ ∀ j, (∀ y ∈ (s.bank j).tag, l ≤ y.2) → t.bank j = s.bank j)
            ∧ (ready = true → ∃ j, (s.bank j).tag = some (n, l) ∧ t.bank j = { s.bank j with state := .sending }
                ∧ t.drive = ⟨some ⟨true, some j, t.scan.facet, s.scan.live.margin, 0, false⟩, 0, 0, 0⟩
                ∧ ∀ i, i ≠ j → (∀ y ∈ (s.bank i).tag, l ≤ y.2) → t.bank i = s.bank i)
            ∧ (ready = false ∨ OutOfWindow s t.now →
                t.engine.spoiled = true
                  ∧ (t.slot n).spoiled = x.spoiled + (if first = true ∨ s.engine.spoiled = false then 1 else 0))
            ∧ (ready = true → ¬ OutOfWindow s t.now →
                t.engine.spoiled = (if first then false else s.engine.spoiled) ∧ (t.slot n).spoiled = x.spoiled))

/-- The accepted SOS that would begin sweep S is the frame end (R8, R113, R129, R130): the slot EXPOSED and out of the
queue with lines exposed counted, banks FREE, FRAME_DONE, DONE up, EXPO down, CLOSING with the gate-release timer; the
last sweep reports to the activity envelope (R180), and of the events SCAN_UNLOCKED alone follows beside (R102). -/
def Obligations.SosEndsTheFrame : Prop :=
  ∀ (dt : Nat) (s t : State) (n : Fin 8) (x : Slot),
    SosAccepted s dt → exec (.sos dt) s = .next t → s.expo = true → s.engine.slot = some n → x = s.slot n →
    t.scan.state = .locked ∨ t.scan.state = .unsteady → s.engine.sweep + 1 = x.lead + x.height * x.rep →
      Keeps (.scan :: abortBlocks) s t
        ∧ t.slot n = { x with
            state := .exposed
            exposed := x.exposed
              + (if x.lead ≤ s.engine.sweep ∧ (s.engine.sweep - x.lead) % x.rep + 1 = x.rep then 1 else 0) }
        ∧ LeftQueue s t n ∧ FeederCleared s t ∧ FetchDropped s t ∧ t.drive = ⟨none, 0, 0, 0⟩
        ∧ Raised [.frameDone] (reported (scanFollowed s t.scan.state) t.now) t
        ∧ t.engine = { s.engine with
            state := .closing, slot := none, sweep := x.lead + x.height * x.rep
            gateTimer := some ⟨t.now, s.scan.live.gateWait * 100000⟩, doneTimer := some ⟨t.now, 1000⟩ }
        ∧ t.stuck .frameDone = true ∧ t.events.stretch[Source.frameDone.index] = some ⟨t.now, 1000⟩
        ∧ t.events.activity = activityAfter s t.now ∧ t.expo = false ∧ t.done = true

/-- The abort triggers that are no commands (R101, R126, R127, R128): GATE falling, INTERLOCK opening, a HOME out of
place, silence, a slip and a lock loss at an SOS; each aborts the frame with its cause, the sweep cut reports (R180), and a granted fetch segment is discarded (R120).
FRAME_FAULT is raised, and FACET_SLIP by a slip (R95); SCAN_UNLOCKED and INTERLOCK_OPEN follow their conditions (R173). -/
def Obligations.AbortTriggersFaultTheFrame : Prop :=
  ∀ (dt : Nat) (s : State) (n : Fin 8), s.expo = true → s.engine.slot = some n →
    (s.mayReach (s.now + dt) = true →
      (∃ t, exec (.gateFall dt) s = .next t ∧ t.now = s.now + dt ∧ Keeps (.pins :: abortBlocks) s t
        ∧ t.pins = { s.pins with gate := false } ∧ Aborted s t n .gateLost [] ∧ FetchDropped s t)
        ∧ (∃ t, exec (.interlockOpen dt) s = .next t ∧ t.now = s.now + dt ∧ Keeps (.pins :: abortBlocks) s t
          ∧ t.pins = { s.pins with interlock := true } ∧ Aborted (s.setInterlock true) t n .interlock []
          ∧ FetchDropped s t)
        ∧ (s.pins.rst = false → s.scan.state.counts = true →
          s.scan.facet + 1 ≠ s.scan.live.facets ∨ s.scan.homeMark = true →
          ∃ t, exec (.home dt) s = .next t ∧ Aborted (s.setScanState .seeking) t n .facetSlip [.facetSlip]
            ∧ FetchDropped s t))
      ∧ (∀ t0, s.scan.lastSos = some t0 → s.mayReach (t0 + 4 * s.scan.live.period) = true →
        s.scan.state.counts = true → ∃ t, exec .silenceExpiry s = .next t
          ∧ Aborted (s.setScanState .seeking) t n .scanLost [] ∧ FetchDropped s t)
      ∧ (SosAccepted s dt → ScanSound s → HomeMissing s.scan →
        ∃ t, exec (.sos dt) s = .next t ∧ Aborted (s.setScanState .seeking) t n .facetSlip [.facetSlip]
          ∧ FetchDropped s t)
      ∧ (SosAccepted s dt → ScanSound s → ¬ HomeMissing s.scan →
        s.scan.state = .locked ∨ s.scan.state = .unsteady → OutOfWindow s (s.now + dt) →
        s.scan.outRun + 1 = s.scan.live.lossLimit →
        ∃ t, exec (.sos dt) s = .next t ∧ t.scan.state = .counting
          ∧ Aborted (s.setScanState .counting) t n .scanLost [] ∧ FetchDropped s t)

/-- FETCH_BEGIN (R115, R116, R118, R121): with every condition holding, the lower-numbered FREE bank is FILLING under
the slot and the target line, the slot's fetch line is that line, the target line rises, and the grant decision a free store then
makes (R117, R156) is all that changes beside; where the conditions hold
of no slot and bank the fetch does not begin, and the step offered then is refused (the model's reading, log 4). -/
def Obligations.FetchBeginsWhenItsConditionsHold : Prop :=
  ∀ (dt : Nat) (s : State), s.mayReach (s.now + dt) = true →
    (∀ (n : Fin 8) (b : Fin 2), FetchConditions s n b → ∃ t, exec (.fetchBegin dt) s = .next t ∧ t.now = s.now + dt
      ∧ Keeps [.sc, .link, .slots, .feeder] s t ∧ OtherSlotsKept n s t
      ∧ t.slot n = { s.slot n with fetchLine := s.feeder.target } ∧ t.slots.queue = s.slots.queue
      ∧ (∀ y, t.users y = s.users y)
      ∧ t.bank b = { s.bank b with state := .filling, tag := some (n, s.feeder.target) }
      ∧ (∀ c, c ≠ b → t.bank c = s.bank c) ∧ t.feeder.target = s.feeder.target + 1
      ∧ t.feeder.fetch = some ⟨b, n, s.feeder.target, 0⟩ ∧ OnlyGrants s t
      ∧ t = State.arbitrate { s with now := s.now + dt, slots := t.slots, feeder := t.feeder })
      ∧ ((∀ n b, ¬ FetchConditions s n b) → exec (.fetchBegin dt) s = .refused .feederNotReady)

/-- PIXEL_DRIVE (R122 to R125, R128): in IMAGING with INTERLOCK closed, the W pixel clocks after the margin of a sweep
that sends a bank give the drives M_k[E'_k], or 0 with the line spoiled where a read fails; every other pixel clock
gives drive 0, one with no sweep in progress among them (outside a sweep that sends a bank, log 22; the damage comes with
the step, log 8). The monitor is as the checks of the seven reads of a pixel, in the order of R163, leave it. E' is the stored level plus the slot's trim plus the facet's offset, clamped to 0 to 1023 (R123). -/
def Obligations.PixelClockGivesTheDrives : Prop :=
  (∀ (dt : Nat) (arisen : List Damage) (s a : State) (n : Fin 8) (sw : Sweep) (k : Fin 2) (px : Pixel),
    s.mayReach (s.now + dt) = true → a = s.arise arisen → s.drive.sweep = some sw →
      ((s.engine.state ≠ .imaging ∨ s.pins.interlock = true ∨ sw.bank = none ∨ sw.clocks < sw.margin
          ∨ s.engine.slot = some n ∧ sw.margin + (s.slot n).width ≤ sw.clocks) →
        exec (.pixelDrive dt arisen) s = .next { s with
          now := s.now + dt, drive := ⟨some { sw with clocks := sw.clocks + 1 }, 0, 0, 0⟩, monitor := a.monitor })
        ∧ (s.engine.state = .imaging → s.pins.interlock = false → s.engine.slot = some n → sw.bank = some k →
          sw.margin ≤ sw.clocks → sw.clocks < sw.margin + (s.slot n).width →
          px = ⟨n, k, sw.clocks - sw.margin, sw.facet⟩ →
          ∃ t, exec (.pixelDrive dt arisen) s = .next t ∧ t.now = s.now + dt
            ∧ t.monitor = (a.checkReads (a.pixelReads px)).monitor
            ∧ (a.anyFails (a.pixelReads px) = false → Keeps [.drive, .monitor] s t
                ∧ t.drive.red = (a.delivered .modR (a.correctedLevel px 0)).extractLsb' 0 16
                ∧ t.drive.green = (a.delivered .modG (a.correctedLevel px 1)).extractLsb' 0 16
                ∧ t.drive.blue = (a.delivered .modB (a.correctedLevel px 2)).extractLsb' 0 16
                ∧ t.drive.sweep = some { sw with
                    clocks := sw.clocks + 1
                    lit := sw.lit || t.drive.red != 0 || t.drive.green != 0 || t.drive.blue != 0 })
            ∧ (a.anyFails (a.pixelReads px) = true → Keeps [.drive, .engine, .slots, .events, .monitor] s t
                ∧ t.drive = ⟨some { sw with clocks := sw.clocks + 1 }, 0, 0, 0⟩ ∧ Raised [.integrity] s t
                ∧ t.engine = { s.engine with spoiled := true } ∧ OtherSlotsKept n s t
                ∧ t.slot n = { s.slot n with
                    spoiled := (s.slot n).spoiled + (if s.engine.spoiled then 0 else 1) }
                ∧ t.slots.queue = s.slots.queue ∧ ∀ y, t.users y = s.users y)))
    ∧ (∀ (dt : Nat) (arisen : List Damage) (s : State), s.mayReach (s.now + dt) = true → s.drive.sweep = none →
      exec (.pixelDrive dt arisen) s = .next { s with
        now := s.now + dt, drive := ⟨none, 0, 0, 0⟩, monitor := (s.arise arisen).monitor })
    ∧ (∀ (s : State) (px : Pixel), s.pixelReads px =
        [(if px.bank = 0 then .bank0 else .bank1, px.pos), (.facet, 3 * px.facet), (.facet, 3 * px.facet + 1),
         (.facet, 3 * px.facet + 2), (.modR, s.correctedLevel px 0), (.modG, s.correctedLevel px 1),
         (.modB, s.correctedLevel px 2)])
    ∧ (∀ (s : State) (px : Pixel) (k : Channel) (level trim offset : Int),
    level = ((s.delivered (if px.bank = 0 then .bank0 else .bank1) px.pos).toNat / 2 ^ (20 - 10 * k.val) % 1024 : Nat) →
    trim = ([(s.slot px.slot).trimR, (s.slot px.slot).trimG, (s.slot px.slot).trimB].getD k.val 0) →
    offset = ((s.delivered .facet (3 * px.facet + k.val)).extractLsb' 0 16).toInt →
      (s.correctedLevel px k : Int) = max 0 (min 1023 (level + trim + offset)) ∧ s.correctedLevel px k ≤ 1023)

/-- GATE and INTERLOCK outside a frame, and the gate-release timer (R127 to R130): a fall in CLOSING ends it in WAITING,
or in STOPPED with HALT-pending; a fall elsewhere, a rise and a closing change the level alone; an opening blanks the
drives, and INTERLOCK_OPEN follows the level (R173); the expiry raises GATE_STUCK and stops the engine, which discards a
granted fetch segment (R120). -/
def Obligations.GateAndInterlockOutsideAFrame : Prop :=
  ∀ (dt : Nat) (s : State),
    (s.mayReach (s.now + dt) = true →
      exec (.gateRise dt) s = .next { s with now := s.now + dt, pins := { s.pins with gate := true } }
        ∧ (s.engine.state = .stopped ∨ s.engine.state = .waiting → exec (.gateFall dt) s =
            .next { s with now := s.now + dt, pins := { s.pins with gate := false } })
        ∧ (s.engine.state = .closing → s.engine.haltPending = false → exec (.gateFall dt) s = .next { s with
            now := s.now + dt, pins := { s.pins with gate := false }
            engine := { s.engine with state := .waiting, gateTimer := none } })
        ∧ (s.engine.state = .closing → s.engine.haltPending = true → ∃ t, exec (.gateFall dt) s = .next t
            ∧ t.now = s.now + dt ∧ Keeps [.pins, .sc, .engine, .feeder, .drive] s t
            ∧ t.pins = { s.pins with gate := false } ∧ FeederCleared s t ∧ FetchDropped s t ∧ t.drive = ⟨none, 0, 0, 0⟩
            ∧ t.engine = { s.engine with state := .stopped, haltPending := false, slot := none, gateTimer := none })
        ∧ (s.expo = false → ∃ t, exec (.interlockOpen dt) s = .next t ∧ t.now = s.now + dt
            ∧ Keeps [.pins, .drive, .events] s t ∧ t.pins = { s.pins with interlock := true }
            ∧ t.drive = { s.drive with red := 0, green := 0, blue := 0 } ∧ t.events = (s.setInterlock true).events)
        ∧ (∃ t, exec (.interlockClose dt) s = .next t ∧ t.now = s.now + dt ∧ Keeps [.pins, .events] s t
            ∧ t.pins = { s.pins with interlock := false } ∧ t.raw .interlockOpen = false
            ∧ t.events = (s.setInterlock false).events))
      ∧ (∀ x, s.engine.gateTimer = some x → s.engine.state = .closing → s.mayReach x.ends = true →
        ∃ t, exec .gateReleaseExpiry s = .next t ∧ t.now = x.ends ∧ Keeps [.sc, .engine, .feeder, .drive, .events] s t
          ∧ Raised [.gateStuck] s t ∧ FeederCleared s t ∧ FetchDropped s t ∧ t.drive = ⟨none, 0, 0, 0⟩
          ∧ t.engine = { s.engine with state := .stopped, haltPending := false, slot := none, gateTimer := none })

/-! ## Events and output lines -/

/-- The ends of the pulses and of the activity envelope (R129, R172, R179, R180): each ends or toggles its own timer at
its own tick and changes nothing else. The ticks a step may be taken at (the model's reading, logs 1, 2): none before
the step before it, none after the end of a running timer or of the longest hold of the store, and no later one while
LRDY or a fetch is due; no command but a power-on answers a next state at any other tick. -/
def Obligations.TimersEndOnTheirTick : Prop :=
  (∀ (s : State) (u : Tick), s.mayReach u = true ↔ s.now ≤ u
      ∧ (∀ x : Timer, s.sc.init = some x ∨ s.sc.refresh = some x ∨ (∃ g ∈ s.sc.grant, g.hold = x)
            ∨ (∃ t0 ∈ s.scan.lastSos, x = ⟨t0, 4 * s.scan.live.period⟩) ∨ s.engine.gateTimer = some x
            ∨ s.engine.doneTimer = some x ∨ s.events.sweepPulse = some x ∨ s.events.framePulse = some x
            ∨ (∃ a ∈ s.events.activity, a.hold = x ∨ a.blink = x) ∨ (∃ i : Fin 16, s.events.stretch[i] = some x) →
          u ≤ x.start + x.length)
      ∧ (u = s.now ∨ (∀ n b, ¬ FetchConditions s n b) ∧ ∀ x ∈ s.link.txn, x.lrdy = false →
          ¬ (x.write = true ∧ (x.outOfRange = true ∨ s.queue.length ≤ 192)
            ∨ x.write = false ∧ s.queue = [] ∧ x.wants = false ∧ s.sc.init = none)))
    ∧ (∀ (c : Instr) (s t : State),
      (∀ dt straps gate interlock lselLow, c ≠ .powerOn dt straps gate interlock lselLow) →
      exec c s = .next t → s.mayReach t.now = true)
    ∧ (∀ x : Timer, x.ends = x.start + x.length)
    ∧ ∀ (s : State) (x : Timer), s.mayReach x.ends = true →
    (s.engine.doneTimer = some x → exec .donePulseEnd s =
      .next { s with now := x.ends, engine := { s.engine with doneTimer := none } })
      ∧ (∀ i : Source, s.events.stretch[i.index] = some x → exec (.pulseStretchEnd i) s =
          .next { s with now := x.ends, events := { s.events with stretch := s.events.stretch.set i.index none } })
      ∧ (s.events.sweepPulse = some x → exec .sweepPulseEnd s =
          .next { s with now := x.ends, events := { s.events with sweepPulse := none } })
      ∧ (s.events.framePulse = some x → exec .frameStartPulseEnd s =
          .next { s with now := x.ends, events := { s.events with framePulse := none } })
      ∧ (∀ a, s.events.activity = some a → a.hold = x → exec .activityExpiry s =
          .next { s with now := x.ends, events := { s.events with activity := none } })
      ∧ (∀ a, s.events.activity = some a → a.blink = x → exec .activityBlinkToggle s =
          .next { s with now := x.ends, events := { s.events with
            activity := some ⟨a.hold, ⟨x.ends, 10000000⟩, !a.high⟩ } })

/-- The sources, their raw conditions and settings (R172, R175, section 11.3), EXPO and DONE (R129), level sources,
ident, ATTN, STOP and the AUX lines (R102, R173, R174, R179): a change of the scanner's state or of
INTERLOCK sets the sticky bit by the trigger mode in force, and changes nothing else; ident is sticky and enable, or raw and enable where
bypassed; a line is high exactly while a mapped ident is true; an AUX line shows the function of its code. In mode LEVEL
the sticky bit is set whenever the condition is true: every step keeps that. -/
def Obligations.EventOutputsFollowTheSources : Prop :=
  ([Source.slotReady, .frameDone, .frameFault, .commandDone, .coverageLost, .writeLocked, .partialPixel, .tableStale,
      .tableClamp, .scanUnlocked, .facetSlip, .lineLate, .interlockOpen, .integrity, .linkFault, .gateStuck].map
        Source.index = [0, 1, 2, 3, 4, 5, 6, 7, 8, 9, 10, 11, 12, 13, 14, 15]
      ∧ ∀ i : Source, i.isLevel = true ↔ i = .scanUnlocked ∨ i = .interlockOpen)
    ∧ (∀ (s : State) (i : Source),
      s.raw i = (match i with
          | .scanUnlocked => s.scan.state == .seeking || s.scan.state == .counting || s.scan.state == .unsteady
          | .interlockOpen => s.pins.interlock
          | _ => s.events.stretch[i.index].isSome)
        ∧ s.stuck i = s.events.sticky.getLsbD i.index
        ∧ s.mode i = (match (s.control.eventWords[0]).toNat / 4 ^ i.index.val % 4 with
          | 0 => .level
          | 1 => .change
          | 2 => .rise
          | _ => .fall)
        ∧ s.enabled i = (s.control.eventWords[1]).getLsbD i.index
        ∧ s.bypassed i = (s.control.eventWords[2]).getLsbD i.index
        ∧ s.attnMapped i = (s.control.eventWords[3]).getLsbD i.index
        ∧ s.stopMapped i = (s.control.eventWords[4]).getLsbD i.index)
    ∧ (∀ s : State, (s.expo = true ↔ s.engine.state = .leading ∨ s.engine.state = .imaging)
      ∧ (s.done = true ↔ s.engine.doneTimer ≠ none))
    ∧ ∀ s : State,
    (∀ x, (s.setScanState x).stuck .scanUnlocked = true ↔ s.stuck .scanUnlocked = true
        ∨ (match s.mode .scanUnlocked with
          | .level => x.unlocked = true
          | .change => x.unlocked ≠ s.raw .scanUnlocked
          | .rise => x.unlocked = true ∧ s.raw .scanUnlocked = false
          | .fall => x.unlocked = false ∧ s.raw .scanUnlocked = true)
        ∧ (x.unlocked = true ↔ x = .seeking ∨ x = .counting ∨ x = .unsteady))
      ∧ (∀ x, (s.setInterlock x).stuck .interlockOpen = true ↔ s.stuck .interlockOpen = true
        ∨ (match s.mode .interlockOpen with
          | .level => x = true
          | .change => x ≠ s.pins.interlock
          | .rise => x = true ∧ s.pins.interlock = false
          | .fall => x = false ∧ s.pins.interlock = true))
      ∧ (∀ x, s.setScanState x = { s with
            scan := { s.scan with state := x }
            events := { s.events with sticky := (s.setScanState x).events.sticky } }
          ∧ ∀ i, i ≠ .scanUnlocked → (s.setScanState x).stuck i = s.stuck i)
      ∧ (∀ x, s.setInterlock x = { s with
            pins := { s.pins with interlock := x }
            events := { s.events with sticky := (s.setInterlock x).events.sticky } }
          ∧ ∀ i, i ≠ .interlockOpen → (s.setInterlock x).stuck i = s.stuck i)
      ∧ (∀ i, s.ident i = true ↔ s.enabled i = true ∧ (if s.bypassed i then s.raw i else s.stuck i) = true)
      ∧ (s.attn = true ↔ ∃ i, s.ident i = true ∧ s.attnMapped i = true)
      ∧ (s.stop = true ↔ ∃ i, s.ident i = true ∧ s.stopMapped i = true)
      ∧ (∀ t, LevelsStick s → step s = .next t → LevelsStick t)
      ∧ ∀ n : Fin 4, s.aux n =
          (match (s.control.auxWords[n]).toNat % 16 with
          | 1 => true
          | 2 => s.expo
          | 3 => s.events.sweepPulse.isSome
          | 4 => s.events.framePulse.isSome
          | 5 => s.events.activity.isSome
          | 6 => s.events.activity.any Activity.high
          | 7 => s.scan.state == .locked
          | 8 => s.attn
          | 9 => s.stop
          | _ => false)

/-- The status page (R149, R170, R178, R182): every field of section 11.5 at its bits, with its "none" code where it is
absent, and 0 at every bit that no table assigns; the code tables; and the blocked reason of R110. The identification,
event and slot-state fields are said again in words of their own. -/
def Obligations.StatusWordsShowTheirFields : Prop :=
  ∀ s : State,
    (∀ f ∈ statusFields s, (s.statusWord f.offset).extractLsb' f.lo f.len = BitVec.ofNat f.len f.value)
      ∧ (∀ o i, (∀ f ∈ statusFields s, f.offset = o → i < f.lo ∨ f.lo + f.len ≤ i) → (s.statusWord o).getLsbD i = false)
      ∧ (s.engine.state ≠ .waiting → s.blockedReason = .none)
      ∧ (s.engine.state = .waiting → (∀ n, ¬ EligibleHead s n) → s.blockedReason = .noFrame)
      ∧ (∀ n, s.engine.state = .waiting → EligibleHead s n → s.blockedReason =
          if ¬ ∃ k, (s.bank k).tag = some (n, 0) ∧ (s.bank k).state = .full then .staging
          else if ¬ (s.tableState .modulator = .valid ∧ s.tableState .facet = .valid) then .tables
          else if s.scan.state ≠ .locked then .scan
          else if s.pins.interlock = true then .interlock
          else if s.pins.gate = false then .gate else .none)
      ∧ [EngineState.stopped, .waiting, .leading, .imaging, .closing].map EngineState.code = [0, 1, 2, 3, 4]
      ∧ [Blocked.none, .noFrame, .staging, .tables, .scan, .interlock, .gate].map Blocked.code = [0, 1, 2, 3, 4, 5, 6]
      ∧ [BankState.free, .filling, .full, .sending].map BankState.code = [0, 1, 2, 3]
      ∧ [ScanState.off, .seeking, .counting, .locked, .unsteady].map ScanState.code = [0, 1, 2, 3, 4]
      ∧ [TableState.empty, .valid, .stale, .loading].map TableState.code = [0, 1, 2, 3]
      ∧ (∀ i r, [MonitorState.idle, .listening, .reporting i r].map MonitorState.code = [0, 1, 2])
      ∧ [SlotState.vacant, .opened, .filling, .ready, .exposing, .exposed, .faulted].map SlotState.code
          = [0, 1, 2, 3, 4, 5, 6]
      ∧ [none, some .aborted, some .withdrawn, some .gateLost, some .scanLost, some .facetSlip,
          some .interlock].map FaultCause.code = [0, 1, 2, 3, 4, 5, 6]
      ∧ [CmdOutcome.none, .done, .doneClamped, .started, .busy, .inUse, .state, .range, .overlap, .table, .malformed,
          .unknown].map CmdOutcome.code = [0, 1, 2, 3, 4, 5, 6, 7, 8, 9, 10, 11]
      ∧ [ReloadOutcome.none, .done, .disturbed, .abandoned].map ReloadOutcome.code = [0, 1, 2, 3]
      ∧ [TableUnit.stockA, .stockB, .modulator, .facet].map TableUnit.code = [0, 1, 2, 3]
      ∧ s.statusWord 0 = 0x24600D57 ∧ (s.statusWord 1).toNat = 65536 * s.sc.size.mib + 1
      ∧ (∀ i : Source, (s.statusWord 32).getLsbD i.index = s.raw i ∧ (s.statusWord 33).getLsbD i.index = s.stuck i
          ∧ (s.statusWord 34).getLsbD i.index = s.ident i
          ∧ (s.statusWord 35).getLsbD i.index = (s.ident i && s.attnMapped i)
          ∧ (s.statusWord 36).getLsbD i.index = (s.ident i && s.stopMapped i))
      ∧ (∀ o, 112 ≤ o ∧ o < 128 ∨ 256 ≤ o → s.statusWord o = 0)
      ∧ ∀ n : Fin 8,
          (s.statusWord (128 + 16 * n)).extractLsb' 0 3 = BitVec.ofNat 3 (s.slot n).state.code
            ∧ (s.statusWord (128 + 16 * n)).getLsbD 16 = (s.slot n).lost
            ∧ (s.statusWord (128 + 16 * n)).getLsbD 17 = (s.slot n).sealed
            ∧ (s.statusWord (128 + 16 * n)).getLsbD 18 = (s.slot n).complete
            ∧ (s.statusWord (128 + 16 * n)).getLsbD 19 = (s.slot n).suspect
            ∧ (s.statusWord (128 + 16 * n)).getLsbD 20 = (s.slot n).trimClamped
            ∧ s.statusWord (128 + 16 * n + 1) = (s.slot n).frame
            ∧ (s.statusWord (128 + 16 * n + 8)).extractLsb' 16 16 = BitVec.ofInt 16 (s.slot n).fetchLine
            ∧ s.statusWord (128 + 16 * n + 9) = BitVec.ofNat 32 (s.cover n).cursor

/-! ## Conversion and checked reads -/

/-- The two stages of a conversion (R65, R66, R70 to R78): the density is the rounded row sum, or four times the code
in bypass, plus the offset, clamped to 0 to 4095; the level is interpolated between the two knots and never leaves
them; the spare bits are 0. A conversion reads the nine coefficients, bypass apart, the three offsets, and two knots per
channel, in this order (R69, R163), from its set's shadow (R162). -/
def Obligations.ConversionFollowsTheTwoStages : Prop :=
  (∀ (s : State) (x : StockSet) (bypass : Bool) (w : Word) (m : Mem) (r g b : Nat),
    m = (match x with | .a => .stockA | .b => .stockB) →
    r = s.density x bypass w 0 / 16 → g = s.density x bypass w 1 / 16 → b = s.density x bypass w 2 / 16 →
      (∀ e, s.stockHalf x e = (s.delivered m e).extractLsb' 0 16)
        ∧ s.conversionReads x bypass w =
            (if bypass then [] else [800, 801, 802, 803, 804, 805, 806, 807, 808].map (fun e => (m, e)))
              ++ [(m, 812), (m, 813), (m, 814), (m, r), (m, r + 1), (m, 257 + g), (m, 257 + g + 1), (m, 514 + b),
                  (m, 514 + b + 1)])
    ∧ ∀ (s : State) (x : StockSet) (bypass : Bool) (w : Word) (k : Channel) (d lo hi : Nat),
    d = s.density x bypass w k →
    lo = min 1023 (s.stockHalf x (257 * k.val + d / 16)).toNat →
    hi = min 1023 (s.stockHalf x (257 * k.val + d / 16 + 1)).toNat →
      (d : Int) = max 0 (min 4095 ((s.stockHalf x (812 + k.val)).toInt
          + (if bypass then 4 * ((w.toNat / 2 ^ (20 - 10 * k.val) % 1024 : Nat) : Int)
            else ((s.stockHalf x (800 + 3 * k.val)).toInt * ((w.toNat / 1048576 % 1024 : Nat) : Int)
                + (s.stockHalf x (801 + 3 * k.val)).toInt * ((w.toNat / 1024 % 1024 : Nat) : Int)
                + (s.stockHalf x (802 + 3 * k.val)).toInt * ((w.toNat % 1024 : Nat) : Int) + 512) / 1024)))
        ∧ (((s.convert x bypass w).toNat / 2 ^ (20 - 10 * k.val) % 1024 : Nat) : Int)
            = lo + ((hi - lo : Int) * (d % 16 : Nat) + 8) / 16
        ∧ min lo hi ≤ (s.convert x bypass w).toNat / 2 ^ (20 - 10 * k.val) % 1024
        ∧ (s.convert x bypass w).toNat / 2 ^ (20 - 10 * k.val) % 1024 ≤ max lo hi
        ∧ (s.convert x bypass w).getLsbD 30 = false ∧ (s.convert x bypass w).getLsbD 31 = false

/-- A checked read (R164, R165, R166): no error changes nothing; a correctable one delivers the word as written and
repairs the entry; an uncorrectable one delivers the word as it stands, leaves it damaged and raises INTEGRITY; the
record takes flags and address by the monitor state. The reads of one operation are checked one after the other (R163),
and fail where one is uncorrectable; the entries and the indices of the memories (R162). That damage arises as data of a
step is the model's choice, log 8; it replaces what an entry had, but that a damage beyond correction stays (R165). -/
def Obligations.CheckedReadsAreRecorded : Prop :=
  (∀ s : State, s.checkReads [] = s ∧ (∀ m e rest, s.checkReads ((m, e) :: rest) = (s.checkRead m e).checkReads rest)
      ∧ ∀ reads, s.anyFails reads = true ↔ ∃ r ∈ reads, ∃ bits, s.harmAt r.1 r.2 = some (.uncorrectable bits))
    ∧ (∀ (s : State) (m : Mem) (e : Nat), s.held m e = (match m with
      | .bank0 => zeroGet (s.bank 0).words e
      | .bank1 => zeroGet (s.bank 1).words e
      | _ => (zeroGet (s.control.shadows.get m) e).setWidth 32))
    ∧ [Mem.stockA, .stockB, .modR, .modG, .modB, .facet, .bank0, .bank1].map Mem.index = [0, 1, 2, 3, 4, 5, 6, 7]
    ∧ (∀ s : State, s.arise [] = s
      ∧ ∀ (d : Damage) (rest : List Damage), s.arise (d :: rest) = (s.arise [d]).arise rest
        ∧ s.arise [d] = { s with monitor := { s.monitor with damage := (s.arise [d]).monitor.damage } }
        ∧ (∀ m e, m ≠ d.mem ∨ e ≠ d.entry → (s.arise [d]).harmAt m e = s.harmAt m e)
        ∧ (∀ bits, s.harmAt d.mem d.entry = some (.uncorrectable bits) → d.harm = .correctable →
            (s.arise [d]).harmAt d.mem d.entry = some (.uncorrectable bits))
        ∧ ((∀ bits, s.harmAt d.mem d.entry ≠ some (.uncorrectable bits)) ∨ d.harm ≠ .correctable →
            (s.arise [d]).harmAt d.mem d.entry = some d.harm))
    ∧ ∀ (s : State) (m : Mem) (e : Nat) (r : Indication), r = s.record m.index →
    (s.harmAt m e = none → s.checkRead m e = s ∧ s.delivered m e = s.held m e)
      ∧ (s.harmAt m e = some .correctable → s.delivered m e = s.held m e ∧ (s.checkRead m e).harmAt m e = none
          ∧ (∀ m' e', m' ≠ m ∨ e' ≠ e → (s.checkRead m e).harmAt m' e' = s.harmAt m' e')
          ∧ Keeps [.monitor] s (s.checkRead m e) ∧ (s.checkRead m e).monitor.state = s.monitor.state
          ∧ (s.checkRead m e).monitor.first = s.monitor.first
          ∧ (∀ j, j ≠ m.index → (s.checkRead m e).record j = s.record j)
          ∧ (s.checkRead m e).record m.index =
              (if s.monitor.state = .listening ∧ r.corr = false ∧ r.uncorr = false then
                { r with corr := true, entry := some e }
              else { r with corrOvf := true }))
      ∧ ∀ bits, s.harmAt m e = some (.uncorrectable bits) →
          s.delivered m e = bits ∧ (s.checkRead m e).harmAt m e = some (.uncorrectable bits)
            ∧ (s.checkRead m e).monitor.damage = s.monitor.damage
            ∧ Keeps [.events, .monitor] s (s.checkRead m e) ∧ Raised [.integrity] s (s.checkRead m e)
            ∧ (s.checkRead m e).monitor.state = s.monitor.state
            ∧ (s.checkRead m e).monitor.first = s.monitor.first
            ∧ (∀ j, j ≠ m.index → (s.checkRead m e).record j = s.record j)
            ∧ (s.checkRead m e).record m.index =
                (if s.monitor.state = .listening ∧ r.uncorr = false then { r with uncorr := true, entry := some e }
                else { r with uncorrOvf := true })

/-! ## Properties that hold at every tick -/

/-- The state after power-on meets every property below. -/
def Obligations.ResetMeetsEveryProperty : Prop :=
  RefreshOnTime State.reset ∧ QueueHasRoom State.reset ∧ QueueMatchesSlots State.reset
    ∧ RegionsDisjoint State.reset ∧ CoverageSound State.reset ∧ ScanSound State.reset ∧ TablesSound State.reset
    ∧ BanksSound State.reset ∧ DrivesBlank State.reset ∧ MemoriesCanonical State.reset
    ∧ LevelsStick State.reset ∧ ReloadInStep State.reset

/-- Every step keeps refresh on time (R154): the pending-refresh count never exceeds 8. -/
def Obligations.RefreshStaysOnTime : Prop :=
  ∀ s t : State, RefreshOnTime s → step s = .next t → RefreshOnTime t

/-- Every step keeps the Write Queue at 256 beats or fewer, with room for an answered write (R36, R38). -/
def Obligations.QueueKeepsRoom : Prop := ∀ s t : State, QueueHasRoom s → step s = .next t → QueueHasRoom t

/-- Every step keeps the Exposure Queue, the user counts and the engine in agreement with the slots (R7, R21, R22). -/
def Obligations.QueueKeepsMatchingSlots : Prop :=
  ∀ s t : State, QueueMatchesSlots s → step s = .next t → QueueMatchesSlots t

/-- Every step keeps regions disjoint and below CB (R14). -/
def Obligations.RegionsStayDisjoint : Prop :=
  ∀ s t : State, QueueMatchesSlots s → RegionsDisjoint s → step s = .next t → RegionsDisjoint t

/-- Every step keeps the coverage records as R46 says, and held and free run entries at 48 (R46, R47). -/
def Obligations.CoverageStaysSound : Prop :=
  ∀ s t : State, QueueMatchesSlots s → CoverageSound s → step s = .next t → CoverageSound t

/-- Every step keeps the scan settings in range, φ below P, and the statistics bounded (R85, R91, R93). -/
def Obligations.ScannerStaysSound : Prop := ∀ s t : State, ScanSound s → step s = .next t → ScanSound t

/-- Every step keeps a table unit in use VALID or STALE (R135), and LOADING tied to the reload in flight (R139); every
step keeps a reload in steps of 64 words (R140). -/
def Obligations.TablesStaySound : Prop :=
  (∀ s t : State, TablesSound s → step s = .next t → TablesSound t)
    ∧ ∀ s t : State, ReloadInStep s → step s = .next t → ReloadInStep t

/-- Every step keeps the bank tags distinct and below the target line (R114, R115). -/
def Obligations.BanksStaySound : Prop := ∀ s t : State, BanksSound s → step s = .next t → BanksSound t

/-- Every step keeps the drives at 0 outside IMAGING and while INTERLOCK is open (R122). -/
def Obligations.DrivesStayBlank : Prop := ∀ s t : State, DrivesBlank s → step s = .next t → DrivesBlank t

/-- Every step keeps the store, the shadows and the banks in canonical form. -/
def Obligations.MemoriesStayCanonical : Prop :=
  ∀ s t : State, MemoriesCanonical s → step s = .next t → MemoriesCanonical t

/-- The shadow contents of a stock set do not change while its user count is above 0 (R136), whatever command comes,
power-on apart. -/
def Obligations.StockSetInUseIsFrozen : Prop :=
  ∀ (c : Instr) (s t : State) (x : StockSet), TablesSound s →
    (∀ dt straps gate interlock lselLow, c ≠ .powerOn dt straps gate interlock lselLow) →
    exec c s = .next t → 0 < s.users x → t.control.shadows.get x.mem = s.control.shadows.get x.mem

/-- No command, power-on apart, changes a byte of a picture word at or below its slot's fetch line (R41, R121). -/
def Obligations.LockedLinesKeepTheirWords : Prop :=
  ∀ (c : Instr) (s t : State) (n : Fin 8) (a line column k : Nat), RegionsDisjoint s →
    (∀ dt straps gate interlock lselLow, c ≠ .powerOn dt straps gate interlock lselLow) →
    exec c s = .next t → IsPicture (s.slot n) a line column → (line : Int) ≤ (s.slot n).fetchLine → k < 4 →
      t.storeByte (4 * a + k) = s.storeByte (4 * a + k)
end

