-- ==== Sys2Proof/Laws/State.lean ====
section
/-! SUPPORT. One lemma per field per update of the state, each true by unfolding the update. -/

namespace Sys2Proof.Machine

variable (s : State)

@[simp] theorem State.setNow_now (x : Tick) : (s.setNow x).now = x := rfl
@[simp] theorem State.setNow_powerOns (x : Tick) : (s.setNow x).powerOns = s.powerOns := rfl
@[simp] theorem State.setNow_pending (x : Tick) : (s.setNow x).pending = s.pending := rfl
@[simp] theorem State.setNow_pins (x : Tick) : (s.setNow x).pins = s.pins := rfl
@[simp] theorem State.setNow_link (x : Tick) : (s.setNow x).link = s.link := rfl
@[simp] theorem State.setNow_queue (x : Tick) : (s.setNow x).queue = s.queue := rfl
@[simp] theorem State.setNow_store (x : Tick) : (s.setNow x).store = s.store := rfl
@[simp] theorem State.setNow_sc (x : Tick) : (s.setNow x).sc = s.sc := rfl
@[simp] theorem State.setNow_slots (x : Tick) : (s.setNow x).slots = s.slots := rfl
@[simp] theorem State.setNow_fill (x : Tick) : (s.setNow x).fill = s.fill := rfl
@[simp] theorem State.setNow_control (x : Tick) : (s.setNow x).control = s.control := rfl
@[simp] theorem State.setNow_scan (x : Tick) : (s.setNow x).scan = s.scan := rfl
@[simp] theorem State.setNow_engine (x : Tick) : (s.setNow x).engine = s.engine := rfl
@[simp] theorem State.setNow_feeder (x : Tick) : (s.setNow x).feeder = s.feeder := rfl
@[simp] theorem State.setNow_drive (x : Tick) : (s.setNow x).drive = s.drive := rfl
@[simp] theorem State.setNow_events (x : Tick) : (s.setNow x).events = s.events := rfl
@[simp] theorem State.setNow_monitor (x : Tick) : (s.setNow x).monitor = s.monitor := rfl

@[simp] theorem State.setPending_now (x : List Instr) : (s.setPending x).now = s.now := rfl
@[simp] theorem State.setPending_powerOns (x : List Instr) : (s.setPending x).powerOns = s.powerOns := rfl
@[simp] theorem State.setPending_pending (x : List Instr) : (s.setPending x).pending = x := rfl
@[simp] theorem State.setPending_pins (x : List Instr) : (s.setPending x).pins = s.pins := rfl
@[simp] theorem State.setPending_link (x : List Instr) : (s.setPending x).link = s.link := rfl
@[simp] theorem State.setPending_queue (x : List Instr) : (s.setPending x).queue = s.queue := rfl
@[simp] theorem State.setPending_store (x : List Instr) : (s.setPending x).store = s.store := rfl
@[simp] theorem State.setPending_sc (x : List Instr) : (s.setPending x).sc = s.sc := rfl
@[simp] theorem State.setPending_slots (x : List Instr) : (s.setPending x).slots = s.slots := rfl
@[simp] theorem State.setPending_fill (x : List Instr) : (s.setPending x).fill = s.fill := rfl
@[simp] theorem State.setPending_control (x : List Instr) : (s.setPending x).control = s.control := rfl
@[simp] theorem State.setPending_scan (x : List Instr) : (s.setPending x).scan = s.scan := rfl
@[simp] theorem State.setPending_engine (x : List Instr) : (s.setPending x).engine = s.engine := rfl
@[simp] theorem State.setPending_feeder (x : List Instr) : (s.setPending x).feeder = s.feeder := rfl
@[simp] theorem State.setPending_drive (x : List Instr) : (s.setPending x).drive = s.drive := rfl
@[simp] theorem State.setPending_events (x : List Instr) : (s.setPending x).events = s.events := rfl
@[simp] theorem State.setPending_monitor (x : List Instr) : (s.setPending x).monitor = s.monitor := rfl

@[simp] theorem State.setPins_now (x : Pins) : (s.setPins x).now = s.now := rfl
@[simp] theorem State.setPins_powerOns (x : Pins) : (s.setPins x).powerOns = s.powerOns := rfl
@[simp] theorem State.setPins_pending (x : Pins) : (s.setPins x).pending = s.pending := rfl
@[simp] theorem State.setPins_pins (x : Pins) : (s.setPins x).pins = x := rfl
@[simp] theorem State.setPins_link (x : Pins) : (s.setPins x).link = s.link := rfl
@[simp] theorem State.setPins_queue (x : Pins) : (s.setPins x).queue = s.queue := rfl
@[simp] theorem State.setPins_store (x : Pins) : (s.setPins x).store = s.store := rfl
@[simp] theorem State.setPins_sc (x : Pins) : (s.setPins x).sc = s.sc := rfl
@[simp] theorem State.setPins_slots (x : Pins) : (s.setPins x).slots = s.slots := rfl
@[simp] theorem State.setPins_fill (x : Pins) : (s.setPins x).fill = s.fill := rfl
@[simp] theorem State.setPins_control (x : Pins) : (s.setPins x).control = s.control := rfl
@[simp] theorem State.setPins_scan (x : Pins) : (s.setPins x).scan = s.scan := rfl
@[simp] theorem State.setPins_engine (x : Pins) : (s.setPins x).engine = s.engine := rfl
@[simp] theorem State.setPins_feeder (x : Pins) : (s.setPins x).feeder = s.feeder := rfl
@[simp] theorem State.setPins_drive (x : Pins) : (s.setPins x).drive = s.drive := rfl
@[simp] theorem State.setPins_events (x : Pins) : (s.setPins x).events = s.events := rfl
@[simp] theorem State.setPins_monitor (x : Pins) : (s.setPins x).monitor = s.monitor := rfl

@[simp] theorem State.setLink_now (x : LinkPort) : (s.setLink x).now = s.now := rfl
@[simp] theorem State.setLink_powerOns (x : LinkPort) : (s.setLink x).powerOns = s.powerOns := rfl
@[simp] theorem State.setLink_pending (x : LinkPort) : (s.setLink x).pending = s.pending := rfl
@[simp] theorem State.setLink_pins (x : LinkPort) : (s.setLink x).pins = s.pins := rfl
@[simp] theorem State.setLink_link (x : LinkPort) : (s.setLink x).link = x := rfl
@[simp] theorem State.setLink_queue (x : LinkPort) : (s.setLink x).queue = s.queue := rfl
@[simp] theorem State.setLink_store (x : LinkPort) : (s.setLink x).store = s.store := rfl
@[simp] theorem State.setLink_sc (x : LinkPort) : (s.setLink x).sc = s.sc := rfl
@[simp] theorem State.setLink_slots (x : LinkPort) : (s.setLink x).slots = s.slots := rfl
@[simp] theorem State.setLink_fill (x : LinkPort) : (s.setLink x).fill = s.fill := rfl
@[simp] theorem State.setLink_control (x : LinkPort) : (s.setLink x).control = s.control := rfl
@[simp] theorem State.setLink_scan (x : LinkPort) : (s.setLink x).scan = s.scan := rfl
@[simp] theorem State.setLink_engine (x : LinkPort) : (s.setLink x).engine = s.engine := rfl
@[simp] theorem State.setLink_feeder (x : LinkPort) : (s.setLink x).feeder = s.feeder := rfl
@[simp] theorem State.setLink_drive (x : LinkPort) : (s.setLink x).drive = s.drive := rfl
@[simp] theorem State.setLink_events (x : LinkPort) : (s.setLink x).events = s.events := rfl
@[simp] theorem State.setLink_monitor (x : LinkPort) : (s.setLink x).monitor = s.monitor := rfl

@[simp] theorem State.setQueue_now (x : List Beat) : (s.setQueue x).now = s.now := rfl
@[simp] theorem State.setQueue_powerOns (x : List Beat) : (s.setQueue x).powerOns = s.powerOns := rfl
@[simp] theorem State.setQueue_pending (x : List Beat) : (s.setQueue x).pending = s.pending := rfl
@[simp] theorem State.setQueue_pins (x : List Beat) : (s.setQueue x).pins = s.pins := rfl
@[simp] theorem State.setQueue_link (x : List Beat) : (s.setQueue x).link = s.link := rfl
@[simp] theorem State.setQueue_queue (x : List Beat) : (s.setQueue x).queue = x := rfl
@[simp] theorem State.setQueue_store (x : List Beat) : (s.setQueue x).store = s.store := rfl
@[simp] theorem State.setQueue_sc (x : List Beat) : (s.setQueue x).sc = s.sc := rfl
@[simp] theorem State.setQueue_slots (x : List Beat) : (s.setQueue x).slots = s.slots := rfl
@[simp] theorem State.setQueue_fill (x : List Beat) : (s.setQueue x).fill = s.fill := rfl
@[simp] theorem State.setQueue_control (x : List Beat) : (s.setQueue x).control = s.control := rfl
@[simp] theorem State.setQueue_scan (x : List Beat) : (s.setQueue x).scan = s.scan := rfl
@[simp] theorem State.setQueue_engine (x : List Beat) : (s.setQueue x).engine = s.engine := rfl
@[simp] theorem State.setQueue_feeder (x : List Beat) : (s.setQueue x).feeder = s.feeder := rfl
@[simp] theorem State.setQueue_drive (x : List Beat) : (s.setQueue x).drive = s.drive := rfl
@[simp] theorem State.setQueue_events (x : List Beat) : (s.setQueue x).events = s.events := rfl
@[simp] theorem State.setQueue_monitor (x : List Beat) : (s.setQueue x).monitor = s.monitor := rfl

@[simp] theorem State.setStore_now (x : Memory) : (s.setStore x).now = s.now := rfl
@[simp] theorem State.setStore_powerOns (x : Memory) : (s.setStore x).powerOns = s.powerOns := rfl
@[simp] theorem State.setStore_pending (x : Memory) : (s.setStore x).pending = s.pending := rfl
@[simp] theorem State.setStore_pins (x : Memory) : (s.setStore x).pins = s.pins := rfl
@[simp] theorem State.setStore_link (x : Memory) : (s.setStore x).link = s.link := rfl
@[simp] theorem State.setStore_queue (x : Memory) : (s.setStore x).queue = s.queue := rfl
@[simp] theorem State.setStore_store (x : Memory) : (s.setStore x).store = x := rfl
@[simp] theorem State.setStore_sc (x : Memory) : (s.setStore x).sc = s.sc := rfl
@[simp] theorem State.setStore_slots (x : Memory) : (s.setStore x).slots = s.slots := rfl
@[simp] theorem State.setStore_fill (x : Memory) : (s.setStore x).fill = s.fill := rfl
@[simp] theorem State.setStore_control (x : Memory) : (s.setStore x).control = s.control := rfl
@[simp] theorem State.setStore_scan (x : Memory) : (s.setStore x).scan = s.scan := rfl
@[simp] theorem State.setStore_engine (x : Memory) : (s.setStore x).engine = s.engine := rfl
@[simp] theorem State.setStore_feeder (x : Memory) : (s.setStore x).feeder = s.feeder := rfl
@[simp] theorem State.setStore_drive (x : Memory) : (s.setStore x).drive = s.drive := rfl
@[simp] theorem State.setStore_events (x : Memory) : (s.setStore x).events = s.events := rfl
@[simp] theorem State.setStore_monitor (x : Memory) : (s.setStore x).monitor = s.monitor := rfl

@[simp] theorem State.setSc_now (x : StoreController) : (s.setSc x).now = s.now := rfl
@[simp] theorem State.setSc_powerOns (x : StoreController) : (s.setSc x).powerOns = s.powerOns := rfl
@[simp] theorem State.setSc_pending (x : StoreController) : (s.setSc x).pending = s.pending := rfl
@[simp] theorem State.setSc_pins (x : StoreController) : (s.setSc x).pins = s.pins := rfl
@[simp] theorem State.setSc_link (x : StoreController) : (s.setSc x).link = s.link := rfl
@[simp] theorem State.setSc_queue (x : StoreController) : (s.setSc x).queue = s.queue := rfl
@[simp] theorem State.setSc_store (x : StoreController) : (s.setSc x).store = s.store := rfl
@[simp] theorem State.setSc_sc (x : StoreController) : (s.setSc x).sc = x := rfl
@[simp] theorem State.setSc_slots (x : StoreController) : (s.setSc x).slots = s.slots := rfl
@[simp] theorem State.setSc_fill (x : StoreController) : (s.setSc x).fill = s.fill := rfl
@[simp] theorem State.setSc_control (x : StoreController) : (s.setSc x).control = s.control := rfl
@[simp] theorem State.setSc_scan (x : StoreController) : (s.setSc x).scan = s.scan := rfl
@[simp] theorem State.setSc_engine (x : StoreController) : (s.setSc x).engine = s.engine := rfl
@[simp] theorem State.setSc_feeder (x : StoreController) : (s.setSc x).feeder = s.feeder := rfl
@[simp] theorem State.setSc_drive (x : StoreController) : (s.setSc x).drive = s.drive := rfl
@[simp] theorem State.setSc_events (x : StoreController) : (s.setSc x).events = s.events := rfl
@[simp] theorem State.setSc_monitor (x : StoreController) : (s.setSc x).monitor = s.monitor := rfl

@[simp] theorem State.setSlots_now (x : SlotTable) : (s.setSlots x).now = s.now := rfl
@[simp] theorem State.setSlots_powerOns (x : SlotTable) : (s.setSlots x).powerOns = s.powerOns := rfl
@[simp] theorem State.setSlots_pending (x : SlotTable) : (s.setSlots x).pending = s.pending := rfl
@[simp] theorem State.setSlots_pins (x : SlotTable) : (s.setSlots x).pins = s.pins := rfl
@[simp] theorem State.setSlots_link (x : SlotTable) : (s.setSlots x).link = s.link := rfl
@[simp] theorem State.setSlots_queue (x : SlotTable) : (s.setSlots x).queue = s.queue := rfl
@[simp] theorem State.setSlots_store (x : SlotTable) : (s.setSlots x).store = s.store := rfl
@[simp] theorem State.setSlots_sc (x : SlotTable) : (s.setSlots x).sc = s.sc := rfl
@[simp] theorem State.setSlots_slots (x : SlotTable) : (s.setSlots x).slots = x := rfl
@[simp] theorem State.setSlots_fill (x : SlotTable) : (s.setSlots x).fill = s.fill := rfl
@[simp] theorem State.setSlots_control (x : SlotTable) : (s.setSlots x).control = s.control := rfl
@[simp] theorem State.setSlots_scan (x : SlotTable) : (s.setSlots x).scan = s.scan := rfl
@[simp] theorem State.setSlots_engine (x : SlotTable) : (s.setSlots x).engine = s.engine := rfl
@[simp] theorem State.setSlots_feeder (x : SlotTable) : (s.setSlots x).feeder = s.feeder := rfl
@[simp] theorem State.setSlots_drive (x : SlotTable) : (s.setSlots x).drive = s.drive := rfl
@[simp] theorem State.setSlots_events (x : SlotTable) : (s.setSlots x).events = s.events := rfl
@[simp] theorem State.setSlots_monitor (x : SlotTable) : (s.setSlots x).monitor = s.monitor := rfl

@[simp] theorem State.setFill_now (x : FillTracker) : (s.setFill x).now = s.now := rfl
@[simp] theorem State.setFill_powerOns (x : FillTracker) : (s.setFill x).powerOns = s.powerOns := rfl
@[simp] theorem State.setFill_pending (x : FillTracker) : (s.setFill x).pending = s.pending := rfl
@[simp] theorem State.setFill_pins (x : FillTracker) : (s.setFill x).pins = s.pins := rfl
@[simp] theorem State.setFill_link (x : FillTracker) : (s.setFill x).link = s.link := rfl
@[simp] theorem State.setFill_queue (x : FillTracker) : (s.setFill x).queue = s.queue := rfl
@[simp] theorem State.setFill_store (x : FillTracker) : (s.setFill x).store = s.store := rfl
@[simp] theorem State.setFill_sc (x : FillTracker) : (s.setFill x).sc = s.sc := rfl
@[simp] theorem State.setFill_slots (x : FillTracker) : (s.setFill x).slots = s.slots := rfl
@[simp] theorem State.setFill_fill (x : FillTracker) : (s.setFill x).fill = x := rfl
@[simp] theorem State.setFill_control (x : FillTracker) : (s.setFill x).control = s.control := rfl
@[simp] theorem State.setFill_scan (x : FillTracker) : (s.setFill x).scan = s.scan := rfl
@[simp] theorem State.setFill_engine (x : FillTracker) : (s.setFill x).engine = s.engine := rfl
@[simp] theorem State.setFill_feeder (x : FillTracker) : (s.setFill x).feeder = s.feeder := rfl
@[simp] theorem State.setFill_drive (x : FillTracker) : (s.setFill x).drive = s.drive := rfl
@[simp] theorem State.setFill_events (x : FillTracker) : (s.setFill x).events = s.events := rfl
@[simp] theorem State.setFill_monitor (x : FillTracker) : (s.setFill x).monitor = s.monitor := rfl

@[simp] theorem State.setControl_now (x : ControlCapture) : (s.setControl x).now = s.now := rfl
@[simp] theorem State.setControl_powerOns (x : ControlCapture) : (s.setControl x).powerOns = s.powerOns := rfl
@[simp] theorem State.setControl_pending (x : ControlCapture) : (s.setControl x).pending = s.pending := rfl
@[simp] theorem State.setControl_pins (x : ControlCapture) : (s.setControl x).pins = s.pins := rfl
@[simp] theorem State.setControl_link (x : ControlCapture) : (s.setControl x).link = s.link := rfl
@[simp] theorem State.setControl_queue (x : ControlCapture) : (s.setControl x).queue = s.queue := rfl
@[simp] theorem State.setControl_store (x : ControlCapture) : (s.setControl x).store = s.store := rfl
@[simp] theorem State.setControl_sc (x : ControlCapture) : (s.setControl x).sc = s.sc := rfl
@[simp] theorem State.setControl_slots (x : ControlCapture) : (s.setControl x).slots = s.slots := rfl
@[simp] theorem State.setControl_fill (x : ControlCapture) : (s.setControl x).fill = s.fill := rfl
@[simp] theorem State.setControl_control (x : ControlCapture) : (s.setControl x).control = x := rfl
@[simp] theorem State.setControl_scan (x : ControlCapture) : (s.setControl x).scan = s.scan := rfl
@[simp] theorem State.setControl_engine (x : ControlCapture) : (s.setControl x).engine = s.engine := rfl
@[simp] theorem State.setControl_feeder (x : ControlCapture) : (s.setControl x).feeder = s.feeder := rfl
@[simp] theorem State.setControl_drive (x : ControlCapture) : (s.setControl x).drive = s.drive := rfl
@[simp] theorem State.setControl_events (x : ControlCapture) : (s.setControl x).events = s.events := rfl
@[simp] theorem State.setControl_monitor (x : ControlCapture) : (s.setControl x).monitor = s.monitor := rfl

@[simp] theorem State.setScan_now (x : ScanUnit) : (s.setScan x).now = s.now := rfl
@[simp] theorem State.setScan_powerOns (x : ScanUnit) : (s.setScan x).powerOns = s.powerOns := rfl
@[simp] theorem State.setScan_pending (x : ScanUnit) : (s.setScan x).pending = s.pending := rfl
@[simp] theorem State.setScan_pins (x : ScanUnit) : (s.setScan x).pins = s.pins := rfl
@[simp] theorem State.setScan_link (x : ScanUnit) : (s.setScan x).link = s.link := rfl
@[simp] theorem State.setScan_queue (x : ScanUnit) : (s.setScan x).queue = s.queue := rfl
@[simp] theorem State.setScan_store (x : ScanUnit) : (s.setScan x).store = s.store := rfl
@[simp] theorem State.setScan_sc (x : ScanUnit) : (s.setScan x).sc = s.sc := rfl
@[simp] theorem State.setScan_slots (x : ScanUnit) : (s.setScan x).slots = s.slots := rfl
@[simp] theorem State.setScan_fill (x : ScanUnit) : (s.setScan x).fill = s.fill := rfl
@[simp] theorem State.setScan_control (x : ScanUnit) : (s.setScan x).control = s.control := rfl
@[simp] theorem State.setScan_scan (x : ScanUnit) : (s.setScan x).scan = x := rfl
@[simp] theorem State.setScan_engine (x : ScanUnit) : (s.setScan x).engine = s.engine := rfl
@[simp] theorem State.setScan_feeder (x : ScanUnit) : (s.setScan x).feeder = s.feeder := rfl
@[simp] theorem State.setScan_drive (x : ScanUnit) : (s.setScan x).drive = s.drive := rfl
@[simp] theorem State.setScan_events (x : ScanUnit) : (s.setScan x).events = s.events := rfl
@[simp] theorem State.setScan_monitor (x : ScanUnit) : (s.setScan x).monitor = s.monitor := rfl

@[simp] theorem State.setEngine_now (x : Engine) : (s.setEngine x).now = s.now := rfl
@[simp] theorem State.setEngine_powerOns (x : Engine) : (s.setEngine x).powerOns = s.powerOns := rfl
@[simp] theorem State.setEngine_pending (x : Engine) : (s.setEngine x).pending = s.pending := rfl
@[simp] theorem State.setEngine_pins (x : Engine) : (s.setEngine x).pins = s.pins := rfl
@[simp] theorem State.setEngine_link (x : Engine) : (s.setEngine x).link = s.link := rfl
@[simp] theorem State.setEngine_queue (x : Engine) : (s.setEngine x).queue = s.queue := rfl
@[simp] theorem State.setEngine_store (x : Engine) : (s.setEngine x).store = s.store := rfl
@[simp] theorem State.setEngine_sc (x : Engine) : (s.setEngine x).sc = s.sc := rfl
@[simp] theorem State.setEngine_slots (x : Engine) : (s.setEngine x).slots = s.slots := rfl
@[simp] theorem State.setEngine_fill (x : Engine) : (s.setEngine x).fill = s.fill := rfl
@[simp] theorem State.setEngine_control (x : Engine) : (s.setEngine x).control = s.control := rfl
@[simp] theorem State.setEngine_scan (x : Engine) : (s.setEngine x).scan = s.scan := rfl
@[simp] theorem State.setEngine_engine (x : Engine) : (s.setEngine x).engine = x := rfl
@[simp] theorem State.setEngine_feeder (x : Engine) : (s.setEngine x).feeder = s.feeder := rfl
@[simp] theorem State.setEngine_drive (x : Engine) : (s.setEngine x).drive = s.drive := rfl
@[simp] theorem State.setEngine_events (x : Engine) : (s.setEngine x).events = s.events := rfl
@[simp] theorem State.setEngine_monitor (x : Engine) : (s.setEngine x).monitor = s.monitor := rfl

@[simp] theorem State.setFeeder_now (x : Feeder) : (s.setFeeder x).now = s.now := rfl
@[simp] theorem State.setFeeder_powerOns (x : Feeder) : (s.setFeeder x).powerOns = s.powerOns := rfl
@[simp] theorem State.setFeeder_pending (x : Feeder) : (s.setFeeder x).pending = s.pending := rfl
@[simp] theorem State.setFeeder_pins (x : Feeder) : (s.setFeeder x).pins = s.pins := rfl
@[simp] theorem State.setFeeder_link (x : Feeder) : (s.setFeeder x).link = s.link := rfl
@[simp] theorem State.setFeeder_queue (x : Feeder) : (s.setFeeder x).queue = s.queue := rfl
@[simp] theorem State.setFeeder_store (x : Feeder) : (s.setFeeder x).store = s.store := rfl
@[simp] theorem State.setFeeder_sc (x : Feeder) : (s.setFeeder x).sc = s.sc := rfl
@[simp] theorem State.setFeeder_slots (x : Feeder) : (s.setFeeder x).slots = s.slots := rfl
@[simp] theorem State.setFeeder_fill (x : Feeder) : (s.setFeeder x).fill = s.fill := rfl
@[simp] theorem State.setFeeder_control (x : Feeder) : (s.setFeeder x).control = s.control := rfl
@[simp] theorem State.setFeeder_scan (x : Feeder) : (s.setFeeder x).scan = s.scan := rfl
@[simp] theorem State.setFeeder_engine (x : Feeder) : (s.setFeeder x).engine = s.engine := rfl
@[simp] theorem State.setFeeder_feeder (x : Feeder) : (s.setFeeder x).feeder = x := rfl
@[simp] theorem State.setFeeder_drive (x : Feeder) : (s.setFeeder x).drive = s.drive := rfl
@[simp] theorem State.setFeeder_events (x : Feeder) : (s.setFeeder x).events = s.events := rfl
@[simp] theorem State.setFeeder_monitor (x : Feeder) : (s.setFeeder x).monitor = s.monitor := rfl

@[simp] theorem State.setDrive_now (x : Drive) : (s.setDrive x).now = s.now := rfl
@[simp] theorem State.setDrive_powerOns (x : Drive) : (s.setDrive x).powerOns = s.powerOns := rfl
@[simp] theorem State.setDrive_pending (x : Drive) : (s.setDrive x).pending = s.pending := rfl
@[simp] theorem State.setDrive_pins (x : Drive) : (s.setDrive x).pins = s.pins := rfl
@[simp] theorem State.setDrive_link (x : Drive) : (s.setDrive x).link = s.link := rfl
@[simp] theorem State.setDrive_queue (x : Drive) : (s.setDrive x).queue = s.queue := rfl
@[simp] theorem State.setDrive_store (x : Drive) : (s.setDrive x).store = s.store := rfl
@[simp] theorem State.setDrive_sc (x : Drive) : (s.setDrive x).sc = s.sc := rfl
@[simp] theorem State.setDrive_slots (x : Drive) : (s.setDrive x).slots = s.slots := rfl
@[simp] theorem State.setDrive_fill (x : Drive) : (s.setDrive x).fill = s.fill := rfl
@[simp] theorem State.setDrive_control (x : Drive) : (s.setDrive x).control = s.control := rfl
@[simp] theorem State.setDrive_scan (x : Drive) : (s.setDrive x).scan = s.scan := rfl
@[simp] theorem State.setDrive_engine (x : Drive) : (s.setDrive x).engine = s.engine := rfl
@[simp] theorem State.setDrive_feeder (x : Drive) : (s.setDrive x).feeder = s.feeder := rfl
@[simp] theorem State.setDrive_drive (x : Drive) : (s.setDrive x).drive = x := rfl
@[simp] theorem State.setDrive_events (x : Drive) : (s.setDrive x).events = s.events := rfl
@[simp] theorem State.setDrive_monitor (x : Drive) : (s.setDrive x).monitor = s.monitor := rfl

@[simp] theorem State.setEvents_now (x : EventUnit) : (s.setEvents x).now = s.now := rfl
@[simp] theorem State.setEvents_powerOns (x : EventUnit) : (s.setEvents x).powerOns = s.powerOns := rfl
@[simp] theorem State.setEvents_pending (x : EventUnit) : (s.setEvents x).pending = s.pending := rfl
@[simp] theorem State.setEvents_pins (x : EventUnit) : (s.setEvents x).pins = s.pins := rfl
@[simp] theorem State.setEvents_link (x : EventUnit) : (s.setEvents x).link = s.link := rfl
@[simp] theorem State.setEvents_queue (x : EventUnit) : (s.setEvents x).queue = s.queue := rfl
@[simp] theorem State.setEvents_store (x : EventUnit) : (s.setEvents x).store = s.store := rfl
@[simp] theorem State.setEvents_sc (x : EventUnit) : (s.setEvents x).sc = s.sc := rfl
@[simp] theorem State.setEvents_slots (x : EventUnit) : (s.setEvents x).slots = s.slots := rfl
@[simp] theorem State.setEvents_fill (x : EventUnit) : (s.setEvents x).fill = s.fill := rfl
@[simp] theorem State.setEvents_control (x : EventUnit) : (s.setEvents x).control = s.control := rfl
@[simp] theorem State.setEvents_scan (x : EventUnit) : (s.setEvents x).scan = s.scan := rfl
@[simp] theorem State.setEvents_engine (x : EventUnit) : (s.setEvents x).engine = s.engine := rfl
@[simp] theorem State.setEvents_feeder (x : EventUnit) : (s.setEvents x).feeder = s.feeder := rfl
@[simp] theorem State.setEvents_drive (x : EventUnit) : (s.setEvents x).drive = s.drive := rfl
@[simp] theorem State.setEvents_events (x : EventUnit) : (s.setEvents x).events = x := rfl
@[simp] theorem State.setEvents_monitor (x : EventUnit) : (s.setEvents x).monitor = s.monitor := rfl

@[simp] theorem State.setMonitor_now (x : Monitor) : (s.setMonitor x).now = s.now := rfl
@[simp] theorem State.setMonitor_powerOns (x : Monitor) : (s.setMonitor x).powerOns = s.powerOns := rfl
@[simp] theorem State.setMonitor_pending (x : Monitor) : (s.setMonitor x).pending = s.pending := rfl
@[simp] theorem State.setMonitor_pins (x : Monitor) : (s.setMonitor x).pins = s.pins := rfl
@[simp] theorem State.setMonitor_link (x : Monitor) : (s.setMonitor x).link = s.link := rfl
@[simp] theorem State.setMonitor_queue (x : Monitor) : (s.setMonitor x).queue = s.queue := rfl
@[simp] theorem State.setMonitor_store (x : Monitor) : (s.setMonitor x).store = s.store := rfl
@[simp] theorem State.setMonitor_sc (x : Monitor) : (s.setMonitor x).sc = s.sc := rfl
@[simp] theorem State.setMonitor_slots (x : Monitor) : (s.setMonitor x).slots = s.slots := rfl
@[simp] theorem State.setMonitor_fill (x : Monitor) : (s.setMonitor x).fill = s.fill := rfl
@[simp] theorem State.setMonitor_control (x : Monitor) : (s.setMonitor x).control = s.control := rfl
@[simp] theorem State.setMonitor_scan (x : Monitor) : (s.setMonitor x).scan = s.scan := rfl
@[simp] theorem State.setMonitor_engine (x : Monitor) : (s.setMonitor x).engine = s.engine := rfl
@[simp] theorem State.setMonitor_feeder (x : Monitor) : (s.setMonitor x).feeder = s.feeder := rfl
@[simp] theorem State.setMonitor_drive (x : Monitor) : (s.setMonitor x).drive = s.drive := rfl
@[simp] theorem State.setMonitor_events (x : Monitor) : (s.setMonitor x).events = s.events := rfl
@[simp] theorem State.setMonitor_monitor (x : Monitor) : (s.setMonitor x).monitor = x := rfl

end Sys2Proof.Machine
end

