-- ==== Sys2Proof/Laws/Memory.lean ====
section
/-! SUPPORT. The laws of the sparse memories and of the exposure store: a read after a write, and the canonical
form. -/

namespace Sys2Proof.Machine

variable {β : Type}

/-! ## Lists of (address, value) -/

theorem sparseGet_sparsePut_same (k : Nat) (v : β) (m : List (Nat × β)) : sparseGet (sparsePut k v m) k = some v := by
  induction m with
  | nil => simp [sparsePut, sparseGet]
  | cons c rest ih =>
    obtain ⟨a, b⟩ := c
    unfold sparsePut
    split
    · simp [sparseGet]
    · split
      · simp [sparseGet]
      · rename_i h1 h2
        simp [sparseGet, Ne.symm h2, ih]

theorem sparseGet_sparsePut_other (k k' : Nat) (v : β) (m : List (Nat × β)) (h : k' ≠ k) :
    sparseGet (sparsePut k v m) k' = sparseGet m k' := by
  induction m with
  | nil => simp [sparsePut, sparseGet, Ne.symm h]
  | cons c rest ih =>
    obtain ⟨a, b⟩ := c
    unfold sparsePut
    split
    · simp [sparseGet, Ne.symm h]
    · split
      · rename_i h1 h2
        subst h2
        simp [sparseGet, Ne.symm h]
      · simp [sparseGet, ih]

/-- A read after a write (R152). -/
theorem sparseGet_sparsePut (k k' : Nat) (v : β) (m : List (Nat × β)) :
    sparseGet (sparsePut k v m) k' = if k' = k then some v else sparseGet m k' := by
  split
  · rename_i h; subst h; exact sparseGet_sparsePut_same _ v m
  · rename_i h; exact sparseGet_sparsePut_other k k' v m h

/-- The addresses of a sorted list rise: the head's is below every other. -/
theorem sparseSorted_cons (a : Nat) (b : β) (rest : List (Nat × β)) :
    sparseSorted ((a, b) :: rest) = true ↔ (∀ c ∈ rest, a < c.1) ∧ sparseSorted rest = true := by
  induction rest generalizing a b with
  | nil => simp [sparseSorted]
  | cons c rest ih =>
    obtain ⟨a', b'⟩ := c
    rw [sparseSorted, Bool.and_eq_true, decide_eq_true_eq, ih a' b']
    constructor
    · rintro ⟨h, h1, h2⟩
      refine ⟨?_, h1, h2⟩
      intro c hc
      rcases List.mem_cons.1 hc with rfl | hc
      · exact h
      · exact lt_trans h (h1 c hc)
    · rintro ⟨h, h1, h2⟩
      exact ⟨h _ (List.mem_cons_self ..), h1, h2⟩

theorem mem_sparsePut (k : Nat) (v : β) (m : List (Nat × β)) (c : Nat × β) (h : c ∈ sparsePut k v m) :
    c = (k, v) ∨ c ∈ m := by
  induction m with
  | nil => simpa [sparsePut] using h
  | cons d rest ih =>
    obtain ⟨a, b⟩ := d
    unfold sparsePut at h
    split at h
    · rcases List.mem_cons.1 h with h | h
      · exact .inl h
      · exact .inr h
    · split at h
      · rcases List.mem_cons.1 h with h | h
        · exact .inl h
        · exact .inr (List.mem_cons_of_mem _ h)
      · rcases List.mem_cons.1 h with h | h
        · exact .inr (h ▸ List.mem_cons_self ..)
        · exact (ih h).imp_right (List.mem_cons_of_mem _)

theorem mem_sparseErase (k : Nat) (m : List (Nat × β)) (c : Nat × β) (h : c ∈ sparseErase k m) : c ∈ m := by
  induction m with
  | nil => simp [sparseErase] at h
  | cons d rest ih =>
    obtain ⟨a, b⟩ := d
    unfold sparseErase at h
    split at h
    · exact List.mem_cons_of_mem _ h
    · rcases List.mem_cons.1 h with h | h
      · exact h ▸ List.mem_cons_self ..
      · exact List.mem_cons_of_mem _ (ih h)

/-- A write keeps the addresses rising. -/
theorem sparsePut_sorted (k : Nat) (v : β) (m : List (Nat × β)) (h : sparseSorted m = true) :
    sparseSorted (sparsePut k v m) = true := by
  induction m with
  | nil => rfl
  | cons c rest ih =>
    obtain ⟨a, b⟩ := c
    obtain ⟨ha, hr⟩ := (sparseSorted_cons a b rest).1 h
    unfold sparsePut
    split
    · rename_i hk
      refine (sparseSorted_cons k v _).2 ⟨?_, h⟩
      intro c hc
      rcases List.mem_cons.1 hc with rfl | hc
      · exact hk
      · exact lt_trans hk (ha c hc)
    · split
      · rename_i _ hk
        subst hk
        exact (sparseSorted_cons _ v rest).2 ⟨ha, hr⟩
      · rename_i hk hk'
        refine (sparseSorted_cons a b _).2 ⟨?_, ih hr⟩
        intro c hc
        rcases mem_sparsePut k v rest c hc with rfl | hc
        · show a < k; omega
        · exact ha c hc

/-- Taking an address off keeps the addresses rising. -/
theorem sparseErase_sorted (k : Nat) (m : List (Nat × β)) (h : sparseSorted m = true) :
    sparseSorted (sparseErase k m) = true := by
  induction m with
  | nil => rfl
  | cons c rest ih =>
    obtain ⟨a, b⟩ := c
    obtain ⟨ha, hr⟩ := (sparseSorted_cons a b rest).1 h
    unfold sparseErase
    split
    · exact hr
    · exact (sparseSorted_cons a b _).2 ⟨fun c hc => ha c (mem_sparseErase k rest c hc), ih hr⟩

/-! ## Memories whose unlisted addresses hold 0 -/

theorem zeroWf_iff {w : Nat} (t : List (Nat × BitVec w)) :
    zeroWf t = true ↔ sparseSorted t = true ∧ ∀ c ∈ t, c.2 ≠ 0 := by
  simp [zeroWf]

/-- A write of a memory whose unlisted addresses hold 0 keeps its canonical form. -/
theorem zeroSet_wf {w : Nat} (t : List (Nat × BitVec w)) (a : Nat) (v : BitVec w) (h : zeroWf t = true) :
    zeroWf (zeroSet t a v) = true := by
  obtain ⟨hs, hz⟩ := (zeroWf_iff t).1 h
  unfold zeroSet
  split
  · exact (zeroWf_iff _).2 ⟨sparseErase_sorted a t hs, fun c hc => hz c (mem_sparseErase a t c hc)⟩
  · rename_i hv
    refine (zeroWf_iff _).2 ⟨sparsePut_sorted a v t hs, fun c hc => ?_⟩
    rcases mem_sparsePut a v t c hc with rfl | hc
    · exact hv
    · exact hz c hc

theorem sparseGet_none_of_above (k : Nat) (m : List (Nat × β)) (h : ∀ c ∈ m, k < c.1) : sparseGet m k = none := by
  induction m with
  | nil => rfl
  | cons c rest ih =>
    obtain ⟨a, b⟩ := c
    have : k < a := h (a, b) (List.mem_cons_self ..)
    simp [sparseGet, show a ≠ k by omega, ih (fun c hc => h c (List.mem_cons_of_mem _ hc))]

theorem sparseGet_sparseErase (k k' : Nat) (m : List (Nat × β)) (h : sparseSorted m = true) :
    sparseGet (sparseErase k m) k' = if k' = k then none else sparseGet m k' := by
  induction m with
  | nil => simp [sparseErase, sparseGet]
  | cons c rest ih =>
    obtain ⟨a, b⟩ := c
    obtain ⟨ha, hr⟩ := (sparseSorted_cons a b rest).1 h
    unfold sparseErase
    split
    · rename_i hk
      subst hk
      split
      · rename_i hk; subst hk; exact sparseGet_none_of_above _ _ ha
      · rename_i hk; simp [sparseGet, Ne.symm hk]
    · rename_i hk
      simp only [sparseGet, ih hr]
      split
      · rename_i h1; subst h1; simp [hk]
      · rfl

/-- A read after a write of a memory whose unlisted addresses hold 0. -/
theorem zeroGet_zeroSet {w : Nat} (t : List (Nat × BitVec w)) (a a' : Nat) (v : BitVec w) (h : zeroWf t = true) :
    zeroGet (zeroSet t a v) a' = if a' = a then v else zeroGet t a' := by
  unfold zeroGet zeroSet
  split
  · rename_i hv
    subst hv
    rw [sparseGet_sparseErase a a' t ((zeroWf_iff t).1 h).1]
    split <;> rfl
  · rw [sparseGet_sparsePut]
    split <;> rfl

/-! ## The exposure store -/

/-- A store write keeps the canonical form. -/
theorem Memory.writeWord_wf (m : Memory) (a : Nat) (d : Word) (en : Enables) (h : m.wf = true) :
    (m.writeWord a d en).wf = true := by
  unfold Memory.wf at *
  unfold Memory.writeWord
  dsimp only
  repeat' split
  all_goals
    repeat' apply sparsePut_sorted
    assumption

/-- A store write keeps the canonical form of the part's store. -/
theorem State.storeWord_wf (s : State) (a : Nat) (d : Word) (en : Enables) (h : s.store.wf = true) :
    (s.storeWord a d en).store.wf = true := Memory.writeWord_wf s.store a d en h

theorem State.reset_store_wf : State.reset.store.wf = true := rfl

/-- The store cell a store write leaves at `cell` (R152). -/
theorem Memory.get_writeWord (m : Memory) (a : Nat) (d : Word) (en : Enables) (cell : Nat) :
    sparseGet (m.writeWord a d en) cell =
      if cell / 4 = a ∧ en.getLsbD (cell % 4) = true then some (byteOf d (cell % 4)) else sparseGet m cell := by
  unfold Memory.writeWord
  dsimp only
  have put (k : Nat) (m' : Memory) :
      sparseGet (if en.getLsbD k then sparsePut (4 * a + k) (byteOf d k) m' else m') cell =
        if cell = 4 * a + k ∧ en.getLsbD k = true then some (byteOf d k) else sparseGet m' cell := by
    by_cases he : en.getLsbD k = true
    · simp [he, sparseGet_sparsePut]
    · simp [he]
  rw [put 3, put 2, put 1, put 0]
  by_cases hc : cell / 4 = a
  · have h4 : cell % 4 < 4 := Nat.mod_lt _ (by omega)
    have hm : cell = 4 * a + cell % 4 := by omega
    generalize cell % 4 = r at *
    subst hm
    interval_cases r <;> simp [hc]
  · have h0 : cell ≠ 4 * a := fun he => hc (by omega)
    have : ∀ k, k < 4 → cell ≠ 4 * a + k := fun k hk he => hc (by omega)
    simp [hc, h0, this]

/-- A read of one byte after a store write (R152). -/
theorem State.storeByte_storeWord (s : State) (a : Nat) (d : Word) (en : Enables) (cell : Nat) :
    (s.storeWord a d en).storeByte cell =
      if cell / 4 = a ∧ en.getLsbD (cell % 4) = true then byteOf d (cell % 4) else s.storeByte cell := by
  unfold State.storeByte State.storeWord
  simp only [State.setStore_store, State.setStore_powerOns, Memory.get_writeWord]
  split <;> rfl

/-- A store byte depends on the store and the number of power-ons alone. -/
theorem State.storeByte_congr (s t : State) (h1 : t.store = s.store) (h2 : t.powerOns = s.powerOns) (cell : Nat) :
    t.storeByte cell = s.storeByte cell := by
  unfold State.storeByte
  rw [h1, h2]

end Sys2Proof.Machine
end

