-- ==== Sys2Proof/Laws/Frames.lean ====
section
/-! SUPPORT. The frames of the shared operations: one lemma each, listing every block the operation leaves as it
was. -/

namespace Sys2Proof.Machine

variable (s : State)

/-- One pulse source raised (R172, R173): what it leaves. -/
@[simp] theorem State.raise_frame (i : Source) :
    (s.raise i).now = s.now ∧ (s.raise i).powerOns = s.powerOns ∧ (s.raise i).pending = s.pending
      ∧ (s.raise i).pins = s.pins ∧ (s.raise i).link = s.link ∧ (s.raise i).queue = s.queue
      ∧ (s.raise i).store = s.store ∧ (s.raise i).sc = s.sc ∧ (s.raise i).slots = s.slots
      ∧ (s.raise i).fill = s.fill ∧ (s.raise i).control = s.control ∧ (s.raise i).scan = s.scan
      ∧ (s.raise i).engine = s.engine ∧ (s.raise i).feeder = s.feeder ∧ (s.raise i).drive = s.drive
      ∧ (s.raise i).monitor = s.monitor := by
  simp [State.raise]

/-- A pulse source raised on a condition: what it leaves. -/
@[simp] theorem State.raiseIf_frame (b : Bool) (i : Source) :
    (s.raiseIf b i).now = s.now ∧ (s.raiseIf b i).powerOns = s.powerOns ∧ (s.raiseIf b i).pending = s.pending
      ∧ (s.raiseIf b i).pins = s.pins ∧ (s.raiseIf b i).link = s.link ∧ (s.raiseIf b i).queue = s.queue
      ∧ (s.raiseIf b i).store = s.store ∧ (s.raiseIf b i).sc = s.sc ∧ (s.raiseIf b i).slots = s.slots
      ∧ (s.raiseIf b i).fill = s.fill ∧ (s.raiseIf b i).control = s.control ∧ (s.raiseIf b i).scan = s.scan
      ∧ (s.raiseIf b i).engine = s.engine ∧ (s.raiseIf b i).feeder = s.feeder ∧ (s.raiseIf b i).drive = s.drive
      ∧ (s.raiseIf b i).monitor = s.monitor := by
  unfold State.raiseIf; (repeat' split) <;> simp

/-- A sticky bit set: what it leaves. -/
@[simp] theorem State.stick_frame (i : Source) :
    (s.stick i).now = s.now ∧ (s.stick i).powerOns = s.powerOns ∧ (s.stick i).pending = s.pending
      ∧ (s.stick i).pins = s.pins ∧ (s.stick i).link = s.link ∧ (s.stick i).queue = s.queue
      ∧ (s.stick i).store = s.store ∧ (s.stick i).sc = s.sc ∧ (s.stick i).slots = s.slots
      ∧ (s.stick i).fill = s.fill ∧ (s.stick i).control = s.control ∧ (s.stick i).scan = s.scan
      ∧ (s.stick i).engine = s.engine ∧ (s.stick i).feeder = s.feeder ∧ (s.stick i).drive = s.drive
      ∧ (s.stick i).monitor = s.monitor := by
  simp [State.stick]

/-- A level source takes its condition: what it leaves. -/
@[simp] theorem State.levelFrom_frame (i : Source) (was : Bool) :
    (s.levelFrom i was).now = s.now ∧ (s.levelFrom i was).powerOns = s.powerOns
      ∧ (s.levelFrom i was).pending = s.pending ∧ (s.levelFrom i was).pins = s.pins
      ∧ (s.levelFrom i was).link = s.link ∧ (s.levelFrom i was).queue = s.queue
      ∧ (s.levelFrom i was).store = s.store ∧ (s.levelFrom i was).sc = s.sc ∧ (s.levelFrom i was).slots = s.slots
      ∧ (s.levelFrom i was).fill = s.fill ∧ (s.levelFrom i was).control = s.control
      ∧ (s.levelFrom i was).scan = s.scan ∧ (s.levelFrom i was).engine = s.engine
      ∧ (s.levelFrom i was).feeder = s.feeder ∧ (s.levelFrom i was).drive = s.drive
      ∧ (s.levelFrom i was).monitor = s.monitor := by
  unfold State.levelFrom; (repeat' split) <;> simp

/-- Level sources in LEVEL mode set their bits again: what it leaves. -/
@[simp] theorem State.resample_frame :
    (s.resample).now = s.now ∧ (s.resample).powerOns = s.powerOns ∧ (s.resample).pending = s.pending
      ∧ (s.resample).pins = s.pins ∧ (s.resample).link = s.link ∧ (s.resample).queue = s.queue
      ∧ (s.resample).store = s.store ∧ (s.resample).sc = s.sc ∧ (s.resample).slots = s.slots
      ∧ (s.resample).fill = s.fill ∧ (s.resample).control = s.control ∧ (s.resample).scan = s.scan
      ∧ (s.resample).engine = s.engine ∧ (s.resample).feeder = s.feeder ∧ (s.resample).drive = s.drive
      ∧ (s.resample).monitor = s.monitor := by
  simp only [State.resample]; (repeat' split) <;> simp

/-- The scanner takes a state: what it leaves. -/
@[simp] theorem State.setScanState_frame (x : ScanState) :
    (s.setScanState x).now = s.now ∧ (s.setScanState x).powerOns = s.powerOns
      ∧ (s.setScanState x).pending = s.pending ∧ (s.setScanState x).pins = s.pins ∧ (s.setScanState x).link = s.link
      ∧ (s.setScanState x).queue = s.queue ∧ (s.setScanState x).store = s.store ∧ (s.setScanState x).sc = s.sc
      ∧ (s.setScanState x).slots = s.slots ∧ (s.setScanState x).fill = s.fill
      ∧ (s.setScanState x).control = s.control ∧ (s.setScanState x).engine = s.engine
      ∧ (s.setScanState x).feeder = s.feeder ∧ (s.setScanState x).drive = s.drive
      ∧ (s.setScanState x).monitor = s.monitor := by
  simp [State.setScanState]

/-- INTERLOCK takes a level: what it leaves. -/
@[simp] theorem State.setInterlock_frame (x : Bool) :
    (s.setInterlock x).now = s.now ∧ (s.setInterlock x).powerOns = s.powerOns
      ∧ (s.setInterlock x).pending = s.pending ∧ (s.setInterlock x).link = s.link
      ∧ (s.setInterlock x).queue = s.queue ∧ (s.setInterlock x).store = s.store ∧ (s.setInterlock x).sc = s.sc
      ∧ (s.setInterlock x).slots = s.slots ∧ (s.setInterlock x).fill = s.fill
      ∧ (s.setInterlock x).control = s.control ∧ (s.setInterlock x).scan = s.scan
      ∧ (s.setInterlock x).engine = s.engine ∧ (s.setInterlock x).feeder = s.feeder
      ∧ (s.setInterlock x).drive = s.drive ∧ (s.setInterlock x).monitor = s.monitor := by
  simp [State.setInterlock]

@[simp] theorem State.indicateSweep_frame :
    (s.indicateSweep).now = s.now ∧ (s.indicateSweep).powerOns = s.powerOns ∧ (s.indicateSweep).pending = s.pending
      ∧ (s.indicateSweep).pins = s.pins ∧ (s.indicateSweep).link = s.link ∧ (s.indicateSweep).queue = s.queue
      ∧ (s.indicateSweep).store = s.store ∧ (s.indicateSweep).sc = s.sc ∧ (s.indicateSweep).slots = s.slots
      ∧ (s.indicateSweep).fill = s.fill ∧ (s.indicateSweep).control = s.control ∧ (s.indicateSweep).scan = s.scan
      ∧ (s.indicateSweep).engine = s.engine ∧ (s.indicateSweep).feeder = s.feeder
      ∧ (s.indicateSweep).drive = s.drive ∧ (s.indicateSweep).monitor = s.monitor := by
  simp [State.indicateSweep]

@[simp] theorem State.indicateFrameStart_frame :
    (s.indicateFrameStart).now = s.now ∧ (s.indicateFrameStart).powerOns = s.powerOns
      ∧ (s.indicateFrameStart).pending = s.pending ∧ (s.indicateFrameStart).pins = s.pins
      ∧ (s.indicateFrameStart).link = s.link ∧ (s.indicateFrameStart).queue = s.queue
      ∧ (s.indicateFrameStart).store = s.store ∧ (s.indicateFrameStart).sc = s.sc
      ∧ (s.indicateFrameStart).slots = s.slots ∧ (s.indicateFrameStart).fill = s.fill
      ∧ (s.indicateFrameStart).control = s.control ∧ (s.indicateFrameStart).scan = s.scan
      ∧ (s.indicateFrameStart).engine = s.engine ∧ (s.indicateFrameStart).feeder = s.feeder
      ∧ (s.indicateFrameStart).drive = s.drive ∧ (s.indicateFrameStart).monitor = s.monitor := by
  simp [State.indicateFrameStart]

/-- The report of a sweep (R180): what it leaves. -/
@[simp] theorem State.reportSweep_frame :
    (s.reportSweep).now = s.now ∧ (s.reportSweep).powerOns = s.powerOns ∧ (s.reportSweep).pending = s.pending
      ∧ (s.reportSweep).pins = s.pins ∧ (s.reportSweep).link = s.link ∧ (s.reportSweep).queue = s.queue
      ∧ (s.reportSweep).store = s.store ∧ (s.reportSweep).sc = s.sc ∧ (s.reportSweep).slots = s.slots
      ∧ (s.reportSweep).fill = s.fill ∧ (s.reportSweep).control = s.control ∧ (s.reportSweep).scan = s.scan
      ∧ (s.reportSweep).engine = s.engine ∧ (s.reportSweep).feeder = s.feeder ∧ (s.reportSweep).drive = s.drive
      ∧ (s.reportSweep).monitor = s.monitor := by
  unfold State.reportSweep; (repeat' split) <;> simp

@[simp] theorem State.setSlot_frame (n : Fin 8) (x : Slot) :
    (s.setSlot n x).now = s.now ∧ (s.setSlot n x).powerOns = s.powerOns ∧ (s.setSlot n x).pending = s.pending
      ∧ (s.setSlot n x).pins = s.pins ∧ (s.setSlot n x).link = s.link ∧ (s.setSlot n x).queue = s.queue
      ∧ (s.setSlot n x).store = s.store ∧ (s.setSlot n x).sc = s.sc ∧ (s.setSlot n x).fill = s.fill
      ∧ (s.setSlot n x).control = s.control ∧ (s.setSlot n x).scan = s.scan ∧ (s.setSlot n x).engine = s.engine
      ∧ (s.setSlot n x).feeder = s.feeder ∧ (s.setSlot n x).drive = s.drive ∧ (s.setSlot n x).events = s.events
      ∧ (s.setSlot n x).monitor = s.monitor := by
  simp [State.setSlot]

@[simp] theorem State.setCover_frame (n : Fin 8) (x : Coverage) :
    (s.setCover n x).now = s.now ∧ (s.setCover n x).powerOns = s.powerOns ∧ (s.setCover n x).pending = s.pending
      ∧ (s.setCover n x).pins = s.pins ∧ (s.setCover n x).link = s.link ∧ (s.setCover n x).queue = s.queue
      ∧ (s.setCover n x).store = s.store ∧ (s.setCover n x).sc = s.sc ∧ (s.setCover n x).slots = s.slots
      ∧ (s.setCover n x).control = s.control ∧ (s.setCover n x).scan = s.scan ∧ (s.setCover n x).engine = s.engine
      ∧ (s.setCover n x).feeder = s.feeder ∧ (s.setCover n x).drive = s.drive ∧ (s.setCover n x).events = s.events
      ∧ (s.setCover n x).monitor = s.monitor := by
  simp [State.setCover]

@[simp] theorem State.freeRuns_frame (n : Fin 8) :
    (s.freeRuns n).now = s.now ∧ (s.freeRuns n).powerOns = s.powerOns ∧ (s.freeRuns n).pending = s.pending
      ∧ (s.freeRuns n).pins = s.pins ∧ (s.freeRuns n).link = s.link ∧ (s.freeRuns n).queue = s.queue
      ∧ (s.freeRuns n).store = s.store ∧ (s.freeRuns n).sc = s.sc ∧ (s.freeRuns n).slots = s.slots
      ∧ (s.freeRuns n).control = s.control ∧ (s.freeRuns n).scan = s.scan ∧ (s.freeRuns n).engine = s.engine
      ∧ (s.freeRuns n).feeder = s.feeder ∧ (s.freeRuns n).drive = s.drive ∧ (s.freeRuns n).events = s.events
      ∧ (s.freeRuns n).monitor = s.monitor := by
  simp [State.freeRuns]

@[simp] theorem State.addUser_frame (x : StockSet) :
    (s.addUser x).now = s.now ∧ (s.addUser x).powerOns = s.powerOns ∧ (s.addUser x).pending = s.pending
      ∧ (s.addUser x).pins = s.pins ∧ (s.addUser x).link = s.link ∧ (s.addUser x).queue = s.queue
      ∧ (s.addUser x).store = s.store ∧ (s.addUser x).sc = s.sc ∧ (s.addUser x).fill = s.fill
      ∧ (s.addUser x).control = s.control ∧ (s.addUser x).scan = s.scan ∧ (s.addUser x).engine = s.engine
      ∧ (s.addUser x).feeder = s.feeder ∧ (s.addUser x).drive = s.drive ∧ (s.addUser x).events = s.events
      ∧ (s.addUser x).monitor = s.monitor := by
  unfold State.addUser; (repeat' split) <;> simp

@[simp] theorem State.dropUser_frame (x : StockSet) :
    (s.dropUser x).now = s.now ∧ (s.dropUser x).powerOns = s.powerOns ∧ (s.dropUser x).pending = s.pending
      ∧ (s.dropUser x).pins = s.pins ∧ (s.dropUser x).link = s.link ∧ (s.dropUser x).queue = s.queue
      ∧ (s.dropUser x).store = s.store ∧ (s.dropUser x).sc = s.sc ∧ (s.dropUser x).fill = s.fill
      ∧ (s.dropUser x).control = s.control ∧ (s.dropUser x).scan = s.scan ∧ (s.dropUser x).engine = s.engine
      ∧ (s.dropUser x).feeder = s.feeder ∧ (s.dropUser x).drive = s.drive ∧ (s.dropUser x).events = s.events
      ∧ (s.dropUser x).monitor = s.monitor := by
  unfold State.dropUser; (repeat' split) <;> simp

@[simp] theorem State.dequeueSlot_frame (n : Fin 8) :
    (s.dequeueSlot n).now = s.now ∧ (s.dequeueSlot n).powerOns = s.powerOns ∧ (s.dequeueSlot n).pending = s.pending
      ∧ (s.dequeueSlot n).pins = s.pins ∧ (s.dequeueSlot n).link = s.link ∧ (s.dequeueSlot n).queue = s.queue
      ∧ (s.dequeueSlot n).store = s.store ∧ (s.dequeueSlot n).sc = s.sc ∧ (s.dequeueSlot n).fill = s.fill
      ∧ (s.dequeueSlot n).control = s.control ∧ (s.dequeueSlot n).scan = s.scan
      ∧ (s.dequeueSlot n).engine = s.engine ∧ (s.dequeueSlot n).feeder = s.feeder
      ∧ (s.dequeueSlot n).drive = s.drive ∧ (s.dequeueSlot n).events = s.events
      ∧ (s.dequeueSlot n).monitor = s.monitor := by
  simp [State.dequeueSlot]

/-- A departure from the queued states (R10): what it leaves. -/
@[simp] theorem State.leaveQueue_frame (n : Fin 8) :
    (s.leaveQueue n).now = s.now ∧ (s.leaveQueue n).powerOns = s.powerOns ∧ (s.leaveQueue n).pending = s.pending
      ∧ (s.leaveQueue n).pins = s.pins ∧ (s.leaveQueue n).link = s.link ∧ (s.leaveQueue n).queue = s.queue
      ∧ (s.leaveQueue n).store = s.store ∧ (s.leaveQueue n).sc = s.sc ∧ (s.leaveQueue n).control = s.control
      ∧ (s.leaveQueue n).scan = s.scan ∧ (s.leaveQueue n).engine = s.engine ∧ (s.leaveQueue n).feeder = s.feeder
      ∧ (s.leaveQueue n).drive = s.drive ∧ (s.leaveQueue n).events = s.events ∧ (s.leaveQueue n).monitor = s.monitor := by
  simp [State.leaveQueue]

@[simp] theorem State.vacate_frame (n : Fin 8) :
    (s.vacate n).now = s.now ∧ (s.vacate n).powerOns = s.powerOns ∧ (s.vacate n).pending = s.pending
      ∧ (s.vacate n).pins = s.pins ∧ (s.vacate n).link = s.link ∧ (s.vacate n).queue = s.queue
      ∧ (s.vacate n).store = s.store ∧ (s.vacate n).sc = s.sc ∧ (s.vacate n).control = s.control
      ∧ (s.vacate n).scan = s.scan ∧ (s.vacate n).engine = s.engine ∧ (s.vacate n).feeder = s.feeder
      ∧ (s.vacate n).drive = s.drive ∧ (s.vacate n).events = s.events ∧ (s.vacate n).monitor = s.monitor := by
  simp [State.vacate]

@[simp] theorem State.storeWord_frame (a : Nat) (w : Word) (en : Enables) :
    (s.storeWord a w en).now = s.now ∧ (s.storeWord a w en).powerOns = s.powerOns
      ∧ (s.storeWord a w en).pending = s.pending ∧ (s.storeWord a w en).pins = s.pins
      ∧ (s.storeWord a w en).link = s.link ∧ (s.storeWord a w en).queue = s.queue ∧ (s.storeWord a w en).sc = s.sc
      ∧ (s.storeWord a w en).slots = s.slots ∧ (s.storeWord a w en).fill = s.fill
      ∧ (s.storeWord a w en).control = s.control ∧ (s.storeWord a w en).scan = s.scan
      ∧ (s.storeWord a w en).engine = s.engine ∧ (s.storeWord a w en).feeder = s.feeder
      ∧ (s.storeWord a w en).drive = s.drive ∧ (s.storeWord a w en).events = s.events
      ∧ (s.storeWord a w en).monitor = s.monitor := by
  simp [State.storeWord]

@[simp] theorem State.storeBeat_frame (b : Beat) :
    (s.storeBeat b).now = s.now ∧ (s.storeBeat b).powerOns = s.powerOns ∧ (s.storeBeat b).pending = s.pending
      ∧ (s.storeBeat b).pins = s.pins ∧ (s.storeBeat b).link = s.link ∧ (s.storeBeat b).queue = s.queue
      ∧ (s.storeBeat b).sc = s.sc ∧ (s.storeBeat b).slots = s.slots ∧ (s.storeBeat b).fill = s.fill
      ∧ (s.storeBeat b).control = s.control ∧ (s.storeBeat b).scan = s.scan ∧ (s.storeBeat b).engine = s.engine
      ∧ (s.storeBeat b).feeder = s.feeder ∧ (s.storeBeat b).drive = s.drive ∧ (s.storeBeat b).events = s.events
      ∧ (s.storeBeat b).monitor = s.monitor := by
  simp [State.storeBeat]

@[simp] theorem State.setTable_frame (u : TableUnit) (x : TableState) :
    (s.setTable u x).now = s.now ∧ (s.setTable u x).powerOns = s.powerOns ∧ (s.setTable u x).pending = s.pending
      ∧ (s.setTable u x).pins = s.pins ∧ (s.setTable u x).link = s.link ∧ (s.setTable u x).queue = s.queue
      ∧ (s.setTable u x).store = s.store ∧ (s.setTable u x).sc = s.sc ∧ (s.setTable u x).slots = s.slots
      ∧ (s.setTable u x).fill = s.fill ∧ (s.setTable u x).scan = s.scan ∧ (s.setTable u x).engine = s.engine
      ∧ (s.setTable u x).feeder = s.feeder ∧ (s.setTable u x).drive = s.drive ∧ (s.setTable u x).events = s.events
      ∧ (s.setTable u x).monitor = s.monitor := by
  simp [State.setTable]

@[simp] theorem State.refreshEntry_frame (m : Mem) (a : Nat) :
    (s.refreshEntry m a).now = s.now ∧ (s.refreshEntry m a).powerOns = s.powerOns
      ∧ (s.refreshEntry m a).pending = s.pending ∧ (s.refreshEntry m a).pins = s.pins
      ∧ (s.refreshEntry m a).link = s.link ∧ (s.refreshEntry m a).queue = s.queue
      ∧ (s.refreshEntry m a).store = s.store ∧ (s.refreshEntry m a).sc = s.sc ∧ (s.refreshEntry m a).slots = s.slots
      ∧ (s.refreshEntry m a).fill = s.fill ∧ (s.refreshEntry m a).control = s.control
      ∧ (s.refreshEntry m a).scan = s.scan ∧ (s.refreshEntry m a).engine = s.engine
      ∧ (s.refreshEntry m a).feeder = s.feeder ∧ (s.refreshEntry m a).drive = s.drive
      ∧ (s.refreshEntry m a).events = s.events := by
  simp [State.refreshEntry]

/-- A capture (R136, R137): what it leaves. -/
@[simp] theorem State.capture_frame (u : TableUnit) (o : Nat) (w : Word) :
    (s.capture u o w).now = s.now ∧ (s.capture u o w).powerOns = s.powerOns ∧ (s.capture u o w).pending = s.pending
      ∧ (s.capture u o w).pins = s.pins ∧ (s.capture u o w).link = s.link ∧ (s.capture u o w).queue = s.queue
      ∧ (s.capture u o w).store = s.store ∧ (s.capture u o w).sc = s.sc ∧ (s.capture u o w).slots = s.slots
      ∧ (s.capture u o w).fill = s.fill ∧ (s.capture u o w).scan = s.scan ∧ (s.capture u o w).engine = s.engine
      ∧ (s.capture u o w).feeder = s.feeder ∧ (s.capture u o w).drive = s.drive := by
  simp [State.capture]

@[simp] theorem State.damageEntry_frame (d : Damage) :
    (s.damageEntry d).now = s.now ∧ (s.damageEntry d).powerOns = s.powerOns ∧ (s.damageEntry d).pending = s.pending
      ∧ (s.damageEntry d).pins = s.pins ∧ (s.damageEntry d).link = s.link ∧ (s.damageEntry d).queue = s.queue
      ∧ (s.damageEntry d).store = s.store ∧ (s.damageEntry d).sc = s.sc ∧ (s.damageEntry d).slots = s.slots
      ∧ (s.damageEntry d).fill = s.fill ∧ (s.damageEntry d).control = s.control ∧ (s.damageEntry d).scan = s.scan
      ∧ (s.damageEntry d).engine = s.engine ∧ (s.damageEntry d).feeder = s.feeder
      ∧ (s.damageEntry d).drive = s.drive ∧ (s.damageEntry d).events = s.events := by
  unfold State.damageEntry; (repeat' split) <;> simp

@[simp] theorem State.setRecord_frame (i : Fin 8) (r : Indication) :
    (s.setRecord i r).now = s.now ∧ (s.setRecord i r).powerOns = s.powerOns ∧ (s.setRecord i r).pending = s.pending
      ∧ (s.setRecord i r).pins = s.pins ∧ (s.setRecord i r).link = s.link ∧ (s.setRecord i r).queue = s.queue
      ∧ (s.setRecord i r).store = s.store ∧ (s.setRecord i r).sc = s.sc ∧ (s.setRecord i r).slots = s.slots
      ∧ (s.setRecord i r).fill = s.fill ∧ (s.setRecord i r).control = s.control ∧ (s.setRecord i r).scan = s.scan
      ∧ (s.setRecord i r).engine = s.engine ∧ (s.setRecord i r).feeder = s.feeder
      ∧ (s.setRecord i r).drive = s.drive ∧ (s.setRecord i r).events = s.events := by
  simp [State.setRecord]

/-- The check of one read (R164 to R166): what it leaves. -/
@[simp] theorem State.checkRead_frame (m : Mem) (a : Nat) :
    (s.checkRead m a).now = s.now ∧ (s.checkRead m a).powerOns = s.powerOns ∧ (s.checkRead m a).pending = s.pending
      ∧ (s.checkRead m a).pins = s.pins ∧ (s.checkRead m a).link = s.link ∧ (s.checkRead m a).queue = s.queue
      ∧ (s.checkRead m a).store = s.store ∧ (s.checkRead m a).sc = s.sc ∧ (s.checkRead m a).slots = s.slots
      ∧ (s.checkRead m a).fill = s.fill ∧ (s.checkRead m a).control = s.control ∧ (s.checkRead m a).scan = s.scan
      ∧ (s.checkRead m a).engine = s.engine ∧ (s.checkRead m a).feeder = s.feeder
      ∧ (s.checkRead m a).drive = s.drive := by
  unfold State.checkRead; (repeat' split) <;> simp

@[simp] theorem State.completeSlot_frame (n : Fin 8) :
    (s.completeSlot n).now = s.now ∧ (s.completeSlot n).powerOns = s.powerOns
      ∧ (s.completeSlot n).pending = s.pending ∧ (s.completeSlot n).pins = s.pins ∧ (s.completeSlot n).link = s.link
      ∧ (s.completeSlot n).queue = s.queue ∧ (s.completeSlot n).store = s.store ∧ (s.completeSlot n).sc = s.sc
      ∧ (s.completeSlot n).fill = s.fill ∧ (s.completeSlot n).control = s.control ∧ (s.completeSlot n).scan = s.scan
      ∧ (s.completeSlot n).engine = s.engine ∧ (s.completeSlot n).feeder = s.feeder
      ∧ (s.completeSlot n).drive = s.drive ∧ (s.completeSlot n).monitor = s.monitor := by
  simp only [State.completeSlot]; (repeat' split) <;> simp

@[simp] theorem State.advanceCursor_frame (n : Fin 8) :
    (s.advanceCursor n).now = s.now ∧ (s.advanceCursor n).powerOns = s.powerOns
      ∧ (s.advanceCursor n).pending = s.pending ∧ (s.advanceCursor n).pins = s.pins
      ∧ (s.advanceCursor n).link = s.link ∧ (s.advanceCursor n).queue = s.queue
      ∧ (s.advanceCursor n).store = s.store ∧ (s.advanceCursor n).sc = s.sc
      ∧ (s.advanceCursor n).control = s.control ∧ (s.advanceCursor n).scan = s.scan
      ∧ (s.advanceCursor n).engine = s.engine ∧ (s.advanceCursor n).feeder = s.feeder
      ∧ (s.advanceCursor n).drive = s.drive ∧ (s.advanceCursor n).monitor = s.monitor := by
  simp only [State.advanceCursor]; (repeat' split) <;> simp

/-- The Fill Tracker takes an index (R48): what it leaves. -/
@[simp] theorem State.recordFill_frame (n : Fin 8) (i : Nat) :
    (s.recordFill n i).now = s.now ∧ (s.recordFill n i).powerOns = s.powerOns
      ∧ (s.recordFill n i).pending = s.pending ∧ (s.recordFill n i).pins = s.pins ∧ (s.recordFill n i).link = s.link
      ∧ (s.recordFill n i).queue = s.queue ∧ (s.recordFill n i).store = s.store ∧ (s.recordFill n i).sc = s.sc
      ∧ (s.recordFill n i).control = s.control ∧ (s.recordFill n i).scan = s.scan
      ∧ (s.recordFill n i).engine = s.engine ∧ (s.recordFill n i).feeder = s.feeder
      ∧ (s.recordFill n i).drive = s.drive ∧ (s.recordFill n i).monitor = s.monitor := by
  simp only [State.recordFill]; (repeat' split) <;> simp

@[simp] theorem State.setBank_frame (b : Fin 2) (x : Bank) :
    (s.setBank b x).now = s.now ∧ (s.setBank b x).powerOns = s.powerOns ∧ (s.setBank b x).pending = s.pending
      ∧ (s.setBank b x).pins = s.pins ∧ (s.setBank b x).link = s.link ∧ (s.setBank b x).queue = s.queue
      ∧ (s.setBank b x).store = s.store ∧ (s.setBank b x).sc = s.sc ∧ (s.setBank b x).slots = s.slots
      ∧ (s.setBank b x).fill = s.fill ∧ (s.setBank b x).control = s.control ∧ (s.setBank b x).scan = s.scan
      ∧ (s.setBank b x).engine = s.engine ∧ (s.setBank b x).drive = s.drive ∧ (s.setBank b x).events = s.events
      ∧ (s.setBank b x).monitor = s.monitor := by
  simp [State.setBank]

@[simp] theorem State.mapUnit_frame (f : GrantUnit → GrantUnit) :
    (s.mapUnit f).now = s.now ∧ (s.mapUnit f).powerOns = s.powerOns ∧ (s.mapUnit f).pending = s.pending
      ∧ (s.mapUnit f).pins = s.pins ∧ (s.mapUnit f).link = s.link ∧ (s.mapUnit f).queue = s.queue
      ∧ (s.mapUnit f).store = s.store ∧ (s.mapUnit f).slots = s.slots ∧ (s.mapUnit f).fill = s.fill
      ∧ (s.mapUnit f).control = s.control ∧ (s.mapUnit f).scan = s.scan ∧ (s.mapUnit f).engine = s.engine
      ∧ (s.mapUnit f).feeder = s.feeder ∧ (s.mapUnit f).drive = s.drive ∧ (s.mapUnit f).events = s.events
      ∧ (s.mapUnit f).monitor = s.monitor := by
  simp [State.mapUnit]

@[simp] theorem State.abandonFetch_frame :
    (s.abandonFetch).now = s.now ∧ (s.abandonFetch).powerOns = s.powerOns ∧ (s.abandonFetch).pending = s.pending
      ∧ (s.abandonFetch).pins = s.pins ∧ (s.abandonFetch).link = s.link ∧ (s.abandonFetch).queue = s.queue
      ∧ (s.abandonFetch).store = s.store ∧ (s.abandonFetch).slots = s.slots ∧ (s.abandonFetch).fill = s.fill
      ∧ (s.abandonFetch).control = s.control ∧ (s.abandonFetch).scan = s.scan ∧ (s.abandonFetch).engine = s.engine
      ∧ (s.abandonFetch).drive = s.drive ∧ (s.abandonFetch).events = s.events ∧ (s.abandonFetch).monitor = s.monitor := by
  simp [State.abandonFetch]

@[simp] theorem State.releaseBank_frame (b : Fin 2) :
    (s.releaseBank b).now = s.now ∧ (s.releaseBank b).powerOns = s.powerOns ∧ (s.releaseBank b).pending = s.pending
      ∧ (s.releaseBank b).pins = s.pins ∧ (s.releaseBank b).link = s.link ∧ (s.releaseBank b).queue = s.queue
      ∧ (s.releaseBank b).store = s.store ∧ (s.releaseBank b).slots = s.slots ∧ (s.releaseBank b).fill = s.fill
      ∧ (s.releaseBank b).control = s.control ∧ (s.releaseBank b).scan = s.scan
      ∧ (s.releaseBank b).engine = s.engine ∧ (s.releaseBank b).drive = s.drive
      ∧ (s.releaseBank b).events = s.events ∧ (s.releaseBank b).monitor = s.monitor := by
  unfold State.releaseBank; (repeat' split) <;> simp

@[simp] theorem State.clearFeeder_frame :
    (s.clearFeeder).now = s.now ∧ (s.clearFeeder).powerOns = s.powerOns ∧ (s.clearFeeder).pending = s.pending
      ∧ (s.clearFeeder).pins = s.pins ∧ (s.clearFeeder).link = s.link ∧ (s.clearFeeder).queue = s.queue
      ∧ (s.clearFeeder).store = s.store ∧ (s.clearFeeder).slots = s.slots ∧ (s.clearFeeder).fill = s.fill
      ∧ (s.clearFeeder).control = s.control ∧ (s.clearFeeder).scan = s.scan ∧ (s.clearFeeder).engine = s.engine
      ∧ (s.clearFeeder).drive = s.drive ∧ (s.clearFeeder).events = s.events ∧ (s.clearFeeder).monitor = s.monitor := by
  simp [State.clearFeeder]

@[simp] theorem State.unlockSlot_frame (n : Fin 8) :
    (s.unlockSlot n).now = s.now ∧ (s.unlockSlot n).powerOns = s.powerOns ∧ (s.unlockSlot n).pending = s.pending
      ∧ (s.unlockSlot n).pins = s.pins ∧ (s.unlockSlot n).link = s.link ∧ (s.unlockSlot n).queue = s.queue
      ∧ (s.unlockSlot n).store = s.store ∧ (s.unlockSlot n).sc = s.sc ∧ (s.unlockSlot n).fill = s.fill
      ∧ (s.unlockSlot n).control = s.control ∧ (s.unlockSlot n).scan = s.scan ∧ (s.unlockSlot n).engine = s.engine
      ∧ (s.unlockSlot n).feeder = s.feeder ∧ (s.unlockSlot n).drive = s.drive ∧ (s.unlockSlot n).events = s.events
      ∧ (s.unlockSlot n).monitor = s.monitor := by
  simp [State.unlockSlot]

@[simp] theorem State.unlockPrefetch_frame (b : Fin 2) :
    (s.unlockPrefetch b).now = s.now ∧ (s.unlockPrefetch b).powerOns = s.powerOns
      ∧ (s.unlockPrefetch b).pending = s.pending ∧ (s.unlockPrefetch b).pins = s.pins
      ∧ (s.unlockPrefetch b).link = s.link ∧ (s.unlockPrefetch b).queue = s.queue
      ∧ (s.unlockPrefetch b).store = s.store ∧ (s.unlockPrefetch b).sc = s.sc ∧ (s.unlockPrefetch b).fill = s.fill
      ∧ (s.unlockPrefetch b).control = s.control ∧ (s.unlockPrefetch b).scan = s.scan
      ∧ (s.unlockPrefetch b).engine = s.engine ∧ (s.unlockPrefetch b).feeder = s.feeder
      ∧ (s.unlockPrefetch b).drive = s.drive ∧ (s.unlockPrefetch b).events = s.events
      ∧ (s.unlockPrefetch b).monitor = s.monitor := by
  unfold State.unlockPrefetch; (repeat' split) <;> simp

/-- A discarded prefetch (R118): what it leaves. -/
@[simp] theorem State.discardPrefetch_frame (n : Fin 8) :
    (s.discardPrefetch n).now = s.now ∧ (s.discardPrefetch n).powerOns = s.powerOns
      ∧ (s.discardPrefetch n).pending = s.pending ∧ (s.discardPrefetch n).pins = s.pins
      ∧ (s.discardPrefetch n).link = s.link ∧ (s.discardPrefetch n).queue = s.queue
      ∧ (s.discardPrefetch n).store = s.store ∧ (s.discardPrefetch n).fill = s.fill
      ∧ (s.discardPrefetch n).control = s.control ∧ (s.discardPrefetch n).scan = s.scan
      ∧ (s.discardPrefetch n).engine = s.engine ∧ (s.discardPrefetch n).drive = s.drive
      ∧ (s.discardPrefetch n).events = s.events ∧ (s.discardPrefetch n).monitor = s.monitor := by
  unfold State.discardPrefetch; (repeat' split) <;> simp

@[simp] theorem State.blankDrive_frame :
    (s.blankDrive).now = s.now ∧ (s.blankDrive).powerOns = s.powerOns ∧ (s.blankDrive).pending = s.pending
      ∧ (s.blankDrive).pins = s.pins ∧ (s.blankDrive).link = s.link ∧ (s.blankDrive).queue = s.queue
      ∧ (s.blankDrive).store = s.store ∧ (s.blankDrive).sc = s.sc ∧ (s.blankDrive).slots = s.slots
      ∧ (s.blankDrive).fill = s.fill ∧ (s.blankDrive).control = s.control ∧ (s.blankDrive).scan = s.scan
      ∧ (s.blankDrive).engine = s.engine ∧ (s.blankDrive).feeder = s.feeder ∧ (s.blankDrive).events = s.events
      ∧ (s.blankDrive).monitor = s.monitor := by
  simp [State.blankDrive]

@[simp] theorem State.unlockOnStop_frame :
    (s.unlockOnStop).now = s.now ∧ (s.unlockOnStop).powerOns = s.powerOns ∧ (s.unlockOnStop).pending = s.pending
      ∧ (s.unlockOnStop).pins = s.pins ∧ (s.unlockOnStop).link = s.link ∧ (s.unlockOnStop).queue = s.queue
      ∧ (s.unlockOnStop).store = s.store ∧ (s.unlockOnStop).sc = s.sc ∧ (s.unlockOnStop).fill = s.fill
      ∧ (s.unlockOnStop).control = s.control ∧ (s.unlockOnStop).scan = s.scan ∧ (s.unlockOnStop).engine = s.engine
      ∧ (s.unlockOnStop).feeder = s.feeder ∧ (s.unlockOnStop).drive = s.drive ∧ (s.unlockOnStop).events = s.events
      ∧ (s.unlockOnStop).monitor = s.monitor := by
  unfold State.unlockOnStop; (repeat' split) <;> simp

/-- Entry to STOPPED (R106): what it leaves. -/
@[simp] theorem State.enterStopped_frame :
    (s.enterStopped).now = s.now ∧ (s.enterStopped).powerOns = s.powerOns ∧ (s.enterStopped).pending = s.pending
      ∧ (s.enterStopped).pins = s.pins ∧ (s.enterStopped).link = s.link ∧ (s.enterStopped).queue = s.queue
      ∧ (s.enterStopped).store = s.store ∧ (s.enterStopped).fill = s.fill ∧ (s.enterStopped).control = s.control
      ∧ (s.enterStopped).scan = s.scan ∧ (s.enterStopped).events = s.events ∧ (s.enterStopped).monitor = s.monitor := by
  simp [State.enterStopped]

@[simp] theorem State.enterWaiting_frame :
    (s.enterWaiting).now = s.now ∧ (s.enterWaiting).powerOns = s.powerOns ∧ (s.enterWaiting).pending = s.pending
      ∧ (s.enterWaiting).pins = s.pins ∧ (s.enterWaiting).link = s.link ∧ (s.enterWaiting).queue = s.queue
      ∧ (s.enterWaiting).store = s.store ∧ (s.enterWaiting).sc = s.sc ∧ (s.enterWaiting).slots = s.slots
      ∧ (s.enterWaiting).fill = s.fill ∧ (s.enterWaiting).control = s.control ∧ (s.enterWaiting).scan = s.scan
      ∧ (s.enterWaiting).feeder = s.feeder ∧ (s.enterWaiting).drive = s.drive ∧ (s.enterWaiting).events = s.events
      ∧ (s.enterWaiting).monitor = s.monitor := by
  simp [State.enterWaiting]

@[simp] theorem State.faultSlot_frame (n : Fin 8) (c : FaultCause) :
    (s.faultSlot n c).now = s.now ∧ (s.faultSlot n c).powerOns = s.powerOns ∧ (s.faultSlot n c).pending = s.pending
      ∧ (s.faultSlot n c).pins = s.pins ∧ (s.faultSlot n c).link = s.link ∧ (s.faultSlot n c).queue = s.queue
      ∧ (s.faultSlot n c).store = s.store ∧ (s.faultSlot n c).sc = s.sc ∧ (s.faultSlot n c).control = s.control
      ∧ (s.faultSlot n c).scan = s.scan ∧ (s.faultSlot n c).engine = s.engine ∧ (s.faultSlot n c).feeder = s.feeder
      ∧ (s.faultSlot n c).drive = s.drive ∧ (s.faultSlot n c).events = s.events
      ∧ (s.faultSlot n c).monitor = s.monitor := by
  simp [State.faultSlot]

/-- An abort trigger (R126, R127): what it leaves. -/
@[simp] theorem State.abortFrame_frame (c : FaultCause) :
    (s.abortFrame c).now = s.now ∧ (s.abortFrame c).powerOns = s.powerOns ∧ (s.abortFrame c).pending = s.pending
      ∧ (s.abortFrame c).pins = s.pins ∧ (s.abortFrame c).link = s.link ∧ (s.abortFrame c).queue = s.queue
      ∧ (s.abortFrame c).store = s.store ∧ (s.abortFrame c).control = s.control ∧ (s.abortFrame c).scan = s.scan
      ∧ (s.abortFrame c).monitor = s.monitor := by
  simp only [State.abortFrame]; (repeat' split) <;> simp

@[simp] theorem State.markSpoiled_frame :
    (s.markSpoiled).now = s.now ∧ (s.markSpoiled).powerOns = s.powerOns ∧ (s.markSpoiled).pending = s.pending
      ∧ (s.markSpoiled).pins = s.pins ∧ (s.markSpoiled).link = s.link ∧ (s.markSpoiled).queue = s.queue
      ∧ (s.markSpoiled).store = s.store ∧ (s.markSpoiled).sc = s.sc ∧ (s.markSpoiled).fill = s.fill
      ∧ (s.markSpoiled).control = s.control ∧ (s.markSpoiled).scan = s.scan ∧ (s.markSpoiled).feeder = s.feeder
      ∧ (s.markSpoiled).drive = s.drive ∧ (s.markSpoiled).events = s.events ∧ (s.markSpoiled).monitor = s.monitor := by
  unfold State.markSpoiled; (repeat' split) <;> simp

@[simp] theorem State.releaseBelow_frame (l : Nat) (b : Fin 2) :
    (s.releaseBelow l b).now = s.now ∧ (s.releaseBelow l b).powerOns = s.powerOns
      ∧ (s.releaseBelow l b).pending = s.pending ∧ (s.releaseBelow l b).pins = s.pins
      ∧ (s.releaseBelow l b).link = s.link ∧ (s.releaseBelow l b).queue = s.queue
      ∧ (s.releaseBelow l b).store = s.store ∧ (s.releaseBelow l b).slots = s.slots
      ∧ (s.releaseBelow l b).fill = s.fill ∧ (s.releaseBelow l b).control = s.control
      ∧ (s.releaseBelow l b).scan = s.scan ∧ (s.releaseBelow l b).engine = s.engine
      ∧ (s.releaseBelow l b).drive = s.drive ∧ (s.releaseBelow l b).events = s.events
      ∧ (s.releaseBelow l b).monitor = s.monitor := by
  unfold State.releaseBelow; (repeat' split) <;> simp

@[simp] theorem State.startSweep_frame (image : Bool) (bank : Option (Fin 2)) :
    (s.startSweep image bank).now = s.now ∧ (s.startSweep image bank).powerOns = s.powerOns
      ∧ (s.startSweep image bank).pending = s.pending ∧ (s.startSweep image bank).pins = s.pins
      ∧ (s.startSweep image bank).link = s.link ∧ (s.startSweep image bank).queue = s.queue
      ∧ (s.startSweep image bank).store = s.store ∧ (s.startSweep image bank).sc = s.sc
      ∧ (s.startSweep image bank).slots = s.slots ∧ (s.startSweep image bank).fill = s.fill
      ∧ (s.startSweep image bank).control = s.control ∧ (s.startSweep image bank).scan = s.scan
      ∧ (s.startSweep image bank).engine = s.engine ∧ (s.startSweep image bank).feeder = s.feeder
      ∧ (s.startSweep image bank).events = s.events ∧ (s.startSweep image bank).monitor = s.monitor := by
  simp [State.startSweep]

@[simp] theorem State.chooseBank_frame (n : Fin 8) (l : Nat) :
    (s.chooseBank n l).now = s.now ∧ (s.chooseBank n l).powerOns = s.powerOns
      ∧ (s.chooseBank n l).pending = s.pending ∧ (s.chooseBank n l).pins = s.pins ∧ (s.chooseBank n l).link = s.link
      ∧ (s.chooseBank n l).queue = s.queue ∧ (s.chooseBank n l).store = s.store ∧ (s.chooseBank n l).fill = s.fill
      ∧ (s.chooseBank n l).control = s.control ∧ (s.chooseBank n l).scan = s.scan
      ∧ (s.chooseBank n l).monitor = s.monitor := by
  simp only [State.chooseBank]; (repeat' split) <;> simp

@[simp] theorem State.imageSweep_frame (n : Fin 8) (l : Nat) (first out : Bool) :
    (s.imageSweep n l first out).now = s.now ∧ (s.imageSweep n l first out).powerOns = s.powerOns
      ∧ (s.imageSweep n l first out).pending = s.pending ∧ (s.imageSweep n l first out).pins = s.pins
      ∧ (s.imageSweep n l first out).link = s.link ∧ (s.imageSweep n l first out).queue = s.queue
      ∧ (s.imageSweep n l first out).store = s.store ∧ (s.imageSweep n l first out).fill = s.fill
      ∧ (s.imageSweep n l first out).control = s.control ∧ (s.imageSweep n l first out).scan = s.scan
      ∧ (s.imageSweep n l first out).monitor = s.monitor := by
  unfold State.imageSweep; (repeat' split) <;> simp

/-- A sweep begins (R112, R119): what it leaves. -/
@[simp] theorem State.beginSweep_frame (n : Fin 8) (out : Bool) :
    (s.beginSweep n out).now = s.now ∧ (s.beginSweep n out).powerOns = s.powerOns
      ∧ (s.beginSweep n out).pending = s.pending ∧ (s.beginSweep n out).pins = s.pins
      ∧ (s.beginSweep n out).link = s.link ∧ (s.beginSweep n out).queue = s.queue
      ∧ (s.beginSweep n out).store = s.store ∧ (s.beginSweep n out).fill = s.fill
      ∧ (s.beginSweep n out).control = s.control ∧ (s.beginSweep n out).scan = s.scan
      ∧ (s.beginSweep n out).monitor = s.monitor := by
  simp only [State.beginSweep]; (repeat' split) <;> simp

@[simp] theorem State.startFrame_frame (n : Fin 8) (out : Bool) :
    (s.startFrame n out).now = s.now ∧ (s.startFrame n out).powerOns = s.powerOns
      ∧ (s.startFrame n out).pending = s.pending ∧ (s.startFrame n out).pins = s.pins
      ∧ (s.startFrame n out).link = s.link ∧ (s.startFrame n out).queue = s.queue
      ∧ (s.startFrame n out).store = s.store ∧ (s.startFrame n out).fill = s.fill
      ∧ (s.startFrame n out).control = s.control ∧ (s.startFrame n out).scan = s.scan
      ∧ (s.startFrame n out).monitor = s.monitor := by
  simp [State.startFrame]

@[simp] theorem State.endFrame_frame (n : Fin 8) :
    (s.endFrame n).now = s.now ∧ (s.endFrame n).powerOns = s.powerOns ∧ (s.endFrame n).pending = s.pending
      ∧ (s.endFrame n).pins = s.pins ∧ (s.endFrame n).link = s.link ∧ (s.endFrame n).queue = s.queue
      ∧ (s.endFrame n).store = s.store ∧ (s.endFrame n).control = s.control ∧ (s.endFrame n).scan = s.scan
      ∧ (s.endFrame n).monitor = s.monitor := by
  simp [State.endFrame]

@[simp] theorem State.countExposed_frame (n : Fin 8) :
    (s.countExposed n).now = s.now ∧ (s.countExposed n).powerOns = s.powerOns
      ∧ (s.countExposed n).pending = s.pending ∧ (s.countExposed n).pins = s.pins ∧ (s.countExposed n).link = s.link
      ∧ (s.countExposed n).queue = s.queue ∧ (s.countExposed n).store = s.store ∧ (s.countExposed n).sc = s.sc
      ∧ (s.countExposed n).fill = s.fill ∧ (s.countExposed n).control = s.control ∧ (s.countExposed n).scan = s.scan
      ∧ (s.countExposed n).engine = s.engine ∧ (s.countExposed n).feeder = s.feeder
      ∧ (s.countExposed n).drive = s.drive ∧ (s.countExposed n).events = s.events
      ∧ (s.countExposed n).monitor = s.monitor := by
  simp only [State.countExposed]; (repeat' split) <;> simp

@[simp] theorem State.nextSweep_frame (n : Fin 8) (out : Bool) :
    (s.nextSweep n out).now = s.now ∧ (s.nextSweep n out).powerOns = s.powerOns
      ∧ (s.nextSweep n out).pending = s.pending ∧ (s.nextSweep n out).pins = s.pins
      ∧ (s.nextSweep n out).link = s.link ∧ (s.nextSweep n out).queue = s.queue
      ∧ (s.nextSweep n out).store = s.store ∧ (s.nextSweep n out).control = s.control
      ∧ (s.nextSweep n out).scan = s.scan ∧ (s.nextSweep n out).monitor = s.monitor := by
  simp only [State.nextSweep]; (repeat' split) <;> simp

/-- A pulse handed to the engine (R100): what it leaves. -/
@[simp] theorem State.takePulse_frame (out : Bool) :
    (s.takePulse out).now = s.now ∧ (s.takePulse out).powerOns = s.powerOns ∧ (s.takePulse out).pending = s.pending
      ∧ (s.takePulse out).pins = s.pins ∧ (s.takePulse out).link = s.link ∧ (s.takePulse out).queue = s.queue
      ∧ (s.takePulse out).store = s.store ∧ (s.takePulse out).control = s.control ∧ (s.takePulse out).scan = s.scan
      ∧ (s.takePulse out).monitor = s.monitor := by
  unfold State.takePulse; (repeat' split) <;> simp

@[simp] theorem State.readGranted_frame :
    (s.readGranted).now = s.now ∧ (s.readGranted).powerOns = s.powerOns ∧ (s.readGranted).pending = s.pending
      ∧ (s.readGranted).pins = s.pins ∧ (s.readGranted).queue = s.queue ∧ (s.readGranted).store = s.store
      ∧ (s.readGranted).sc = s.sc ∧ (s.readGranted).slots = s.slots ∧ (s.readGranted).fill = s.fill
      ∧ (s.readGranted).control = s.control ∧ (s.readGranted).scan = s.scan ∧ (s.readGranted).engine = s.engine
      ∧ (s.readGranted).feeder = s.feeder ∧ (s.readGranted).drive = s.drive ∧ (s.readGranted).events = s.events
      ∧ (s.readGranted).monitor = s.monitor := by
  unfold State.readGranted; (repeat' split) <;> simp

@[simp] theorem State.grantTo_frame (g : GrantUnit) :
    (s.grantTo g).now = s.now ∧ (s.grantTo g).powerOns = s.powerOns ∧ (s.grantTo g).pending = s.pending
      ∧ (s.grantTo g).pins = s.pins ∧ (s.grantTo g).queue = s.queue ∧ (s.grantTo g).store = s.store
      ∧ (s.grantTo g).slots = s.slots ∧ (s.grantTo g).fill = s.fill ∧ (s.grantTo g).control = s.control
      ∧ (s.grantTo g).scan = s.scan ∧ (s.grantTo g).engine = s.engine ∧ (s.grantTo g).feeder = s.feeder
      ∧ (s.grantTo g).drive = s.drive ∧ (s.grantTo g).events = s.events ∧ (s.grantTo g).monitor = s.monitor := by
  unfold State.grantTo; (repeat' split) <;> simp

/-- A grant decision (R156): what it leaves. -/
@[simp] theorem State.arbitrate_frame :
    (s.arbitrate).now = s.now ∧ (s.arbitrate).powerOns = s.powerOns ∧ (s.arbitrate).pending = s.pending
      ∧ (s.arbitrate).pins = s.pins ∧ (s.arbitrate).queue = s.queue ∧ (s.arbitrate).store = s.store
      ∧ (s.arbitrate).slots = s.slots ∧ (s.arbitrate).fill = s.fill ∧ (s.arbitrate).control = s.control
      ∧ (s.arbitrate).scan = s.scan ∧ (s.arbitrate).engine = s.engine ∧ (s.arbitrate).feeder = s.feeder
      ∧ (s.arbitrate).drive = s.drive ∧ (s.arbitrate).events = s.events ∧ (s.arbitrate).monitor = s.monitor := by
  unfold State.arbitrate; (repeat' split) <;> simp

@[simp] theorem State.endUnit_frame :
    (s.endUnit).now = s.now ∧ (s.endUnit).powerOns = s.powerOns ∧ (s.endUnit).pending = s.pending
      ∧ (s.endUnit).pins = s.pins ∧ (s.endUnit).queue = s.queue ∧ (s.endUnit).store = s.store
      ∧ (s.endUnit).slots = s.slots ∧ (s.endUnit).fill = s.fill ∧ (s.endUnit).control = s.control
      ∧ (s.endUnit).scan = s.scan ∧ (s.endUnit).engine = s.engine ∧ (s.endUnit).feeder = s.feeder
      ∧ (s.endUnit).drive = s.drive ∧ (s.endUnit).events = s.events ∧ (s.endUnit).monitor = s.monitor := by
  simp [State.endUnit]

@[simp] theorem State.dropBeat_frame :
    (s.dropBeat).now = s.now ∧ (s.dropBeat).powerOns = s.powerOns ∧ (s.dropBeat).pending = s.pending
      ∧ (s.dropBeat).pins = s.pins ∧ (s.dropBeat).link = s.link ∧ (s.dropBeat).store = s.store
      ∧ (s.dropBeat).slots = s.slots ∧ (s.dropBeat).fill = s.fill ∧ (s.dropBeat).control = s.control
      ∧ (s.dropBeat).scan = s.scan ∧ (s.dropBeat).engine = s.engine ∧ (s.dropBeat).feeder = s.feeder
      ∧ (s.dropBeat).drive = s.drive ∧ (s.dropBeat).events = s.events ∧ (s.dropBeat).monitor = s.monitor := by
  simp [State.dropBeat]

/-- The command result record (R146): what it leaves. -/
@[simp] theorem State.recordCommand_frame (o t : Byte) (r : CmdOutcome) :
    (s.recordCommand o t r).now = s.now ∧ (s.recordCommand o t r).powerOns = s.powerOns
      ∧ (s.recordCommand o t r).pending = s.pending ∧ (s.recordCommand o t r).pins = s.pins
      ∧ (s.recordCommand o t r).link = s.link ∧ (s.recordCommand o t r).queue = s.queue
      ∧ (s.recordCommand o t r).store = s.store ∧ (s.recordCommand o t r).sc = s.sc
      ∧ (s.recordCommand o t r).slots = s.slots ∧ (s.recordCommand o t r).fill = s.fill
      ∧ (s.recordCommand o t r).scan = s.scan ∧ (s.recordCommand o t r).engine = s.engine
      ∧ (s.recordCommand o t r).feeder = s.feeder ∧ (s.recordCommand o t r).drive = s.drive
      ∧ (s.recordCommand o t r).monitor = s.monitor := by
  simp [State.recordCommand]

@[simp] theorem State.seek_frame :
    (s.seek).now = s.now ∧ (s.seek).powerOns = s.powerOns ∧ (s.seek).pending = s.pending ∧ (s.seek).pins = s.pins
      ∧ (s.seek).link = s.link ∧ (s.seek).queue = s.queue ∧ (s.seek).store = s.store ∧ (s.seek).sc = s.sc
      ∧ (s.seek).slots = s.slots ∧ (s.seek).fill = s.fill ∧ (s.seek).control = s.control
      ∧ (s.seek).engine = s.engine ∧ (s.seek).feeder = s.feeder ∧ (s.seek).drive = s.drive
      ∧ (s.seek).monitor = s.monitor := by
  simp [State.seek]

@[simp] theorem State.slip_frame :
    (s.slip).now = s.now ∧ (s.slip).powerOns = s.powerOns ∧ (s.slip).pending = s.pending ∧ (s.slip).pins = s.pins
      ∧ (s.slip).link = s.link ∧ (s.slip).queue = s.queue ∧ (s.slip).store = s.store ∧ (s.slip).control = s.control
      ∧ (s.slip).monitor = s.monitor := by
  simp [State.slip]

@[simp] theorem State.loseLock_frame :
    (s.loseLock).now = s.now ∧ (s.loseLock).powerOns = s.powerOns ∧ (s.loseLock).pending = s.pending
      ∧ (s.loseLock).pins = s.pins ∧ (s.loseLock).link = s.link ∧ (s.loseLock).queue = s.queue
      ∧ (s.loseLock).store = s.store ∧ (s.loseLock).control = s.control ∧ (s.loseLock).monitor = s.monitor := by
  simp [State.loseLock]

@[simp] theorem State.applyJudgement_frame (j : Judgement) :
    (s.applyJudgement j).now = s.now ∧ (s.applyJudgement j).powerOns = s.powerOns
      ∧ (s.applyJudgement j).pending = s.pending ∧ (s.applyJudgement j).pins = s.pins
      ∧ (s.applyJudgement j).link = s.link ∧ (s.applyJudgement j).queue = s.queue
      ∧ (s.applyJudgement j).store = s.store ∧ (s.applyJudgement j).control = s.control
      ∧ (s.applyJudgement j).monitor = s.monitor := by
  simp only [State.applyJudgement]; (repeat' split) <;> simp

@[simp] theorem State.measure_frame :
    (s.measure).now = s.now ∧ (s.measure).powerOns = s.powerOns ∧ (s.measure).pending = s.pending
      ∧ (s.measure).pins = s.pins ∧ (s.measure).link = s.link ∧ (s.measure).queue = s.queue
      ∧ (s.measure).store = s.store ∧ (s.measure).sc = s.sc ∧ (s.measure).slots = s.slots
      ∧ (s.measure).fill = s.fill ∧ (s.measure).control = s.control ∧ (s.measure).engine = s.engine
      ∧ (s.measure).feeder = s.feeder ∧ (s.measure).drive = s.drive ∧ (s.measure).events = s.events
      ∧ (s.measure).monitor = s.monitor := by
  simp [State.measure]

/-! ## LD and LSTB (R31) -/

/-- What a grant decision leaves of the link: all but the wish of the open read. -/
theorem State.arbitrate_link : s.arbitrate.link = { s.link with txn := s.arbitrate.link.txn } := by
  have r : ∀ u : State, u.readGranted.link = { u.link with txn := u.readGranted.link.txn } := fun u => by
    unfold State.readGranted; split <;> rfl
  unfold State.arbitrate State.grantTo
  (repeat' split) <;> first | rfl | exact r _

/-- What a grant decision leaves of the Store Controller: all but the unit that holds the store. -/
theorem State.arbitrate_sc : s.arbitrate.sc = { s.sc with grant := s.arbitrate.sc.grant } := by
  unfold State.arbitrate State.grantTo
  (repeat' split) <;> first | rfl | simp

/-- A unit that holds the store keeps it: the decision waits for its end (R157). -/
theorem State.arbitrate_held {g : Grant} (h : s.sc.grant = some g) : s.arbitrate = s := by
  simp [State.arbitrate, h]

/-- A grant decision leaves the beat on LD. -/
@[simp] theorem State.arbitrate_ld : s.arbitrate.link.ld = s.link.ld := by rw [State.arbitrate_link]

/-- The end of a unit leaves the beat on LD. -/
@[simp] theorem State.endUnit_ld : s.endUnit.link.ld = s.link.ld := by simp [State.endUnit]

/-- LSTB is high exactly at the tick of the last beat. -/
theorem State.lstb_iff : s.lstb = true ↔ ∃ x ∈ s.link.ld, x.tick = s.now := by
  unfold State.lstb State.ldWord
  cases s.link.ld <;> simp

/-- The word on LD at the tick of its beat. -/
theorem State.ldWord_of_beat {w : Word} (h : s.link.ld = some ⟨w, s.now⟩) : s.ldWord = some w := by
  simp [State.ldWord, h]

/-- LD and LSTB follow from the link's last beat and the tick. -/
theorem State.ldWord_congr {s t : State} (h : t.link.ld = s.link.ld) (hn : t.now = s.now) : t.ldWord = s.ldWord := by
  unfold State.ldWord; rw [h, hn]

end Sys2Proof.Machine
end

