-- ==== Sys2Proof/Laws/Reads.lean ====
section
/-! SUPPORT. Damage that arises, and the checked reads of one operation: what they leave, and that the damage marks
follow from the monitor alone. -/

namespace Sys2Proof.Machine

/-- Damage arises in the protected memories: what it leaves. -/
@[simp] theorem State.arise_frame (s : State) (ds : List Damage) :
    (s.arise ds).now = s.now ∧ (s.arise ds).powerOns = s.powerOns ∧ (s.arise ds).pending = s.pending
      ∧ (s.arise ds).pins = s.pins ∧ (s.arise ds).link = s.link ∧ (s.arise ds).queue = s.queue
      ∧ (s.arise ds).store = s.store ∧ (s.arise ds).sc = s.sc ∧ (s.arise ds).slots = s.slots
      ∧ (s.arise ds).fill = s.fill ∧ (s.arise ds).control = s.control ∧ (s.arise ds).scan = s.scan
      ∧ (s.arise ds).engine = s.engine ∧ (s.arise ds).feeder = s.feeder ∧ (s.arise ds).drive = s.drive
      ∧ (s.arise ds).events = s.events := by
  induction ds generalizing s with
  | nil => simp [State.arise]
  | cons d ds ih => simpa [State.arise] using ih (s.damageEntry d)

/-- The checks of one operation's reads: what they leave. -/
@[simp] theorem State.checkReads_frame (s : State) (reads : List (Mem × Nat)) :
    (s.checkReads reads).now = s.now ∧ (s.checkReads reads).powerOns = s.powerOns
      ∧ (s.checkReads reads).pending = s.pending ∧ (s.checkReads reads).pins = s.pins
      ∧ (s.checkReads reads).link = s.link ∧ (s.checkReads reads).queue = s.queue
      ∧ (s.checkReads reads).store = s.store ∧ (s.checkReads reads).sc = s.sc ∧ (s.checkReads reads).slots = s.slots
      ∧ (s.checkReads reads).fill = s.fill ∧ (s.checkReads reads).control = s.control
      ∧ (s.checkReads reads).scan = s.scan ∧ (s.checkReads reads).engine = s.engine
      ∧ (s.checkReads reads).feeder = s.feeder ∧ (s.checkReads reads).drive = s.drive := by
  induction reads generalizing s with
  | nil => simp [State.checkReads]
  | cons r reads ih => simpa [State.checkReads] using ih (s.checkRead r.1 r.2)

/-- An entry written afresh has no damage left, and every other entry is as it was (R162). -/
theorem State.harmAt_refreshEntry (s : State) (m m' : Mem) (e e' : Nat) :
    (s.refreshEntry m e).harmAt m' e' = if m' = m ∧ e' = e then none else s.harmAt m' e' := by
  unfold State.harmAt State.refreshEntry
  simp only [State.setMonitor_monitor, List.find?_filter]
  split
  · rename_i h
    obtain ⟨rfl, rfl⟩ := h
    rw [List.find?_eq_none.2]
    · rfl
    · intro d _
      simp
      tauto
  · rename_i h
    congr 2
    funext d
    by_cases hd : d.mem = m' ∧ d.entry = e'
    · obtain ⟨rfl, rfl⟩ := hd
      simp only [not_and] at h
      by_cases hm : d.mem = m <;> simp [hm, h]
    · rw [not_and_or] at hd
      rcases hd with hd | hd <;> simp [hd]

/-- The marks of one damaged entry follow from the monitor alone. -/
theorem State.damageEntry_congr (s t : State) (d : Damage) (h : s.monitor = t.monitor) :
    (s.damageEntry d).monitor = (t.damageEntry d).monitor := by
  unfold State.damageEntry State.harmAt State.refreshEntry State.setMonitor
  rw [h]
  split <;> simp_all

/-- The marks of the damage that has arisen follow from the monitor alone. -/
theorem State.arise_congr (s t : State) (ds : List Damage) (h : s.monitor = t.monitor) :
    (s.arise ds).monitor = (t.arise ds).monitor := by
  induction ds generalizing s t with
  | nil => exact h
  | cons d ds ih => exact ih _ _ (State.damageEntry_congr s t d h)

end Sys2Proof.Machine
end

