-- ==== Sys2Proof/Laws/Slots.lean ====
section
/-! SUPPORT. One record of a table after an update of one record: slots, coverage, banks, indication records. -/

namespace Sys2Proof.Machine

variable (s : State)

/-- A slot record after one was replaced. -/
theorem State.slot_setSlot (n m : Fin 8) (x : Slot) : (s.setSlot n x).slot m = if m = n then x else s.slot m := by
  unfold State.slot State.setSlot State.setSlots
  by_cases h : m = n
  · subst h; simp
  · have : n.val ≠ m.val := fun e => h (Fin.ext e.symm)
    simp [h, Vector.getElem_set_ne _ _ this]

@[simp] theorem State.slot_setSlot_same (n : Fin 8) (x : Slot) : (s.setSlot n x).slot n = x := by
  simp [State.slot_setSlot]

@[simp] theorem State.setSlot_queue (n : Fin 8) (x : Slot) : (s.setSlot n x).slots.queue = s.slots.queue := rfl
@[simp] theorem State.setSlot_usersA (n : Fin 8) (x : Slot) : (s.setSlot n x).slots.usersA = s.slots.usersA := rfl
@[simp] theorem State.setSlot_usersB (n : Fin 8) (x : Slot) : (s.setSlot n x).slots.usersB = s.slots.usersB := rfl
@[simp] theorem State.setSlot_cover (n m : Fin 8) (x : Slot) : (s.setSlot n x).cover m = s.cover m := rfl

/-- A coverage record after one was replaced. -/
theorem State.cover_setFill (n m : Fin 8) (c : Coverage) (k : Nat) :
    (s.setFill ⟨s.fill.cover.set n c, k⟩).cover m = if m = n then c else s.cover m := by
  unfold State.cover State.setFill
  by_cases h : m = n
  · subst h; simp
  · have : n.val ≠ m.val := fun e => h (Fin.ext e.symm)
    simp [h, Vector.getElem_set_ne _ _ this]

/-- A coverage record after one was replaced. -/
theorem State.cover_setCover (n m : Fin 8) (c : Coverage) :
    (s.setCover n c).cover m = if m = n then c else s.cover m := s.cover_setFill n m c s.fill.free

@[simp] theorem State.setCover_free (n : Fin 8) (c : Coverage) : (s.setCover n c).fill.free = s.fill.free := rfl

/-- A coverage record after the runs of one slot returned to the pool. -/
theorem State.cover_freeRuns (n m : Fin 8) :
    (s.freeRuns n).cover m = if m = n then { s.cover n with runs := [] } else s.cover m :=
  s.cover_setFill n m _ _

@[simp] theorem State.freeRuns_free (n : Fin 8) : (s.freeRuns n).fill.free = s.fill.free + (s.cover n).runs.length := rfl

/-- A line bank after one was replaced. -/
theorem State.bank_setBank (b c : Fin 2) (x : Bank) : (s.setBank b x).bank c = if c = b then x else s.bank c := by
  unfold State.bank State.setBank State.setFeeder
  by_cases h : c = b
  · subst h; simp
  · have : b.val ≠ c.val := fun e => h (Fin.ext e.symm)
    simp [h, Vector.getElem_set_ne _ _ this]

@[simp] theorem State.setBank_target (b : Fin 2) (x : Bank) : (s.setBank b x).feeder.target = s.feeder.target := rfl
@[simp] theorem State.setBank_fetch (b : Fin 2) (x : Bank) : (s.setBank b x).feeder.fetch = s.feeder.fetch := rfl

/-- An indication record after one was replaced. -/
theorem State.record_setRecord (i j : Fin 8) (r : Indication) :
    (s.setRecord i r).record j = if j = i then r else s.record j := by
  unfold State.record State.setRecord State.setMonitor
  by_cases h : j = i
  · subst h; simp
  · have : i.val ≠ j.val := fun e => h (Fin.ext e.symm)
    simp [h, Vector.getElem_set_ne _ _ this]

/-- A user count after one was raised. -/
theorem State.users_addUser (x y : StockSet) : (s.addUser x).users y = if y = x then s.users y + 1 else s.users y := by
  cases x <;> cases y <;> rfl

/-- A user count after one was lowered. -/
theorem State.users_dropUser (x y : StockSet) :
    (s.dropUser x).users y = if y = x then s.users y - 1 else s.users y := by
  cases x <;> cases y <;> rfl

@[simp] theorem State.slot_addUser (x : StockSet) (n : Fin 8) : (s.addUser x).slot n = s.slot n := by cases x <;> rfl
@[simp] theorem State.slot_dropUser (x : StockSet) (n : Fin 8) : (s.dropUser x).slot n = s.slot n := by cases x <;> rfl
@[simp] theorem State.slot_dequeueSlot (m n : Fin 8) : (s.dequeueSlot m).slot n = s.slot n := rfl
@[simp] theorem State.users_dequeueSlot (m : Fin 8) (y : StockSet) : (s.dequeueSlot m).users y = s.users y := by
  cases y <;> rfl
@[simp] theorem State.users_setSlot (n : Fin 8) (x : Slot) (y : StockSet) : (s.setSlot n x).users y = s.users y := by
  cases y <;> rfl
@[simp] theorem State.slot_freeRuns (m n : Fin 8) : (s.freeRuns m).slot n = s.slot n := rfl
@[simp] theorem State.queue_dropUser (x : StockSet) : (s.dropUser x).slots.queue = s.slots.queue := by cases x <;> rfl
@[simp] theorem State.queue_addUser (x : StockSet) : (s.addUser x).slots.queue = s.slots.queue := by cases x <;> rfl
@[simp] theorem State.queue_dequeueSlot (n : Fin 8) :
    (s.dequeueSlot n).slots.queue = s.slots.queue.filter (fun m => m != n) := rfl

/-- What leaving the queue does to the slots (R8, R9, R18). -/
theorem State.leaveQueue_slots (n : Fin 8) :
    (∀ m, (s.leaveQueue n).slot m = s.slot m)
      ∧ (s.leaveQueue n).slots.queue = s.slots.queue.filter (fun m => m != n)
      ∧ (∀ y, (s.leaveQueue n).users y = if y = (s.slot n).stock then s.users y - 1 else s.users y)
      ∧ (∀ m, (s.leaveQueue n).cover m = if m = n then { s.cover n with runs := [] } else s.cover m)
      ∧ (s.leaveQueue n).fill.free = s.fill.free + (s.cover n).runs.length := by
  unfold State.leaveQueue
  have hc : ∀ m, ((s.dequeueSlot n).dropUser (s.slot n).stock).cover m = s.cover m := by
    intro m; unfold State.cover; simp
  refine ⟨fun m => by simp, by simp, fun y => ?_, fun m => ?_, ?_⟩
  · have : (((s.dequeueSlot n).dropUser (s.slot n).stock).freeRuns n).users y
        = ((s.dequeueSlot n).dropUser (s.slot n).stock).users y := by cases y <;> rfl
    rw [this, State.users_dropUser]; simp
  · rw [State.cover_freeRuns, hc, hc]
  · rw [State.freeRuns_free, hc]; simp

end Sys2Proof.Machine
end

