-- ==== Sys2Proof/Laws/Accessors.lean ====
section
/-! SUPPORT. What each shared operation leaves of the named reads of the state (slot records, user counts, coverage
records, banks, sticky bits, table states, EXPO, Z, CB, store bytes): one lemma per operation and read, from the frames. -/

namespace Sys2Proof.Machine

variable (s : State)

@[simp] theorem State.slot_of_raise (i : Source) (j : Fin 8) : (s.raise i).slot j = s.slot j := by simp [State.slot]
@[simp] theorem State.users_of_raise (i : Source) (y : StockSet) : (s.raise i).users y = s.users y := by cases y <;> simp [State.users]
@[simp] theorem State.cover_of_raise (i : Source) (j : Fin 8) : (s.raise i).cover j = s.cover j := by simp [State.cover]
@[simp] theorem State.bank_of_raise (i : Source) (j : Fin 2) : (s.raise i).bank j = s.bank j := by simp [State.bank]
@[simp] theorem State.tableState_of_raise (i : Source) (v : TableUnit) : (s.raise i).tableState v = s.tableState v := by simp [State.tableState]
@[simp] theorem State.expo_of_raise (i : Source) : (s.raise i).expo = s.expo := by simp [State.expo]
@[simp] theorem State.storeWords_of_raise (i : Source) : (s.raise i).storeWords = s.storeWords := by simp [State.storeWords]
@[simp] theorem State.controlBase_of_raise (i : Source) : (s.raise i).controlBase = s.controlBase := by simp [State.controlBase, State.storeWords]
@[simp] theorem State.storeByte_of_raise (i : Source) (cell : Nat) : (s.raise i).storeByte cell = s.storeByte cell := by apply State.storeByte_congr <;> simp
@[simp] theorem State.slot_of_raiseIf (b : Bool) (i : Source) (j : Fin 8) : (s.raiseIf b i).slot j = s.slot j := by simp [State.slot]
@[simp] theorem State.users_of_raiseIf (b : Bool) (i : Source) (y : StockSet) : (s.raiseIf b i).users y = s.users y := by cases y <;> simp [State.users]
@[simp] theorem State.cover_of_raiseIf (b : Bool) (i : Source) (j : Fin 8) : (s.raiseIf b i).cover j = s.cover j := by simp [State.cover]
@[simp] theorem State.bank_of_raiseIf (b : Bool) (i : Source) (j : Fin 2) : (s.raiseIf b i).bank j = s.bank j := by simp [State.bank]
@[simp] theorem State.tableState_of_raiseIf (b : Bool) (i : Source) (v : TableUnit) : (s.raiseIf b i).tableState v = s.tableState v := by simp [State.tableState]
@[simp] theorem State.expo_of_raiseIf (b : Bool) (i : Source) : (s.raiseIf b i).expo = s.expo := by simp [State.expo]
@[simp] theorem State.storeWords_of_raiseIf (b : Bool) (i : Source) : (s.raiseIf b i).storeWords = s.storeWords := by simp [State.storeWords]
@[simp] theorem State.controlBase_of_raiseIf (b : Bool) (i : Source) : (s.raiseIf b i).controlBase = s.controlBase := by simp [State.controlBase, State.storeWords]
@[simp] theorem State.storeByte_of_raiseIf (b : Bool) (i : Source) (cell : Nat) : (s.raiseIf b i).storeByte cell = s.storeByte cell := by apply State.storeByte_congr <;> simp
@[simp] theorem State.slot_of_stick (i : Source) (j : Fin 8) : (s.stick i).slot j = s.slot j := by simp [State.slot]
@[simp] theorem State.users_of_stick (i : Source) (y : StockSet) : (s.stick i).users y = s.users y := by cases y <;> simp [State.users]
@[simp] theorem State.cover_of_stick (i : Source) (j : Fin 8) : (s.stick i).cover j = s.cover j := by simp [State.cover]
@[simp] theorem State.bank_of_stick (i : Source) (j : Fin 2) : (s.stick i).bank j = s.bank j := by simp [State.bank]
@[simp] theorem State.tableState_of_stick (i : Source) (v : TableUnit) : (s.stick i).tableState v = s.tableState v := by simp [State.tableState]
@[simp] theorem State.expo_of_stick (i : Source) : (s.stick i).expo = s.expo := by simp [State.expo]
@[simp] theorem State.storeWords_of_stick (i : Source) : (s.stick i).storeWords = s.storeWords := by simp [State.storeWords]
@[simp] theorem State.controlBase_of_stick (i : Source) : (s.stick i).controlBase = s.controlBase := by simp [State.controlBase, State.storeWords]
@[simp] theorem State.storeByte_of_stick (i : Source) (cell : Nat) : (s.stick i).storeByte cell = s.storeByte cell := by apply State.storeByte_congr <;> simp
@[simp] theorem State.slot_of_levelFrom (i : Source) (was : Bool) (j : Fin 8) : (s.levelFrom i was).slot j = s.slot j := by simp [State.slot]
@[simp] theorem State.users_of_levelFrom (i : Source) (was : Bool) (y : StockSet) : (s.levelFrom i was).users y = s.users y := by cases y <;> simp [State.users]
@[simp] theorem State.cover_of_levelFrom (i : Source) (was : Bool) (j : Fin 8) : (s.levelFrom i was).cover j = s.cover j := by simp [State.cover]
@[simp] theorem State.bank_of_levelFrom (i : Source) (was : Bool) (j : Fin 2) : (s.levelFrom i was).bank j = s.bank j := by simp [State.bank]
@[simp] theorem State.tableState_of_levelFrom (i : Source) (was : Bool) (v : TableUnit) : (s.levelFrom i was).tableState v = s.tableState v := by simp [State.tableState]
@[simp] theorem State.expo_of_levelFrom (i : Source) (was : Bool) : (s.levelFrom i was).expo = s.expo := by simp [State.expo]
@[simp] theorem State.storeWords_of_levelFrom (i : Source) (was : Bool) : (s.levelFrom i was).storeWords = s.storeWords := by simp [State.storeWords]
@[simp] theorem State.controlBase_of_levelFrom (i : Source) (was : Bool) : (s.levelFrom i was).controlBase = s.controlBase := by simp [State.controlBase, State.storeWords]
@[simp] theorem State.storeByte_of_levelFrom (i : Source) (was : Bool) (cell : Nat) : (s.levelFrom i was).storeByte cell = s.storeByte cell := by apply State.storeByte_congr <;> simp
@[simp] theorem State.slot_of_resample (j : Fin 8) : (s.resample).slot j = s.slot j := by simp [State.slot]
@[simp] theorem State.users_of_resample (y : StockSet) : (s.resample).users y = s.users y := by cases y <;> simp [State.users]
@[simp] theorem State.cover_of_resample (j : Fin 8) : (s.resample).cover j = s.cover j := by simp [State.cover]
@[simp] theorem State.bank_of_resample (j : Fin 2) : (s.resample).bank j = s.bank j := by simp [State.bank]
@[simp] theorem State.tableState_of_resample (v : TableUnit) : (s.resample).tableState v = s.tableState v := by simp [State.tableState]
@[simp] theorem State.expo_of_resample : (s.resample).expo = s.expo := by simp [State.expo]
@[simp] theorem State.storeWords_of_resample : (s.resample).storeWords = s.storeWords := by simp [State.storeWords]
@[simp] theorem State.controlBase_of_resample : (s.resample).controlBase = s.controlBase := by simp [State.controlBase, State.storeWords]
@[simp] theorem State.storeByte_of_resample (cell : Nat) : (s.resample).storeByte cell = s.storeByte cell := by apply State.storeByte_congr <;> simp
@[simp] theorem State.slot_of_setScanState (x : ScanState) (j : Fin 8) : (s.setScanState x).slot j = s.slot j := by simp [State.slot]
@[simp] theorem State.users_of_setScanState (x : ScanState) (y : StockSet) : (s.setScanState x).users y = s.users y := by cases y <;> simp [State.users]
@[simp] theorem State.cover_of_setScanState (x : ScanState) (j : Fin 8) : (s.setScanState x).cover j = s.cover j := by simp [State.cover]
@[simp] theorem State.bank_of_setScanState (x : ScanState) (j : Fin 2) : (s.setScanState x).bank j = s.bank j := by simp [State.bank]
@[simp] theorem State.tableState_of_setScanState (x : ScanState) (v : TableUnit) : (s.setScanState x).tableState v = s.tableState v := by simp [State.tableState]
@[simp] theorem State.expo_of_setScanState (x : ScanState) : (s.setScanState x).expo = s.expo := by simp [State.expo]
@[simp] theorem State.storeWords_of_setScanState (x : ScanState) : (s.setScanState x).storeWords = s.storeWords := by simp [State.storeWords]
@[simp] theorem State.controlBase_of_setScanState (x : ScanState) : (s.setScanState x).controlBase = s.controlBase := by simp [State.controlBase, State.storeWords]
@[simp] theorem State.storeByte_of_setScanState (x : ScanState) (cell : Nat) : (s.setScanState x).storeByte cell = s.storeByte cell := by apply State.storeByte_congr <;> simp
@[simp] theorem State.slot_of_setInterlock (x : Bool) (j : Fin 8) : (s.setInterlock x).slot j = s.slot j := by simp [State.slot]
@[simp] theorem State.users_of_setInterlock (x : Bool) (y : StockSet) : (s.setInterlock x).users y = s.users y := by cases y <;> simp [State.users]
@[simp] theorem State.cover_of_setInterlock (x : Bool) (j : Fin 8) : (s.setInterlock x).cover j = s.cover j := by simp [State.cover]
@[simp] theorem State.bank_of_setInterlock (x : Bool) (j : Fin 2) : (s.setInterlock x).bank j = s.bank j := by simp [State.bank]
@[simp] theorem State.tableState_of_setInterlock (x : Bool) (v : TableUnit) : (s.setInterlock x).tableState v = s.tableState v := by simp [State.tableState]
@[simp] theorem State.expo_of_setInterlock (x : Bool) : (s.setInterlock x).expo = s.expo := by simp [State.expo]
@[simp] theorem State.storeWords_of_setInterlock (x : Bool) : (s.setInterlock x).storeWords = s.storeWords := by simp [State.storeWords]
@[simp] theorem State.controlBase_of_setInterlock (x : Bool) : (s.setInterlock x).controlBase = s.controlBase := by simp [State.controlBase, State.storeWords]
@[simp] theorem State.storeByte_of_setInterlock (x : Bool) (cell : Nat) : (s.setInterlock x).storeByte cell = s.storeByte cell := by apply State.storeByte_congr <;> simp
@[simp] theorem State.slot_of_indicateSweep (j : Fin 8) : (s.indicateSweep).slot j = s.slot j := by simp [State.slot]
@[simp] theorem State.users_of_indicateSweep (y : StockSet) : (s.indicateSweep).users y = s.users y := by cases y <;> simp [State.users]
@[simp] theorem State.cover_of_indicateSweep (j : Fin 8) : (s.indicateSweep).cover j = s.cover j := by simp [State.cover]
@[simp] theorem State.bank_of_indicateSweep (j : Fin 2) : (s.indicateSweep).bank j = s.bank j := by simp [State.bank]
@[simp] theorem State.tableState_of_indicateSweep (v : TableUnit) : (s.indicateSweep).tableState v = s.tableState v := by simp [State.tableState]
@[simp] theorem State.expo_of_indicateSweep : (s.indicateSweep).expo = s.expo := by simp [State.expo]
@[simp] theorem State.storeWords_of_indicateSweep : (s.indicateSweep).storeWords = s.storeWords := by simp [State.storeWords]
@[simp] theorem State.controlBase_of_indicateSweep : (s.indicateSweep).controlBase = s.controlBase := by simp [State.controlBase, State.storeWords]
@[simp] theorem State.storeByte_of_indicateSweep (cell : Nat) : (s.indicateSweep).storeByte cell = s.storeByte cell := by apply State.storeByte_congr <;> simp
@[simp] theorem State.slot_of_indicateFrameStart (j : Fin 8) : (s.indicateFrameStart).slot j = s.slot j := by simp [State.slot]
@[simp] theorem State.users_of_indicateFrameStart (y : StockSet) : (s.indicateFrameStart).users y = s.users y := by cases y <;> simp [State.users]
@[simp] theorem State.cover_of_indicateFrameStart (j : Fin 8) : (s.indicateFrameStart).cover j = s.cover j := by simp [State.cover]
@[simp] theorem State.bank_of_indicateFrameStart (j : Fin 2) : (s.indicateFrameStart).bank j = s.bank j := by simp [State.bank]
@[simp] theorem State.tableState_of_indicateFrameStart (v : TableUnit) : (s.indicateFrameStart).tableState v = s.tableState v := by simp [State.tableState]
@[simp] theorem State.expo_of_indicateFrameStart : (s.indicateFrameStart).expo = s.expo := by simp [State.expo]
@[simp] theorem State.storeWords_of_indicateFrameStart : (s.indicateFrameStart).storeWords = s.storeWords := by simp [State.storeWords]
@[simp] theorem State.controlBase_of_indicateFrameStart : (s.indicateFrameStart).controlBase = s.controlBase := by simp [State.controlBase, State.storeWords]
@[simp] theorem State.storeByte_of_indicateFrameStart (cell : Nat) : (s.indicateFrameStart).storeByte cell = s.storeByte cell := by apply State.storeByte_congr <;> simp
@[simp] theorem State.slot_of_reportSweep (j : Fin 8) : (s.reportSweep).slot j = s.slot j := by simp [State.slot]
@[simp] theorem State.users_of_reportSweep (y : StockSet) : (s.reportSweep).users y = s.users y := by cases y <;> simp [State.users]
@[simp] theorem State.cover_of_reportSweep (j : Fin 8) : (s.reportSweep).cover j = s.cover j := by simp [State.cover]
@[simp] theorem State.bank_of_reportSweep (j : Fin 2) : (s.reportSweep).bank j = s.bank j := by simp [State.bank]
@[simp] theorem State.tableState_of_reportSweep (v : TableUnit) : (s.reportSweep).tableState v = s.tableState v := by simp [State.tableState]
@[simp] theorem State.expo_of_reportSweep : (s.reportSweep).expo = s.expo := by simp [State.expo]
@[simp] theorem State.storeWords_of_reportSweep : (s.reportSweep).storeWords = s.storeWords := by simp [State.storeWords]
@[simp] theorem State.controlBase_of_reportSweep : (s.reportSweep).controlBase = s.controlBase := by simp [State.controlBase, State.storeWords]
@[simp] theorem State.storeByte_of_reportSweep (cell : Nat) : (s.reportSweep).storeByte cell = s.storeByte cell := by apply State.storeByte_congr <;> simp
@[simp] theorem State.cover_of_setSlot (n : Fin 8) (x : Slot) (j : Fin 8) : (s.setSlot n x).cover j = s.cover j := by simp [State.cover]
@[simp] theorem State.bank_of_setSlot (n : Fin 8) (x : Slot) (j : Fin 2) : (s.setSlot n x).bank j = s.bank j := by simp [State.bank]
@[simp] theorem State.stuck_of_setSlot (n : Fin 8) (x : Slot) (k : Source) : (s.setSlot n x).stuck k = s.stuck k := by simp [State.stuck]
@[simp] theorem State.tableState_of_setSlot (n : Fin 8) (x : Slot) (v : TableUnit) : (s.setSlot n x).tableState v = s.tableState v := by simp [State.tableState]
@[simp] theorem State.expo_of_setSlot (n : Fin 8) (x : Slot) : (s.setSlot n x).expo = s.expo := by simp [State.expo]
@[simp] theorem State.storeWords_of_setSlot (n : Fin 8) (x : Slot) : (s.setSlot n x).storeWords = s.storeWords := by simp [State.storeWords]
@[simp] theorem State.controlBase_of_setSlot (n : Fin 8) (x : Slot) : (s.setSlot n x).controlBase = s.controlBase := by simp [State.controlBase, State.storeWords]
@[simp] theorem State.storeByte_of_setSlot (n : Fin 8) (x : Slot) (cell : Nat) : (s.setSlot n x).storeByte cell = s.storeByte cell := by apply State.storeByte_congr <;> simp
@[simp] theorem State.slot_of_setCover (n : Fin 8) (x : Coverage) (j : Fin 8) : (s.setCover n x).slot j = s.slot j := by simp [State.slot]
@[simp] theorem State.users_of_setCover (n : Fin 8) (x : Coverage) (y : StockSet) : (s.setCover n x).users y = s.users y := by cases y <;> simp [State.users]
@[simp] theorem State.bank_of_setCover (n : Fin 8) (x : Coverage) (j : Fin 2) : (s.setCover n x).bank j = s.bank j := by simp [State.bank]
@[simp] theorem State.stuck_of_setCover (n : Fin 8) (x : Coverage) (k : Source) : (s.setCover n x).stuck k = s.stuck k := by simp [State.stuck]
@[simp] theorem State.tableState_of_setCover (n : Fin 8) (x : Coverage) (v : TableUnit) : (s.setCover n x).tableState v = s.tableState v := by simp [State.tableState]
@[simp] theorem State.expo_of_setCover (n : Fin 8) (x : Coverage) : (s.setCover n x).expo = s.expo := by simp [State.expo]
@[simp] theorem State.storeWords_of_setCover (n : Fin 8) (x : Coverage) : (s.setCover n x).storeWords = s.storeWords := by simp [State.storeWords]
@[simp] theorem State.controlBase_of_setCover (n : Fin 8) (x : Coverage) : (s.setCover n x).controlBase = s.controlBase := by simp [State.controlBase, State.storeWords]
@[simp] theorem State.storeByte_of_setCover (n : Fin 8) (x : Coverage) (cell : Nat) : (s.setCover n x).storeByte cell = s.storeByte cell := by apply State.storeByte_congr <;> simp
@[simp] theorem State.slot_of_freeRuns (n : Fin 8) (j : Fin 8) : (s.freeRuns n).slot j = s.slot j := by simp [State.slot]
@[simp] theorem State.users_of_freeRuns (n : Fin 8) (y : StockSet) : (s.freeRuns n).users y = s.users y := by cases y <;> simp [State.users]
@[simp] theorem State.bank_of_freeRuns (n : Fin 8) (j : Fin 2) : (s.freeRuns n).bank j = s.bank j := by simp [State.bank]
@[simp] theorem State.stuck_of_freeRuns (n : Fin 8) (k : Source) : (s.freeRuns n).stuck k = s.stuck k := by simp [State.stuck]
@[simp] theorem State.tableState_of_freeRuns (n : Fin 8) (v : TableUnit) : (s.freeRuns n).tableState v = s.tableState v := by simp [State.tableState]
@[simp] theorem State.expo_of_freeRuns (n : Fin 8) : (s.freeRuns n).expo = s.expo := by simp [State.expo]
@[simp] theorem State.storeWords_of_freeRuns (n : Fin 8) : (s.freeRuns n).storeWords = s.storeWords := by simp [State.storeWords]
@[simp] theorem State.controlBase_of_freeRuns (n : Fin 8) : (s.freeRuns n).controlBase = s.controlBase := by simp [State.controlBase, State.storeWords]
@[simp] theorem State.storeByte_of_freeRuns (n : Fin 8) (cell : Nat) : (s.freeRuns n).storeByte cell = s.storeByte cell := by apply State.storeByte_congr <;> simp
@[simp] theorem State.cover_of_addUser (x : StockSet) (j : Fin 8) : (s.addUser x).cover j = s.cover j := by simp [State.cover]
@[simp] theorem State.bank_of_addUser (x : StockSet) (j : Fin 2) : (s.addUser x).bank j = s.bank j := by simp [State.bank]
@[simp] theorem State.stuck_of_addUser (x : StockSet) (k : Source) : (s.addUser x).stuck k = s.stuck k := by simp [State.stuck]
@[simp] theorem State.tableState_of_addUser (x : StockSet) (v : TableUnit) : (s.addUser x).tableState v = s.tableState v := by simp [State.tableState]
@[simp] theorem State.expo_of_addUser (x : StockSet) : (s.addUser x).expo = s.expo := by simp [State.expo]
@[simp] theorem State.storeWords_of_addUser (x : StockSet) : (s.addUser x).storeWords = s.storeWords := by simp [State.storeWords]
@[simp] theorem State.controlBase_of_addUser (x : StockSet) : (s.addUser x).controlBase = s.controlBase := by simp [State.controlBase, State.storeWords]
@[simp] theorem State.storeByte_of_addUser (x : StockSet) (cell : Nat) : (s.addUser x).storeByte cell = s.storeByte cell := by apply State.storeByte_congr <;> simp
@[simp] theorem State.cover_of_dropUser (x : StockSet) (j : Fin 8) : (s.dropUser x).cover j = s.cover j := by simp [State.cover]
@[simp] theorem State.bank_of_dropUser (x : StockSet) (j : Fin 2) : (s.dropUser x).bank j = s.bank j := by simp [State.bank]
@[simp] theorem State.stuck_of_dropUser (x : StockSet) (k : Source) : (s.dropUser x).stuck k = s.stuck k := by simp [State.stuck]
@[simp] theorem State.tableState_of_dropUser (x : StockSet) (v : TableUnit) : (s.dropUser x).tableState v = s.tableState v := by simp [State.tableState]
@[simp] theorem State.expo_of_dropUser (x : StockSet) : (s.dropUser x).expo = s.expo := by simp [State.expo]
@[simp] theorem State.storeWords_of_dropUser (x : StockSet) : (s.dropUser x).storeWords = s.storeWords := by simp [State.storeWords]
@[simp] theorem State.controlBase_of_dropUser (x : StockSet) : (s.dropUser x).controlBase = s.controlBase := by simp [State.controlBase, State.storeWords]
@[simp] theorem State.storeByte_of_dropUser (x : StockSet) (cell : Nat) : (s.dropUser x).storeByte cell = s.storeByte cell := by apply State.storeByte_congr <;> simp
@[simp] theorem State.cover_of_dequeueSlot (n : Fin 8) (j : Fin 8) : (s.dequeueSlot n).cover j = s.cover j := by simp [State.cover]
@[simp] theorem State.bank_of_dequeueSlot (n : Fin 8) (j : Fin 2) : (s.dequeueSlot n).bank j = s.bank j := by simp [State.bank]
@[simp] theorem State.stuck_of_dequeueSlot (n : Fin 8) (k : Source) : (s.dequeueSlot n).stuck k = s.stuck k := by simp [State.stuck]
@[simp] theorem State.tableState_of_dequeueSlot (n : Fin 8) (v : TableUnit) : (s.dequeueSlot n).tableState v = s.tableState v := by simp [State.tableState]
@[simp] theorem State.expo_of_dequeueSlot (n : Fin 8) : (s.dequeueSlot n).expo = s.expo := by simp [State.expo]
@[simp] theorem State.storeWords_of_dequeueSlot (n : Fin 8) : (s.dequeueSlot n).storeWords = s.storeWords := by simp [State.storeWords]
@[simp] theorem State.controlBase_of_dequeueSlot (n : Fin 8) : (s.dequeueSlot n).controlBase = s.controlBase := by simp [State.controlBase, State.storeWords]
@[simp] theorem State.storeByte_of_dequeueSlot (n : Fin 8) (cell : Nat) : (s.dequeueSlot n).storeByte cell = s.storeByte cell := by apply State.storeByte_congr <;> simp
@[simp] theorem State.bank_of_leaveQueue (n : Fin 8) (j : Fin 2) : (s.leaveQueue n).bank j = s.bank j := by simp [State.bank]
@[simp] theorem State.stuck_of_leaveQueue (n : Fin 8) (k : Source) : (s.leaveQueue n).stuck k = s.stuck k := by simp [State.stuck]
@[simp] theorem State.tableState_of_leaveQueue (n : Fin 8) (v : TableUnit) : (s.leaveQueue n).tableState v = s.tableState v := by simp [State.tableState]
@[simp] theorem State.expo_of_leaveQueue (n : Fin 8) : (s.leaveQueue n).expo = s.expo := by simp [State.expo]
@[simp] theorem State.storeWords_of_leaveQueue (n : Fin 8) : (s.leaveQueue n).storeWords = s.storeWords := by simp [State.storeWords]
@[simp] theorem State.controlBase_of_leaveQueue (n : Fin 8) : (s.leaveQueue n).controlBase = s.controlBase := by simp [State.controlBase, State.storeWords]
@[simp] theorem State.storeByte_of_leaveQueue (n : Fin 8) (cell : Nat) : (s.leaveQueue n).storeByte cell = s.storeByte cell := by apply State.storeByte_congr <;> simp
@[simp] theorem State.bank_of_vacate (n : Fin 8) (j : Fin 2) : (s.vacate n).bank j = s.bank j := by simp [State.bank]
@[simp] theorem State.stuck_of_vacate (n : Fin 8) (k : Source) : (s.vacate n).stuck k = s.stuck k := by simp [State.stuck]
@[simp] theorem State.tableState_of_vacate (n : Fin 8) (v : TableUnit) : (s.vacate n).tableState v = s.tableState v := by simp [State.tableState]
@[simp] theorem State.expo_of_vacate (n : Fin 8) : (s.vacate n).expo = s.expo := by simp [State.expo]
@[simp] theorem State.storeWords_of_vacate (n : Fin 8) : (s.vacate n).storeWords = s.storeWords := by simp [State.storeWords]
@[simp] theorem State.controlBase_of_vacate (n : Fin 8) : (s.vacate n).controlBase = s.controlBase := by simp [State.controlBase, State.storeWords]
@[simp] theorem State.storeByte_of_vacate (n : Fin 8) (cell : Nat) : (s.vacate n).storeByte cell = s.storeByte cell := by apply State.storeByte_congr <;> simp
@[simp] theorem State.slot_of_storeWord (a : Nat) (w : Word) (en : Enables) (j : Fin 8) : (s.storeWord a w en).slot j = s.slot j := by simp [State.slot]
@[simp] theorem State.users_of_storeWord (a : Nat) (w : Word) (en : Enables) (y : StockSet) : (s.storeWord a w en).users y = s.users y := by cases y <;> simp [State.users]
@[simp] theorem State.cover_of_storeWord (a : Nat) (w : Word) (en : Enables) (j : Fin 8) : (s.storeWord a w en).cover j = s.cover j := by simp [State.cover]
@[simp] theorem State.bank_of_storeWord (a : Nat) (w : Word) (en : Enables) (j : Fin 2) : (s.storeWord a w en).bank j = s.bank j := by simp [State.bank]
@[simp] theorem State.stuck_of_storeWord (a : Nat) (w : Word) (en : Enables) (k : Source) : (s.storeWord a w en).stuck k = s.stuck k := by simp [State.stuck]
@[simp] theorem State.tableState_of_storeWord (a : Nat) (w : Word) (en : Enables) (v : TableUnit) : (s.storeWord a w en).tableState v = s.tableState v := by simp [State.tableState]
@[simp] theorem State.expo_of_storeWord (a : Nat) (w : Word) (en : Enables) : (s.storeWord a w en).expo = s.expo := by simp [State.expo]
@[simp] theorem State.storeWords_of_storeWord (a : Nat) (w : Word) (en : Enables) : (s.storeWord a w en).storeWords = s.storeWords := by simp [State.storeWords]
@[simp] theorem State.controlBase_of_storeWord (a : Nat) (w : Word) (en : Enables) : (s.storeWord a w en).controlBase = s.controlBase := by simp [State.controlBase, State.storeWords]
@[simp] theorem State.slot_of_storeBeat (b : Beat) (j : Fin 8) : (s.storeBeat b).slot j = s.slot j := by simp [State.slot]
@[simp] theorem State.users_of_storeBeat (b : Beat) (y : StockSet) : (s.storeBeat b).users y = s.users y := by cases y <;> simp [State.users]
@[simp] theorem State.cover_of_storeBeat (b : Beat) (j : Fin 8) : (s.storeBeat b).cover j = s.cover j := by simp [State.cover]
@[simp] theorem State.bank_of_storeBeat (b : Beat) (j : Fin 2) : (s.storeBeat b).bank j = s.bank j := by simp [State.bank]
@[simp] theorem State.stuck_of_storeBeat (b : Beat) (k : Source) : (s.storeBeat b).stuck k = s.stuck k := by simp [State.stuck]
@[simp] theorem State.tableState_of_storeBeat (b : Beat) (v : TableUnit) : (s.storeBeat b).tableState v = s.tableState v := by simp [State.tableState]
@[simp] theorem State.expo_of_storeBeat (b : Beat) : (s.storeBeat b).expo = s.expo := by simp [State.expo]
@[simp] theorem State.storeWords_of_storeBeat (b : Beat) : (s.storeBeat b).storeWords = s.storeWords := by simp [State.storeWords]
@[simp] theorem State.controlBase_of_storeBeat (b : Beat) : (s.storeBeat b).controlBase = s.controlBase := by simp [State.controlBase, State.storeWords]
@[simp] theorem State.slot_of_setTable (u : TableUnit) (x : TableState) (j : Fin 8) : (s.setTable u x).slot j = s.slot j := by simp [State.slot]
@[simp] theorem State.users_of_setTable (u : TableUnit) (x : TableState) (y : StockSet) : (s.setTable u x).users y = s.users y := by cases y <;> simp [State.users]
@[simp] theorem State.cover_of_setTable (u : TableUnit) (x : TableState) (j : Fin 8) : (s.setTable u x).cover j = s.cover j := by simp [State.cover]
@[simp] theorem State.bank_of_setTable (u : TableUnit) (x : TableState) (j : Fin 2) : (s.setTable u x).bank j = s.bank j := by simp [State.bank]
@[simp] theorem State.stuck_of_setTable (u : TableUnit) (x : TableState) (k : Source) : (s.setTable u x).stuck k = s.stuck k := by simp [State.stuck]
@[simp] theorem State.expo_of_setTable (u : TableUnit) (x : TableState) : (s.setTable u x).expo = s.expo := by simp [State.expo]
@[simp] theorem State.storeWords_of_setTable (u : TableUnit) (x : TableState) : (s.setTable u x).storeWords = s.storeWords := by simp [State.storeWords]
@[simp] theorem State.controlBase_of_setTable (u : TableUnit) (x : TableState) : (s.setTable u x).controlBase = s.controlBase := by simp [State.controlBase, State.storeWords]
@[simp] theorem State.storeByte_of_setTable (u : TableUnit) (x : TableState) (cell : Nat) : (s.setTable u x).storeByte cell = s.storeByte cell := by apply State.storeByte_congr <;> simp
@[simp] theorem State.slot_of_refreshEntry (m : Mem) (a : Nat) (j : Fin 8) : (s.refreshEntry m a).slot j = s.slot j := by simp [State.slot]
@[simp] theorem State.users_of_refreshEntry (m : Mem) (a : Nat) (y : StockSet) : (s.refreshEntry m a).users y = s.users y := by cases y <;> simp [State.users]
@[simp] theorem State.cover_of_refreshEntry (m : Mem) (a : Nat) (j : Fin 8) : (s.refreshEntry m a).cover j = s.cover j := by simp [State.cover]
@[simp] theorem State.bank_of_refreshEntry (m : Mem) (a : Nat) (j : Fin 2) : (s.refreshEntry m a).bank j = s.bank j := by simp [State.bank]
@[simp] theorem State.stuck_of_refreshEntry (m : Mem) (a : Nat) (k : Source) : (s.refreshEntry m a).stuck k = s.stuck k := by simp [State.stuck]
@[simp] theorem State.tableState_of_refreshEntry (m : Mem) (a : Nat) (v : TableUnit) : (s.refreshEntry m a).tableState v = s.tableState v := by simp [State.tableState]
@[simp] theorem State.expo_of_refreshEntry (m : Mem) (a : Nat) : (s.refreshEntry m a).expo = s.expo := by simp [State.expo]
@[simp] theorem State.storeWords_of_refreshEntry (m : Mem) (a : Nat) : (s.refreshEntry m a).storeWords = s.storeWords := by simp [State.storeWords]
@[simp] theorem State.controlBase_of_refreshEntry (m : Mem) (a : Nat) : (s.refreshEntry m a).controlBase = s.controlBase := by simp [State.controlBase, State.storeWords]
@[simp] theorem State.storeByte_of_refreshEntry (m : Mem) (a : Nat) (cell : Nat) : (s.refreshEntry m a).storeByte cell = s.storeByte cell := by apply State.storeByte_congr <;> simp
@[simp] theorem State.slot_of_capture (u : TableUnit) (o : Nat) (w : Word) (j : Fin 8) : (s.capture u o w).slot j = s.slot j := by simp [State.slot]
@[simp] theorem State.users_of_capture (u : TableUnit) (o : Nat) (w : Word) (y : StockSet) : (s.capture u o w).users y = s.users y := by cases y <;> simp [State.users]
@[simp] theorem State.cover_of_capture (u : TableUnit) (o : Nat) (w : Word) (j : Fin 8) : (s.capture u o w).cover j = s.cover j := by simp [State.cover]
@[simp] theorem State.bank_of_capture (u : TableUnit) (o : Nat) (w : Word) (j : Fin 2) : (s.capture u o w).bank j = s.bank j := by simp [State.bank]
@[simp] theorem State.expo_of_capture (u : TableUnit) (o : Nat) (w : Word) : (s.capture u o w).expo = s.expo := by simp [State.expo]
@[simp] theorem State.storeWords_of_capture (u : TableUnit) (o : Nat) (w : Word) : (s.capture u o w).storeWords = s.storeWords := by simp [State.storeWords]
@[simp] theorem State.controlBase_of_capture (u : TableUnit) (o : Nat) (w : Word) : (s.capture u o w).controlBase = s.controlBase := by simp [State.controlBase, State.storeWords]
@[simp] theorem State.storeByte_of_capture (u : TableUnit) (o : Nat) (w : Word) (cell : Nat) : (s.capture u o w).storeByte cell = s.storeByte cell := by apply State.storeByte_congr <;> simp
@[simp] theorem State.slot_of_damageEntry (d : Damage) (j : Fin 8) : (s.damageEntry d).slot j = s.slot j := by simp [State.slot]
@[simp] theorem State.users_of_damageEntry (d : Damage) (y : StockSet) : (s.damageEntry d).users y = s.users y := by cases y <;> simp [State.users]
@[simp] theorem State.cover_of_damageEntry (d : Damage) (j : Fin 8) : (s.damageEntry d).cover j = s.cover j := by simp [State.cover]
@[simp] theorem State.bank_of_damageEntry (d : Damage) (j : Fin 2) : (s.damageEntry d).bank j = s.bank j := by simp [State.bank]
@[simp] theorem State.stuck_of_damageEntry (d : Damage) (k : Source) : (s.damageEntry d).stuck k = s.stuck k := by simp [State.stuck]
@[simp] theorem State.tableState_of_damageEntry (d : Damage) (v : TableUnit) : (s.damageEntry d).tableState v = s.tableState v := by simp [State.tableState]
@[simp] theorem State.expo_of_damageEntry (d : Damage) : (s.damageEntry d).expo = s.expo := by simp [State.expo]
@[simp] theorem State.storeWords_of_damageEntry (d : Damage) : (s.damageEntry d).storeWords = s.storeWords := by simp [State.storeWords]
@[simp] theorem State.controlBase_of_damageEntry (d : Damage) : (s.damageEntry d).controlBase = s.controlBase := by simp [State.controlBase, State.storeWords]
@[simp] theorem State.storeByte_of_damageEntry (d : Damage) (cell : Nat) : (s.damageEntry d).storeByte cell = s.storeByte cell := by apply State.storeByte_congr <;> simp
@[simp] theorem State.slot_of_setRecord (i : Fin 8) (r : Indication) (j : Fin 8) : (s.setRecord i r).slot j = s.slot j := by simp [State.slot]
@[simp] theorem State.users_of_setRecord (i : Fin 8) (r : Indication) (y : StockSet) : (s.setRecord i r).users y = s.users y := by cases y <;> simp [State.users]
@[simp] theorem State.cover_of_setRecord (i : Fin 8) (r : Indication) (j : Fin 8) : (s.setRecord i r).cover j = s.cover j := by simp [State.cover]
@[simp] theorem State.bank_of_setRecord (i : Fin 8) (r : Indication) (j : Fin 2) : (s.setRecord i r).bank j = s.bank j := by simp [State.bank]
@[simp] theorem State.stuck_of_setRecord (i : Fin 8) (r : Indication) (k : Source) : (s.setRecord i r).stuck k = s.stuck k := by simp [State.stuck]
@[simp] theorem State.tableState_of_setRecord (i : Fin 8) (r : Indication) (v : TableUnit) : (s.setRecord i r).tableState v = s.tableState v := by simp [State.tableState]
@[simp] theorem State.expo_of_setRecord (i : Fin 8) (r : Indication) : (s.setRecord i r).expo = s.expo := by simp [State.expo]
@[simp] theorem State.storeWords_of_setRecord (i : Fin 8) (r : Indication) : (s.setRecord i r).storeWords = s.storeWords := by simp [State.storeWords]
@[simp] theorem State.controlBase_of_setRecord (i : Fin 8) (r : Indication) : (s.setRecord i r).controlBase = s.controlBase := by simp [State.controlBase, State.storeWords]
@[simp] theorem State.storeByte_of_setRecord (i : Fin 8) (r : Indication) (cell : Nat) : (s.setRecord i r).storeByte cell = s.storeByte cell := by apply State.storeByte_congr <;> simp
@[simp] theorem State.slot_of_checkRead (m : Mem) (a : Nat) (j : Fin 8) : (s.checkRead m a).slot j = s.slot j := by simp [State.slot]
@[simp] theorem State.users_of_checkRead (m : Mem) (a : Nat) (y : StockSet) : (s.checkRead m a).users y = s.users y := by cases y <;> simp [State.users]
@[simp] theorem State.cover_of_checkRead (m : Mem) (a : Nat) (j : Fin 8) : (s.checkRead m a).cover j = s.cover j := by simp [State.cover]
@[simp] theorem State.bank_of_checkRead (m : Mem) (a : Nat) (j : Fin 2) : (s.checkRead m a).bank j = s.bank j := by simp [State.bank]
@[simp] theorem State.tableState_of_checkRead (m : Mem) (a : Nat) (v : TableUnit) : (s.checkRead m a).tableState v = s.tableState v := by simp [State.tableState]
@[simp] theorem State.expo_of_checkRead (m : Mem) (a : Nat) : (s.checkRead m a).expo = s.expo := by simp [State.expo]
@[simp] theorem State.storeWords_of_checkRead (m : Mem) (a : Nat) : (s.checkRead m a).storeWords = s.storeWords := by simp [State.storeWords]
@[simp] theorem State.controlBase_of_checkRead (m : Mem) (a : Nat) : (s.checkRead m a).controlBase = s.controlBase := by simp [State.controlBase, State.storeWords]
@[simp] theorem State.storeByte_of_checkRead (m : Mem) (a : Nat) (cell : Nat) : (s.checkRead m a).storeByte cell = s.storeByte cell := by apply State.storeByte_congr <;> simp
@[simp] theorem State.cover_of_completeSlot (n : Fin 8) (j : Fin 8) : (s.completeSlot n).cover j = s.cover j := by simp [State.cover]
@[simp] theorem State.bank_of_completeSlot (n : Fin 8) (j : Fin 2) : (s.completeSlot n).bank j = s.bank j := by simp [State.bank]
@[simp] theorem State.tableState_of_completeSlot (n : Fin 8) (v : TableUnit) : (s.completeSlot n).tableState v = s.tableState v := by simp [State.tableState]
@[simp] theorem State.expo_of_completeSlot (n : Fin 8) : (s.completeSlot n).expo = s.expo := by simp [State.expo]
@[simp] theorem State.storeWords_of_completeSlot (n : Fin 8) : (s.completeSlot n).storeWords = s.storeWords := by simp [State.storeWords]
@[simp] theorem State.controlBase_of_completeSlot (n : Fin 8) : (s.completeSlot n).controlBase = s.controlBase := by simp [State.controlBase, State.storeWords]
@[simp] theorem State.storeByte_of_completeSlot (n : Fin 8) (cell : Nat) : (s.completeSlot n).storeByte cell = s.storeByte cell := by apply State.storeByte_congr <;> simp
@[simp] theorem State.bank_of_advanceCursor (n : Fin 8) (j : Fin 2) : (s.advanceCursor n).bank j = s.bank j := by simp [State.bank]
@[simp] theorem State.tableState_of_advanceCursor (n : Fin 8) (v : TableUnit) : (s.advanceCursor n).tableState v = s.tableState v := by simp [State.tableState]
@[simp] theorem State.expo_of_advanceCursor (n : Fin 8) : (s.advanceCursor n).expo = s.expo := by simp [State.expo]
@[simp] theorem State.storeWords_of_advanceCursor (n : Fin 8) : (s.advanceCursor n).storeWords = s.storeWords := by simp [State.storeWords]
@[simp] theorem State.controlBase_of_advanceCursor (n : Fin 8) : (s.advanceCursor n).controlBase = s.controlBase := by simp [State.controlBase, State.storeWords]
@[simp] theorem State.storeByte_of_advanceCursor (n : Fin 8) (cell : Nat) : (s.advanceCursor n).storeByte cell = s.storeByte cell := by apply State.storeByte_congr <;> simp
@[simp] theorem State.bank_of_recordFill (n : Fin 8) (i : Nat) (j : Fin 2) : (s.recordFill n i).bank j = s.bank j := by simp [State.bank]
@[simp] theorem State.tableState_of_recordFill (n : Fin 8) (i : Nat) (v : TableUnit) : (s.recordFill n i).tableState v = s.tableState v := by simp [State.tableState]
@[simp] theorem State.expo_of_recordFill (n : Fin 8) (i : Nat) : (s.recordFill n i).expo = s.expo := by simp [State.expo]
@[simp] theorem State.storeWords_of_recordFill (n : Fin 8) (i : Nat) : (s.recordFill n i).storeWords = s.storeWords := by simp [State.storeWords]
@[simp] theorem State.controlBase_of_recordFill (n : Fin 8) (i : Nat) : (s.recordFill n i).controlBase = s.controlBase := by simp [State.controlBase, State.storeWords]
@[simp] theorem State.storeByte_of_recordFill (n : Fin 8) (i : Nat) (cell : Nat) : (s.recordFill n i).storeByte cell = s.storeByte cell := by apply State.storeByte_congr <;> simp
@[simp] theorem State.slot_of_setBank (b : Fin 2) (x : Bank) (j : Fin 8) : (s.setBank b x).slot j = s.slot j := by simp [State.slot]
@[simp] theorem State.users_of_setBank (b : Fin 2) (x : Bank) (y : StockSet) : (s.setBank b x).users y = s.users y := by cases y <;> simp [State.users]
@[simp] theorem State.cover_of_setBank (b : Fin 2) (x : Bank) (j : Fin 8) : (s.setBank b x).cover j = s.cover j := by simp [State.cover]
@[simp] theorem State.stuck_of_setBank (b : Fin 2) (x : Bank) (k : Source) : (s.setBank b x).stuck k = s.stuck k := by simp [State.stuck]
@[simp] theorem State.tableState_of_setBank (b : Fin 2) (x : Bank) (v : TableUnit) : (s.setBank b x).tableState v = s.tableState v := by simp [State.tableState]
@[simp] theorem State.expo_of_setBank (b : Fin 2) (x : Bank) : (s.setBank b x).expo = s.expo := by simp [State.expo]
@[simp] theorem State.storeWords_of_setBank (b : Fin 2) (x : Bank) : (s.setBank b x).storeWords = s.storeWords := by simp [State.storeWords]
@[simp] theorem State.controlBase_of_setBank (b : Fin 2) (x : Bank) : (s.setBank b x).controlBase = s.controlBase := by simp [State.controlBase, State.storeWords]
@[simp] theorem State.storeByte_of_setBank (b : Fin 2) (x : Bank) (cell : Nat) : (s.setBank b x).storeByte cell = s.storeByte cell := by apply State.storeByte_congr <;> simp
@[simp] theorem State.slot_of_mapUnit (f : GrantUnit → GrantUnit) (j : Fin 8) : (s.mapUnit f).slot j = s.slot j := by simp [State.slot]
@[simp] theorem State.users_of_mapUnit (f : GrantUnit → GrantUnit) (y : StockSet) : (s.mapUnit f).users y = s.users y := by cases y <;> simp [State.users]
@[simp] theorem State.cover_of_mapUnit (f : GrantUnit → GrantUnit) (j : Fin 8) : (s.mapUnit f).cover j = s.cover j := by simp [State.cover]
@[simp] theorem State.bank_of_mapUnit (f : GrantUnit → GrantUnit) (j : Fin 2) : (s.mapUnit f).bank j = s.bank j := by simp [State.bank]
@[simp] theorem State.stuck_of_mapUnit (f : GrantUnit → GrantUnit) (k : Source) : (s.mapUnit f).stuck k = s.stuck k := by simp [State.stuck]
@[simp] theorem State.tableState_of_mapUnit (f : GrantUnit → GrantUnit) (v : TableUnit) : (s.mapUnit f).tableState v = s.tableState v := by simp [State.tableState]
@[simp] theorem State.expo_of_mapUnit (f : GrantUnit → GrantUnit) : (s.mapUnit f).expo = s.expo := by simp [State.expo]
@[simp] theorem State.storeByte_of_mapUnit (f : GrantUnit → GrantUnit) (cell : Nat) : (s.mapUnit f).storeByte cell = s.storeByte cell := by apply State.storeByte_congr <;> simp
@[simp] theorem State.slot_of_abandonFetch (j : Fin 8) : (s.abandonFetch).slot j = s.slot j := by simp [State.slot]
@[simp] theorem State.users_of_abandonFetch (y : StockSet) : (s.abandonFetch).users y = s.users y := by cases y <;> simp [State.users]
@[simp] theorem State.cover_of_abandonFetch (j : Fin 8) : (s.abandonFetch).cover j = s.cover j := by simp [State.cover]
@[simp] theorem State.stuck_of_abandonFetch (k : Source) : (s.abandonFetch).stuck k = s.stuck k := by simp [State.stuck]
@[simp] theorem State.tableState_of_abandonFetch (v : TableUnit) : (s.abandonFetch).tableState v = s.tableState v := by simp [State.tableState]
@[simp] theorem State.expo_of_abandonFetch : (s.abandonFetch).expo = s.expo := by simp [State.expo]
@[simp] theorem State.storeByte_of_abandonFetch (cell : Nat) : (s.abandonFetch).storeByte cell = s.storeByte cell := by apply State.storeByte_congr <;> simp
@[simp] theorem State.slot_of_releaseBank (b : Fin 2) (j : Fin 8) : (s.releaseBank b).slot j = s.slot j := by simp [State.slot]
@[simp] theorem State.users_of_releaseBank (b : Fin 2) (y : StockSet) : (s.releaseBank b).users y = s.users y := by cases y <;> simp [State.users]
@[simp] theorem State.cover_of_releaseBank (b : Fin 2) (j : Fin 8) : (s.releaseBank b).cover j = s.cover j := by simp [State.cover]
@[simp] theorem State.stuck_of_releaseBank (b : Fin 2) (k : Source) : (s.releaseBank b).stuck k = s.stuck k := by simp [State.stuck]
@[simp] theorem State.tableState_of_releaseBank (b : Fin 2) (v : TableUnit) : (s.releaseBank b).tableState v = s.tableState v := by simp [State.tableState]
@[simp] theorem State.expo_of_releaseBank (b : Fin 2) : (s.releaseBank b).expo = s.expo := by simp [State.expo]
@[simp] theorem State.storeByte_of_releaseBank (b : Fin 2) (cell : Nat) : (s.releaseBank b).storeByte cell = s.storeByte cell := by apply State.storeByte_congr <;> simp
@[simp] theorem State.slot_of_clearFeeder (j : Fin 8) : (s.clearFeeder).slot j = s.slot j := by simp [State.slot]
@[simp] theorem State.users_of_clearFeeder (y : StockSet) : (s.clearFeeder).users y = s.users y := by cases y <;> simp [State.users]
@[simp] theorem State.cover_of_clearFeeder (j : Fin 8) : (s.clearFeeder).cover j = s.cover j := by simp [State.cover]
@[simp] theorem State.stuck_of_clearFeeder (k : Source) : (s.clearFeeder).stuck k = s.stuck k := by simp [State.stuck]
@[simp] theorem State.tableState_of_clearFeeder (v : TableUnit) : (s.clearFeeder).tableState v = s.tableState v := by simp [State.tableState]
@[simp] theorem State.expo_of_clearFeeder : (s.clearFeeder).expo = s.expo := by simp [State.expo]
@[simp] theorem State.storeByte_of_clearFeeder (cell : Nat) : (s.clearFeeder).storeByte cell = s.storeByte cell := by apply State.storeByte_congr <;> simp
@[simp] theorem State.cover_of_unlockSlot (n : Fin 8) (j : Fin 8) : (s.unlockSlot n).cover j = s.cover j := by simp [State.cover]
@[simp] theorem State.bank_of_unlockSlot (n : Fin 8) (j : Fin 2) : (s.unlockSlot n).bank j = s.bank j := by simp [State.bank]
@[simp] theorem State.stuck_of_unlockSlot (n : Fin 8) (k : Source) : (s.unlockSlot n).stuck k = s.stuck k := by simp [State.stuck]
@[simp] theorem State.tableState_of_unlockSlot (n : Fin 8) (v : TableUnit) : (s.unlockSlot n).tableState v = s.tableState v := by simp [State.tableState]
@[simp] theorem State.expo_of_unlockSlot (n : Fin 8) : (s.unlockSlot n).expo = s.expo := by simp [State.expo]
@[simp] theorem State.storeWords_of_unlockSlot (n : Fin 8) : (s.unlockSlot n).storeWords = s.storeWords := by simp [State.storeWords]
@[simp] theorem State.controlBase_of_unlockSlot (n : Fin 8) : (s.unlockSlot n).controlBase = s.controlBase := by simp [State.controlBase, State.storeWords]
@[simp] theorem State.storeByte_of_unlockSlot (n : Fin 8) (cell : Nat) : (s.unlockSlot n).storeByte cell = s.storeByte cell := by apply State.storeByte_congr <;> simp
@[simp] theorem State.cover_of_unlockPrefetch (b : Fin 2) (j : Fin 8) : (s.unlockPrefetch b).cover j = s.cover j := by simp [State.cover]
@[simp] theorem State.bank_of_unlockPrefetch (b : Fin 2) (j : Fin 2) : (s.unlockPrefetch b).bank j = s.bank j := by simp [State.bank]
@[simp] theorem State.stuck_of_unlockPrefetch (b : Fin 2) (k : Source) : (s.unlockPrefetch b).stuck k = s.stuck k := by simp [State.stuck]
@[simp] theorem State.tableState_of_unlockPrefetch (b : Fin 2) (v : TableUnit) : (s.unlockPrefetch b).tableState v = s.tableState v := by simp [State.tableState]
@[simp] theorem State.expo_of_unlockPrefetch (b : Fin 2) : (s.unlockPrefetch b).expo = s.expo := by simp [State.expo]
@[simp] theorem State.storeWords_of_unlockPrefetch (b : Fin 2) : (s.unlockPrefetch b).storeWords = s.storeWords := by simp [State.storeWords]
@[simp] theorem State.controlBase_of_unlockPrefetch (b : Fin 2) : (s.unlockPrefetch b).controlBase = s.controlBase := by simp [State.controlBase, State.storeWords]
@[simp] theorem State.storeByte_of_unlockPrefetch (b : Fin 2) (cell : Nat) : (s.unlockPrefetch b).storeByte cell = s.storeByte cell := by apply State.storeByte_congr <;> simp
@[simp] theorem State.cover_of_discardPrefetch (n : Fin 8) (j : Fin 8) : (s.discardPrefetch n).cover j = s.cover j := by simp [State.cover]
@[simp] theorem State.stuck_of_discardPrefetch (n : Fin 8) (k : Source) : (s.discardPrefetch n).stuck k = s.stuck k := by simp [State.stuck]
@[simp] theorem State.tableState_of_discardPrefetch (n : Fin 8) (v : TableUnit) : (s.discardPrefetch n).tableState v = s.tableState v := by simp [State.tableState]
@[simp] theorem State.expo_of_discardPrefetch (n : Fin 8) : (s.discardPrefetch n).expo = s.expo := by simp [State.expo]
@[simp] theorem State.storeByte_of_discardPrefetch (n : Fin 8) (cell : Nat) : (s.discardPrefetch n).storeByte cell = s.storeByte cell := by apply State.storeByte_congr <;> simp
@[simp] theorem State.slot_of_blankDrive (j : Fin 8) : (s.blankDrive).slot j = s.slot j := by simp [State.slot]
@[simp] theorem State.users_of_blankDrive (y : StockSet) : (s.blankDrive).users y = s.users y := by cases y <;> simp [State.users]
@[simp] theorem State.cover_of_blankDrive (j : Fin 8) : (s.blankDrive).cover j = s.cover j := by simp [State.cover]
@[simp] theorem State.bank_of_blankDrive (j : Fin 2) : (s.blankDrive).bank j = s.bank j := by simp [State.bank]
@[simp] theorem State.stuck_of_blankDrive (k : Source) : (s.blankDrive).stuck k = s.stuck k := by simp [State.stuck]
@[simp] theorem State.tableState_of_blankDrive (v : TableUnit) : (s.blankDrive).tableState v = s.tableState v := by simp [State.tableState]
@[simp] theorem State.expo_of_blankDrive : (s.blankDrive).expo = s.expo := by simp [State.expo]
@[simp] theorem State.storeWords_of_blankDrive : (s.blankDrive).storeWords = s.storeWords := by simp [State.storeWords]
@[simp] theorem State.controlBase_of_blankDrive : (s.blankDrive).controlBase = s.controlBase := by simp [State.controlBase, State.storeWords]
@[simp] theorem State.storeByte_of_blankDrive (cell : Nat) : (s.blankDrive).storeByte cell = s.storeByte cell := by apply State.storeByte_congr <;> simp
@[simp] theorem State.cover_of_unlockOnStop (j : Fin 8) : (s.unlockOnStop).cover j = s.cover j := by simp [State.cover]
@[simp] theorem State.bank_of_unlockOnStop (j : Fin 2) : (s.unlockOnStop).bank j = s.bank j := by simp [State.bank]
@[simp] theorem State.stuck_of_unlockOnStop (k : Source) : (s.unlockOnStop).stuck k = s.stuck k := by simp [State.stuck]
@[simp] theorem State.tableState_of_unlockOnStop (v : TableUnit) : (s.unlockOnStop).tableState v = s.tableState v := by simp [State.tableState]
@[simp] theorem State.expo_of_unlockOnStop : (s.unlockOnStop).expo = s.expo := by simp [State.expo]
@[simp] theorem State.storeWords_of_unlockOnStop : (s.unlockOnStop).storeWords = s.storeWords := by simp [State.storeWords]
@[simp] theorem State.controlBase_of_unlockOnStop : (s.unlockOnStop).controlBase = s.controlBase := by simp [State.controlBase, State.storeWords]
@[simp] theorem State.storeByte_of_unlockOnStop (cell : Nat) : (s.unlockOnStop).storeByte cell = s.storeByte cell := by apply State.storeByte_congr <;> simp
@[simp] theorem State.cover_of_enterStopped (j : Fin 8) : (s.enterStopped).cover j = s.cover j := by simp [State.cover]
@[simp] theorem State.stuck_of_enterStopped (k : Source) : (s.enterStopped).stuck k = s.stuck k := by simp [State.stuck]
@[simp] theorem State.tableState_of_enterStopped (v : TableUnit) : (s.enterStopped).tableState v = s.tableState v := by simp [State.tableState]
@[simp] theorem State.storeByte_of_enterStopped (cell : Nat) : (s.enterStopped).storeByte cell = s.storeByte cell := by apply State.storeByte_congr <;> simp
@[simp] theorem State.slot_of_enterWaiting (j : Fin 8) : (s.enterWaiting).slot j = s.slot j := by simp [State.slot]
@[simp] theorem State.users_of_enterWaiting (y : StockSet) : (s.enterWaiting).users y = s.users y := by cases y <;> simp [State.users]
@[simp] theorem State.cover_of_enterWaiting (j : Fin 8) : (s.enterWaiting).cover j = s.cover j := by simp [State.cover]
@[simp] theorem State.bank_of_enterWaiting (j : Fin 2) : (s.enterWaiting).bank j = s.bank j := by simp [State.bank]
@[simp] theorem State.stuck_of_enterWaiting (k : Source) : (s.enterWaiting).stuck k = s.stuck k := by simp [State.stuck]
@[simp] theorem State.tableState_of_enterWaiting (v : TableUnit) : (s.enterWaiting).tableState v = s.tableState v := by simp [State.tableState]
@[simp] theorem State.storeWords_of_enterWaiting : (s.enterWaiting).storeWords = s.storeWords := by simp [State.storeWords]
@[simp] theorem State.controlBase_of_enterWaiting : (s.enterWaiting).controlBase = s.controlBase := by simp [State.controlBase, State.storeWords]
@[simp] theorem State.storeByte_of_enterWaiting (cell : Nat) : (s.enterWaiting).storeByte cell = s.storeByte cell := by apply State.storeByte_congr <;> simp
@[simp] theorem State.bank_of_faultSlot (n : Fin 8) (c : FaultCause) (j : Fin 2) : (s.faultSlot n c).bank j = s.bank j := by simp [State.bank]
@[simp] theorem State.stuck_of_faultSlot (n : Fin 8) (c : FaultCause) (k : Source) : (s.faultSlot n c).stuck k = s.stuck k := by simp [State.stuck]
@[simp] theorem State.tableState_of_faultSlot (n : Fin 8) (c : FaultCause) (v : TableUnit) : (s.faultSlot n c).tableState v = s.tableState v := by simp [State.tableState]
@[simp] theorem State.expo_of_faultSlot (n : Fin 8) (c : FaultCause) : (s.faultSlot n c).expo = s.expo := by simp [State.expo]
@[simp] theorem State.storeWords_of_faultSlot (n : Fin 8) (c : FaultCause) : (s.faultSlot n c).storeWords = s.storeWords := by simp [State.storeWords]
@[simp] theorem State.controlBase_of_faultSlot (n : Fin 8) (c : FaultCause) : (s.faultSlot n c).controlBase = s.controlBase := by simp [State.controlBase, State.storeWords]
@[simp] theorem State.storeByte_of_faultSlot (n : Fin 8) (c : FaultCause) (cell : Nat) : (s.faultSlot n c).storeByte cell = s.storeByte cell := by apply State.storeByte_congr <;> simp
@[simp] theorem State.tableState_of_abortFrame (c : FaultCause) (v : TableUnit) : (s.abortFrame c).tableState v = s.tableState v := by simp [State.tableState]
@[simp] theorem State.storeByte_of_abortFrame (c : FaultCause) (cell : Nat) : (s.abortFrame c).storeByte cell = s.storeByte cell := by apply State.storeByte_congr <;> simp
@[simp] theorem State.cover_of_markSpoiled (j : Fin 8) : (s.markSpoiled).cover j = s.cover j := by simp [State.cover]
@[simp] theorem State.bank_of_markSpoiled (j : Fin 2) : (s.markSpoiled).bank j = s.bank j := by simp [State.bank]
@[simp] theorem State.stuck_of_markSpoiled (k : Source) : (s.markSpoiled).stuck k = s.stuck k := by simp [State.stuck]
@[simp] theorem State.tableState_of_markSpoiled (v : TableUnit) : (s.markSpoiled).tableState v = s.tableState v := by simp [State.tableState]
@[simp] theorem State.storeWords_of_markSpoiled : (s.markSpoiled).storeWords = s.storeWords := by simp [State.storeWords]
@[simp] theorem State.controlBase_of_markSpoiled : (s.markSpoiled).controlBase = s.controlBase := by simp [State.controlBase, State.storeWords]
@[simp] theorem State.storeByte_of_markSpoiled (cell : Nat) : (s.markSpoiled).storeByte cell = s.storeByte cell := by apply State.storeByte_congr <;> simp
@[simp] theorem State.slot_of_releaseBelow (l : Nat) (b : Fin 2) (j : Fin 8) : (s.releaseBelow l b).slot j = s.slot j := by simp [State.slot]
@[simp] theorem State.users_of_releaseBelow (l : Nat) (b : Fin 2) (y : StockSet) : (s.releaseBelow l b).users y = s.users y := by cases y <;> simp [State.users]
@[simp] theorem State.cover_of_releaseBelow (l : Nat) (b : Fin 2) (j : Fin 8) : (s.releaseBelow l b).cover j = s.cover j := by simp [State.cover]
@[simp] theorem State.stuck_of_releaseBelow (l : Nat) (b : Fin 2) (k : Source) : (s.releaseBelow l b).stuck k = s.stuck k := by simp [State.stuck]
@[simp] theorem State.tableState_of_releaseBelow (l : Nat) (b : Fin 2) (v : TableUnit) : (s.releaseBelow l b).tableState v = s.tableState v := by simp [State.tableState]
@[simp] theorem State.expo_of_releaseBelow (l : Nat) (b : Fin 2) : (s.releaseBelow l b).expo = s.expo := by simp [State.expo]
@[simp] theorem State.storeByte_of_releaseBelow (l : Nat) (b : Fin 2) (cell : Nat) : (s.releaseBelow l b).storeByte cell = s.storeByte cell := by apply State.storeByte_congr <;> simp
@[simp] theorem State.cover_of_chooseBank (n : Fin 8) (l : Nat) (j : Fin 8) : (s.chooseBank n l).cover j = s.cover j := by simp [State.cover]
@[simp] theorem State.tableState_of_chooseBank (n : Fin 8) (l : Nat) (v : TableUnit) : (s.chooseBank n l).tableState v = s.tableState v := by simp [State.tableState]
@[simp] theorem State.storeByte_of_chooseBank (n : Fin 8) (l : Nat) (cell : Nat) : (s.chooseBank n l).storeByte cell = s.storeByte cell := by apply State.storeByte_congr <;> simp
@[simp] theorem State.cover_of_imageSweep (n : Fin 8) (l : Nat) (first out : Bool) (j : Fin 8) : (s.imageSweep n l first out).cover j = s.cover j := by simp [State.cover]
@[simp] theorem State.tableState_of_imageSweep (n : Fin 8) (l : Nat) (first out : Bool) (v : TableUnit) : (s.imageSweep n l first out).tableState v = s.tableState v := by simp [State.tableState]
@[simp] theorem State.storeByte_of_imageSweep (n : Fin 8) (l : Nat) (first out : Bool) (cell : Nat) : (s.imageSweep n l first out).storeByte cell = s.storeByte cell := by apply State.storeByte_congr <;> simp
@[simp] theorem State.cover_of_beginSweep (n : Fin 8) (out : Bool) (j : Fin 8) : (s.beginSweep n out).cover j = s.cover j := by simp [State.cover]
@[simp] theorem State.tableState_of_beginSweep (n : Fin 8) (out : Bool) (v : TableUnit) : (s.beginSweep n out).tableState v = s.tableState v := by simp [State.tableState]
@[simp] theorem State.storeByte_of_beginSweep (n : Fin 8) (out : Bool) (cell : Nat) : (s.beginSweep n out).storeByte cell = s.storeByte cell := by apply State.storeByte_congr <;> simp
@[simp] theorem State.cover_of_startFrame (n : Fin 8) (out : Bool) (j : Fin 8) : (s.startFrame n out).cover j = s.cover j := by simp [State.cover]
@[simp] theorem State.tableState_of_startFrame (n : Fin 8) (out : Bool) (v : TableUnit) : (s.startFrame n out).tableState v = s.tableState v := by simp [State.tableState]
@[simp] theorem State.storeByte_of_startFrame (n : Fin 8) (out : Bool) (cell : Nat) : (s.startFrame n out).storeByte cell = s.storeByte cell := by apply State.storeByte_congr <;> simp
@[simp] theorem State.tableState_of_endFrame (n : Fin 8) (v : TableUnit) : (s.endFrame n).tableState v = s.tableState v := by simp [State.tableState]
@[simp] theorem State.storeByte_of_endFrame (n : Fin 8) (cell : Nat) : (s.endFrame n).storeByte cell = s.storeByte cell := by apply State.storeByte_congr <;> simp
@[simp] theorem State.cover_of_countExposed (n : Fin 8) (j : Fin 8) : (s.countExposed n).cover j = s.cover j := by simp [State.cover]
@[simp] theorem State.bank_of_countExposed (n : Fin 8) (j : Fin 2) : (s.countExposed n).bank j = s.bank j := by simp [State.bank]
@[simp] theorem State.stuck_of_countExposed (n : Fin 8) (k : Source) : (s.countExposed n).stuck k = s.stuck k := by simp [State.stuck]
@[simp] theorem State.tableState_of_countExposed (n : Fin 8) (v : TableUnit) : (s.countExposed n).tableState v = s.tableState v := by simp [State.tableState]
@[simp] theorem State.expo_of_countExposed (n : Fin 8) : (s.countExposed n).expo = s.expo := by simp [State.expo]
@[simp] theorem State.storeWords_of_countExposed (n : Fin 8) : (s.countExposed n).storeWords = s.storeWords := by simp [State.storeWords]
@[simp] theorem State.controlBase_of_countExposed (n : Fin 8) : (s.countExposed n).controlBase = s.controlBase := by simp [State.controlBase, State.storeWords]
@[simp] theorem State.storeByte_of_countExposed (n : Fin 8) (cell : Nat) : (s.countExposed n).storeByte cell = s.storeByte cell := by apply State.storeByte_congr <;> simp
@[simp] theorem State.tableState_of_nextSweep (n : Fin 8) (out : Bool) (v : TableUnit) : (s.nextSweep n out).tableState v = s.tableState v := by simp [State.tableState]
@[simp] theorem State.storeByte_of_nextSweep (n : Fin 8) (out : Bool) (cell : Nat) : (s.nextSweep n out).storeByte cell = s.storeByte cell := by apply State.storeByte_congr <;> simp
@[simp] theorem State.tableState_of_takePulse (out : Bool) (v : TableUnit) : (s.takePulse out).tableState v = s.tableState v := by simp [State.tableState]
@[simp] theorem State.storeByte_of_takePulse (out : Bool) (cell : Nat) : (s.takePulse out).storeByte cell = s.storeByte cell := by apply State.storeByte_congr <;> simp
@[simp] theorem State.slot_of_readGranted (j : Fin 8) : (s.readGranted).slot j = s.slot j := by simp [State.slot]
@[simp] theorem State.users_of_readGranted (y : StockSet) : (s.readGranted).users y = s.users y := by cases y <;> simp [State.users]
@[simp] theorem State.cover_of_readGranted (j : Fin 8) : (s.readGranted).cover j = s.cover j := by simp [State.cover]
@[simp] theorem State.bank_of_readGranted (j : Fin 2) : (s.readGranted).bank j = s.bank j := by simp [State.bank]
@[simp] theorem State.stuck_of_readGranted (k : Source) : (s.readGranted).stuck k = s.stuck k := by simp [State.stuck]
@[simp] theorem State.tableState_of_readGranted (v : TableUnit) : (s.readGranted).tableState v = s.tableState v := by simp [State.tableState]
@[simp] theorem State.expo_of_readGranted : (s.readGranted).expo = s.expo := by simp [State.expo]
@[simp] theorem State.storeWords_of_readGranted : (s.readGranted).storeWords = s.storeWords := by simp [State.storeWords]
@[simp] theorem State.controlBase_of_readGranted : (s.readGranted).controlBase = s.controlBase := by simp [State.controlBase, State.storeWords]
@[simp] theorem State.storeByte_of_readGranted (cell : Nat) : (s.readGranted).storeByte cell = s.storeByte cell := by apply State.storeByte_congr <;> simp
@[simp] theorem State.slot_of_grantTo (g : GrantUnit) (j : Fin 8) : (s.grantTo g).slot j = s.slot j := by simp [State.slot]
@[simp] theorem State.users_of_grantTo (g : GrantUnit) (y : StockSet) : (s.grantTo g).users y = s.users y := by cases y <;> simp [State.users]
@[simp] theorem State.cover_of_grantTo (g : GrantUnit) (j : Fin 8) : (s.grantTo g).cover j = s.cover j := by simp [State.cover]
@[simp] theorem State.bank_of_grantTo (g : GrantUnit) (j : Fin 2) : (s.grantTo g).bank j = s.bank j := by simp [State.bank]
@[simp] theorem State.stuck_of_grantTo (g : GrantUnit) (k : Source) : (s.grantTo g).stuck k = s.stuck k := by simp [State.stuck]
@[simp] theorem State.tableState_of_grantTo (g : GrantUnit) (v : TableUnit) : (s.grantTo g).tableState v = s.tableState v := by simp [State.tableState]
@[simp] theorem State.expo_of_grantTo (g : GrantUnit) : (s.grantTo g).expo = s.expo := by simp [State.expo]
@[simp] theorem State.storeByte_of_grantTo (g : GrantUnit) (cell : Nat) : (s.grantTo g).storeByte cell = s.storeByte cell := by apply State.storeByte_congr <;> simp
@[simp] theorem State.slot_of_arbitrate (j : Fin 8) : (s.arbitrate).slot j = s.slot j := by simp [State.slot]
@[simp] theorem State.users_of_arbitrate (y : StockSet) : (s.arbitrate).users y = s.users y := by cases y <;> simp [State.users]
@[simp] theorem State.cover_of_arbitrate (j : Fin 8) : (s.arbitrate).cover j = s.cover j := by simp [State.cover]
@[simp] theorem State.bank_of_arbitrate (j : Fin 2) : (s.arbitrate).bank j = s.bank j := by simp [State.bank]
@[simp] theorem State.stuck_of_arbitrate (k : Source) : (s.arbitrate).stuck k = s.stuck k := by simp [State.stuck]
@[simp] theorem State.tableState_of_arbitrate (v : TableUnit) : (s.arbitrate).tableState v = s.tableState v := by simp [State.tableState]
@[simp] theorem State.expo_of_arbitrate : (s.arbitrate).expo = s.expo := by simp [State.expo]
@[simp] theorem State.storeByte_of_arbitrate (cell : Nat) : (s.arbitrate).storeByte cell = s.storeByte cell := by apply State.storeByte_congr <;> simp
@[simp] theorem State.slot_of_endUnit (j : Fin 8) : (s.endUnit).slot j = s.slot j := by simp [State.slot]
@[simp] theorem State.users_of_endUnit (y : StockSet) : (s.endUnit).users y = s.users y := by cases y <;> simp [State.users]
@[simp] theorem State.cover_of_endUnit (j : Fin 8) : (s.endUnit).cover j = s.cover j := by simp [State.cover]
@[simp] theorem State.bank_of_endUnit (j : Fin 2) : (s.endUnit).bank j = s.bank j := by simp [State.bank]
@[simp] theorem State.stuck_of_endUnit (k : Source) : (s.endUnit).stuck k = s.stuck k := by simp [State.stuck]
@[simp] theorem State.tableState_of_endUnit (v : TableUnit) : (s.endUnit).tableState v = s.tableState v := by simp [State.tableState]
@[simp] theorem State.expo_of_endUnit : (s.endUnit).expo = s.expo := by simp [State.expo]
@[simp] theorem State.storeByte_of_endUnit (cell : Nat) : (s.endUnit).storeByte cell = s.storeByte cell := by apply State.storeByte_congr <;> simp
@[simp] theorem State.slot_of_dropBeat (j : Fin 8) : (s.dropBeat).slot j = s.slot j := by simp [State.slot]
@[simp] theorem State.users_of_dropBeat (y : StockSet) : (s.dropBeat).users y = s.users y := by cases y <;> simp [State.users]
@[simp] theorem State.cover_of_dropBeat (j : Fin 8) : (s.dropBeat).cover j = s.cover j := by simp [State.cover]
@[simp] theorem State.bank_of_dropBeat (j : Fin 2) : (s.dropBeat).bank j = s.bank j := by simp [State.bank]
@[simp] theorem State.stuck_of_dropBeat (k : Source) : (s.dropBeat).stuck k = s.stuck k := by simp [State.stuck]
@[simp] theorem State.tableState_of_dropBeat (v : TableUnit) : (s.dropBeat).tableState v = s.tableState v := by simp [State.tableState]
@[simp] theorem State.expo_of_dropBeat : (s.dropBeat).expo = s.expo := by simp [State.expo]
@[simp] theorem State.storeByte_of_dropBeat (cell : Nat) : (s.dropBeat).storeByte cell = s.storeByte cell := by apply State.storeByte_congr <;> simp
@[simp] theorem State.slot_of_recordCommand (o t : Byte) (r : CmdOutcome) (j : Fin 8) : (s.recordCommand o t r).slot j = s.slot j := by simp [State.slot]
@[simp] theorem State.users_of_recordCommand (o t : Byte) (r : CmdOutcome) (y : StockSet) : (s.recordCommand o t r).users y = s.users y := by cases y <;> simp [State.users]
@[simp] theorem State.cover_of_recordCommand (o t : Byte) (r : CmdOutcome) (j : Fin 8) : (s.recordCommand o t r).cover j = s.cover j := by simp [State.cover]
@[simp] theorem State.bank_of_recordCommand (o t : Byte) (r : CmdOutcome) (j : Fin 2) : (s.recordCommand o t r).bank j = s.bank j := by simp [State.bank]
@[simp] theorem State.expo_of_recordCommand (o t : Byte) (r : CmdOutcome) : (s.recordCommand o t r).expo = s.expo := by simp [State.expo]
@[simp] theorem State.storeWords_of_recordCommand (o t : Byte) (r : CmdOutcome) : (s.recordCommand o t r).storeWords = s.storeWords := by simp [State.storeWords]
@[simp] theorem State.controlBase_of_recordCommand (o t : Byte) (r : CmdOutcome) : (s.recordCommand o t r).controlBase = s.controlBase := by simp [State.controlBase, State.storeWords]
@[simp] theorem State.storeByte_of_recordCommand (o t : Byte) (r : CmdOutcome) (cell : Nat) : (s.recordCommand o t r).storeByte cell = s.storeByte cell := by apply State.storeByte_congr <;> simp
@[simp] theorem State.slot_of_seek (j : Fin 8) : (s.seek).slot j = s.slot j := by simp [State.slot]
@[simp] theorem State.users_of_seek (y : StockSet) : (s.seek).users y = s.users y := by cases y <;> simp [State.users]
@[simp] theorem State.cover_of_seek (j : Fin 8) : (s.seek).cover j = s.cover j := by simp [State.cover]
@[simp] theorem State.bank_of_seek (j : Fin 2) : (s.seek).bank j = s.bank j := by simp [State.bank]
@[simp] theorem State.tableState_of_seek (v : TableUnit) : (s.seek).tableState v = s.tableState v := by simp [State.tableState]
@[simp] theorem State.expo_of_seek : (s.seek).expo = s.expo := by simp [State.expo]
@[simp] theorem State.storeWords_of_seek : (s.seek).storeWords = s.storeWords := by simp [State.storeWords]
@[simp] theorem State.controlBase_of_seek : (s.seek).controlBase = s.controlBase := by simp [State.controlBase, State.storeWords]
@[simp] theorem State.storeByte_of_seek (cell : Nat) : (s.seek).storeByte cell = s.storeByte cell := by apply State.storeByte_congr <;> simp
@[simp] theorem State.tableState_of_slip (v : TableUnit) : (s.slip).tableState v = s.tableState v := by simp [State.tableState]
@[simp] theorem State.storeByte_of_slip (cell : Nat) : (s.slip).storeByte cell = s.storeByte cell := by apply State.storeByte_congr <;> simp
@[simp] theorem State.tableState_of_loseLock (v : TableUnit) : (s.loseLock).tableState v = s.tableState v := by simp [State.tableState]
@[simp] theorem State.storeByte_of_loseLock (cell : Nat) : (s.loseLock).storeByte cell = s.storeByte cell := by apply State.storeByte_congr <;> simp
@[simp] theorem State.tableState_of_applyJudgement (j : Judgement) (v : TableUnit) : (s.applyJudgement j).tableState v = s.tableState v := by simp [State.tableState]
@[simp] theorem State.storeByte_of_applyJudgement (j : Judgement) (cell : Nat) : (s.applyJudgement j).storeByte cell = s.storeByte cell := by apply State.storeByte_congr <;> simp
@[simp] theorem State.slot_of_measure (j : Fin 8) : (s.measure).slot j = s.slot j := by simp [State.slot]
@[simp] theorem State.users_of_measure (y : StockSet) : (s.measure).users y = s.users y := by cases y <;> simp [State.users]
@[simp] theorem State.cover_of_measure (j : Fin 8) : (s.measure).cover j = s.cover j := by simp [State.cover]
@[simp] theorem State.bank_of_measure (j : Fin 2) : (s.measure).bank j = s.bank j := by simp [State.bank]
@[simp] theorem State.stuck_of_measure (k : Source) : (s.measure).stuck k = s.stuck k := by simp [State.stuck]
@[simp] theorem State.tableState_of_measure (v : TableUnit) : (s.measure).tableState v = s.tableState v := by simp [State.tableState]
@[simp] theorem State.expo_of_measure : (s.measure).expo = s.expo := by simp [State.expo]
@[simp] theorem State.storeWords_of_measure : (s.measure).storeWords = s.storeWords := by simp [State.storeWords]
@[simp] theorem State.controlBase_of_measure : (s.measure).controlBase = s.controlBase := by simp [State.controlBase, State.storeWords]
@[simp] theorem State.storeByte_of_measure (cell : Nat) : (s.measure).storeByte cell = s.storeByte cell := by apply State.storeByte_congr <;> simp
@[simp] theorem State.slot_of_arise (ds : List Damage) (j : Fin 8) : (s.arise ds).slot j = s.slot j := by simp [State.slot]
@[simp] theorem State.users_of_arise (ds : List Damage) (y : StockSet) : (s.arise ds).users y = s.users y := by cases y <;> simp [State.users]
@[simp] theorem State.cover_of_arise (ds : List Damage) (j : Fin 8) : (s.arise ds).cover j = s.cover j := by simp [State.cover]
@[simp] theorem State.bank_of_arise (ds : List Damage) (j : Fin 2) : (s.arise ds).bank j = s.bank j := by simp [State.bank]
@[simp] theorem State.stuck_of_arise (ds : List Damage) (k : Source) : (s.arise ds).stuck k = s.stuck k := by simp [State.stuck]
@[simp] theorem State.tableState_of_arise (ds : List Damage) (v : TableUnit) : (s.arise ds).tableState v = s.tableState v := by simp [State.tableState]
@[simp] theorem State.expo_of_arise (ds : List Damage) : (s.arise ds).expo = s.expo := by simp [State.expo]
@[simp] theorem State.storeWords_of_arise (ds : List Damage) : (s.arise ds).storeWords = s.storeWords := by simp [State.storeWords]
@[simp] theorem State.controlBase_of_arise (ds : List Damage) : (s.arise ds).controlBase = s.controlBase := by simp [State.controlBase, State.storeWords]
@[simp] theorem State.storeByte_of_arise (ds : List Damage) (cell : Nat) : (s.arise ds).storeByte cell = s.storeByte cell := by apply State.storeByte_congr <;> simp
@[simp] theorem State.slot_of_setNow (x : Tick) (j : Fin 8) : (s.setNow x).slot j = s.slot j := rfl
@[simp] theorem State.users_of_setNow (x : Tick) (y : StockSet) : (s.setNow x).users y = s.users y := by cases y <;> rfl
@[simp] theorem State.cover_of_setNow (x : Tick) (j : Fin 8) : (s.setNow x).cover j = s.cover j := rfl
@[simp] theorem State.bank_of_setNow (x : Tick) (j : Fin 2) : (s.setNow x).bank j = s.bank j := rfl
@[simp] theorem State.stuck_of_setNow (x : Tick) (k : Source) : (s.setNow x).stuck k = s.stuck k := rfl
@[simp] theorem State.tableState_of_setNow (x : Tick) (v : TableUnit) : (s.setNow x).tableState v = s.tableState v := rfl
@[simp] theorem State.expo_of_setNow (x : Tick) : (s.setNow x).expo = s.expo := rfl
@[simp] theorem State.storeWords_of_setNow (x : Tick) : (s.setNow x).storeWords = s.storeWords := rfl
@[simp] theorem State.controlBase_of_setNow (x : Tick) : (s.setNow x).controlBase = s.controlBase := rfl
@[simp] theorem State.storeByte_of_setNow (x : Tick) (cell : Nat) : (s.setNow x).storeByte cell = s.storeByte cell := rfl
@[simp] theorem State.slot_of_setPending (x : List Instr) (j : Fin 8) : (s.setPending x).slot j = s.slot j := rfl
@[simp] theorem State.users_of_setPending (x : List Instr) (y : StockSet) : (s.setPending x).users y = s.users y := by cases y <;> rfl
@[simp] theorem State.cover_of_setPending (x : List Instr) (j : Fin 8) : (s.setPending x).cover j = s.cover j := rfl
@[simp] theorem State.bank_of_setPending (x : List Instr) (j : Fin 2) : (s.setPending x).bank j = s.bank j := rfl
@[simp] theorem State.stuck_of_setPending (x : List Instr) (k : Source) : (s.setPending x).stuck k = s.stuck k := rfl
@[simp] theorem State.tableState_of_setPending (x : List Instr) (v : TableUnit) : (s.setPending x).tableState v = s.tableState v := rfl
@[simp] theorem State.expo_of_setPending (x : List Instr) : (s.setPending x).expo = s.expo := rfl
@[simp] theorem State.storeWords_of_setPending (x : List Instr) : (s.setPending x).storeWords = s.storeWords := rfl
@[simp] theorem State.controlBase_of_setPending (x : List Instr) : (s.setPending x).controlBase = s.controlBase := rfl
@[simp] theorem State.storeByte_of_setPending (x : List Instr) (cell : Nat) : (s.setPending x).storeByte cell = s.storeByte cell := rfl
@[simp] theorem State.slot_of_setPins (x : Pins) (j : Fin 8) : (s.setPins x).slot j = s.slot j := rfl
@[simp] theorem State.users_of_setPins (x : Pins) (y : StockSet) : (s.setPins x).users y = s.users y := by cases y <;> rfl
@[simp] theorem State.cover_of_setPins (x : Pins) (j : Fin 8) : (s.setPins x).cover j = s.cover j := rfl
@[simp] theorem State.bank_of_setPins (x : Pins) (j : Fin 2) : (s.setPins x).bank j = s.bank j := rfl
@[simp] theorem State.stuck_of_setPins (x : Pins) (k : Source) : (s.setPins x).stuck k = s.stuck k := rfl
@[simp] theorem State.tableState_of_setPins (x : Pins) (v : TableUnit) : (s.setPins x).tableState v = s.tableState v := rfl
@[simp] theorem State.expo_of_setPins (x : Pins) : (s.setPins x).expo = s.expo := rfl
@[simp] theorem State.storeWords_of_setPins (x : Pins) : (s.setPins x).storeWords = s.storeWords := rfl
@[simp] theorem State.controlBase_of_setPins (x : Pins) : (s.setPins x).controlBase = s.controlBase := rfl
@[simp] theorem State.storeByte_of_setPins (x : Pins) (cell : Nat) : (s.setPins x).storeByte cell = s.storeByte cell := rfl
@[simp] theorem State.slot_of_setLink (x : LinkPort) (j : Fin 8) : (s.setLink x).slot j = s.slot j := rfl
@[simp] theorem State.users_of_setLink (x : LinkPort) (y : StockSet) : (s.setLink x).users y = s.users y := by cases y <;> rfl
@[simp] theorem State.cover_of_setLink (x : LinkPort) (j : Fin 8) : (s.setLink x).cover j = s.cover j := rfl
@[simp] theorem State.bank_of_setLink (x : LinkPort) (j : Fin 2) : (s.setLink x).bank j = s.bank j := rfl
@[simp] theorem State.stuck_of_setLink (x : LinkPort) (k : Source) : (s.setLink x).stuck k = s.stuck k := rfl
@[simp] theorem State.tableState_of_setLink (x : LinkPort) (v : TableUnit) : (s.setLink x).tableState v = s.tableState v := rfl
@[simp] theorem State.expo_of_setLink (x : LinkPort) : (s.setLink x).expo = s.expo := rfl
@[simp] theorem State.storeWords_of_setLink (x : LinkPort) : (s.setLink x).storeWords = s.storeWords := rfl
@[simp] theorem State.controlBase_of_setLink (x : LinkPort) : (s.setLink x).controlBase = s.controlBase := rfl
@[simp] theorem State.storeByte_of_setLink (x : LinkPort) (cell : Nat) : (s.setLink x).storeByte cell = s.storeByte cell := rfl
@[simp] theorem State.slot_of_setQueue (x : List Beat) (j : Fin 8) : (s.setQueue x).slot j = s.slot j := rfl
@[simp] theorem State.users_of_setQueue (x : List Beat) (y : StockSet) : (s.setQueue x).users y = s.users y := by cases y <;> rfl
@[simp] theorem State.cover_of_setQueue (x : List Beat) (j : Fin 8) : (s.setQueue x).cover j = s.cover j := rfl
@[simp] theorem State.bank_of_setQueue (x : List Beat) (j : Fin 2) : (s.setQueue x).bank j = s.bank j := rfl
@[simp] theorem State.stuck_of_setQueue (x : List Beat) (k : Source) : (s.setQueue x).stuck k = s.stuck k := rfl
@[simp] theorem State.tableState_of_setQueue (x : List Beat) (v : TableUnit) : (s.setQueue x).tableState v = s.tableState v := rfl
@[simp] theorem State.expo_of_setQueue (x : List Beat) : (s.setQueue x).expo = s.expo := rfl
@[simp] theorem State.storeWords_of_setQueue (x : List Beat) : (s.setQueue x).storeWords = s.storeWords := rfl
@[simp] theorem State.controlBase_of_setQueue (x : List Beat) : (s.setQueue x).controlBase = s.controlBase := rfl
@[simp] theorem State.storeByte_of_setQueue (x : List Beat) (cell : Nat) : (s.setQueue x).storeByte cell = s.storeByte cell := rfl
@[simp] theorem State.slot_of_setSc (x : StoreController) (j : Fin 8) : (s.setSc x).slot j = s.slot j := rfl
@[simp] theorem State.users_of_setSc (x : StoreController) (y : StockSet) : (s.setSc x).users y = s.users y := by cases y <;> rfl
@[simp] theorem State.cover_of_setSc (x : StoreController) (j : Fin 8) : (s.setSc x).cover j = s.cover j := rfl
@[simp] theorem State.bank_of_setSc (x : StoreController) (j : Fin 2) : (s.setSc x).bank j = s.bank j := rfl
@[simp] theorem State.stuck_of_setSc (x : StoreController) (k : Source) : (s.setSc x).stuck k = s.stuck k := rfl
@[simp] theorem State.tableState_of_setSc (x : StoreController) (v : TableUnit) : (s.setSc x).tableState v = s.tableState v := rfl
@[simp] theorem State.expo_of_setSc (x : StoreController) : (s.setSc x).expo = s.expo := rfl
@[simp] theorem State.storeByte_of_setSc (x : StoreController) (cell : Nat) : (s.setSc x).storeByte cell = s.storeByte cell := rfl
@[simp] theorem State.cover_of_setSlots (x : SlotTable) (j : Fin 8) : (s.setSlots x).cover j = s.cover j := rfl
@[simp] theorem State.bank_of_setSlots (x : SlotTable) (j : Fin 2) : (s.setSlots x).bank j = s.bank j := rfl
@[simp] theorem State.stuck_of_setSlots (x : SlotTable) (k : Source) : (s.setSlots x).stuck k = s.stuck k := rfl
@[simp] theorem State.tableState_of_setSlots (x : SlotTable) (v : TableUnit) : (s.setSlots x).tableState v = s.tableState v := rfl
@[simp] theorem State.expo_of_setSlots (x : SlotTable) : (s.setSlots x).expo = s.expo := rfl
@[simp] theorem State.storeWords_of_setSlots (x : SlotTable) : (s.setSlots x).storeWords = s.storeWords := rfl
@[simp] theorem State.controlBase_of_setSlots (x : SlotTable) : (s.setSlots x).controlBase = s.controlBase := rfl
@[simp] theorem State.storeByte_of_setSlots (x : SlotTable) (cell : Nat) : (s.setSlots x).storeByte cell = s.storeByte cell := rfl
@[simp] theorem State.slot_of_setFill (x : FillTracker) (j : Fin 8) : (s.setFill x).slot j = s.slot j := rfl
@[simp] theorem State.users_of_setFill (x : FillTracker) (y : StockSet) : (s.setFill x).users y = s.users y := by cases y <;> rfl
@[simp] theorem State.bank_of_setFill (x : FillTracker) (j : Fin 2) : (s.setFill x).bank j = s.bank j := rfl
@[simp] theorem State.stuck_of_setFill (x : FillTracker) (k : Source) : (s.setFill x).stuck k = s.stuck k := rfl
@[simp] theorem State.tableState_of_setFill (x : FillTracker) (v : TableUnit) : (s.setFill x).tableState v = s.tableState v := rfl
@[simp] theorem State.expo_of_setFill (x : FillTracker) : (s.setFill x).expo = s.expo := rfl
@[simp] theorem State.storeWords_of_setFill (x : FillTracker) : (s.setFill x).storeWords = s.storeWords := rfl
@[simp] theorem State.controlBase_of_setFill (x : FillTracker) : (s.setFill x).controlBase = s.controlBase := rfl
@[simp] theorem State.storeByte_of_setFill (x : FillTracker) (cell : Nat) : (s.setFill x).storeByte cell = s.storeByte cell := rfl
@[simp] theorem State.slot_of_setControl (x : ControlCapture) (j : Fin 8) : (s.setControl x).slot j = s.slot j := rfl
@[simp] theorem State.users_of_setControl (x : ControlCapture) (y : StockSet) : (s.setControl x).users y = s.users y := by cases y <;> rfl
@[simp] theorem State.cover_of_setControl (x : ControlCapture) (j : Fin 8) : (s.setControl x).cover j = s.cover j := rfl
@[simp] theorem State.bank_of_setControl (x : ControlCapture) (j : Fin 2) : (s.setControl x).bank j = s.bank j := rfl
@[simp] theorem State.stuck_of_setControl (x : ControlCapture) (k : Source) : (s.setControl x).stuck k = s.stuck k := rfl
@[simp] theorem State.expo_of_setControl (x : ControlCapture) : (s.setControl x).expo = s.expo := rfl
@[simp] theorem State.storeWords_of_setControl (x : ControlCapture) : (s.setControl x).storeWords = s.storeWords := rfl
@[simp] theorem State.controlBase_of_setControl (x : ControlCapture) : (s.setControl x).controlBase = s.controlBase := rfl
@[simp] theorem State.storeByte_of_setControl (x : ControlCapture) (cell : Nat) : (s.setControl x).storeByte cell = s.storeByte cell := rfl
@[simp] theorem State.slot_of_setScan (x : ScanUnit) (j : Fin 8) : (s.setScan x).slot j = s.slot j := rfl
@[simp] theorem State.users_of_setScan (x : ScanUnit) (y : StockSet) : (s.setScan x).users y = s.users y := by cases y <;> rfl
@[simp] theorem State.cover_of_setScan (x : ScanUnit) (j : Fin 8) : (s.setScan x).cover j = s.cover j := rfl
@[simp] theorem State.bank_of_setScan (x : ScanUnit) (j : Fin 2) : (s.setScan x).bank j = s.bank j := rfl
@[simp] theorem State.stuck_of_setScan (x : ScanUnit) (k : Source) : (s.setScan x).stuck k = s.stuck k := rfl
@[simp] theorem State.tableState_of_setScan (x : ScanUnit) (v : TableUnit) : (s.setScan x).tableState v = s.tableState v := rfl
@[simp] theorem State.expo_of_setScan (x : ScanUnit) : (s.setScan x).expo = s.expo := rfl
@[simp] theorem State.storeWords_of_setScan (x : ScanUnit) : (s.setScan x).storeWords = s.storeWords := rfl
@[simp] theorem State.controlBase_of_setScan (x : ScanUnit) : (s.setScan x).controlBase = s.controlBase := rfl
@[simp] theorem State.storeByte_of_setScan (x : ScanUnit) (cell : Nat) : (s.setScan x).storeByte cell = s.storeByte cell := rfl
@[simp] theorem State.slot_of_setEngine (x : Engine) (j : Fin 8) : (s.setEngine x).slot j = s.slot j := rfl
@[simp] theorem State.users_of_setEngine (x : Engine) (y : StockSet) : (s.setEngine x).users y = s.users y := by cases y <;> rfl
@[simp] theorem State.cover_of_setEngine (x : Engine) (j : Fin 8) : (s.setEngine x).cover j = s.cover j := rfl
@[simp] theorem State.bank_of_setEngine (x : Engine) (j : Fin 2) : (s.setEngine x).bank j = s.bank j := rfl
@[simp] theorem State.stuck_of_setEngine (x : Engine) (k : Source) : (s.setEngine x).stuck k = s.stuck k := rfl
@[simp] theorem State.tableState_of_setEngine (x : Engine) (v : TableUnit) : (s.setEngine x).tableState v = s.tableState v := rfl
@[simp] theorem State.storeWords_of_setEngine (x : Engine) : (s.setEngine x).storeWords = s.storeWords := rfl
@[simp] theorem State.controlBase_of_setEngine (x : Engine) : (s.setEngine x).controlBase = s.controlBase := rfl
@[simp] theorem State.storeByte_of_setEngine (x : Engine) (cell : Nat) : (s.setEngine x).storeByte cell = s.storeByte cell := rfl
@[simp] theorem State.slot_of_setFeeder (x : Feeder) (j : Fin 8) : (s.setFeeder x).slot j = s.slot j := rfl
@[simp] theorem State.users_of_setFeeder (x : Feeder) (y : StockSet) : (s.setFeeder x).users y = s.users y := by cases y <;> rfl
@[simp] theorem State.cover_of_setFeeder (x : Feeder) (j : Fin 8) : (s.setFeeder x).cover j = s.cover j := rfl
@[simp] theorem State.stuck_of_setFeeder (x : Feeder) (k : Source) : (s.setFeeder x).stuck k = s.stuck k := rfl
@[simp] theorem State.tableState_of_setFeeder (x : Feeder) (v : TableUnit) : (s.setFeeder x).tableState v = s.tableState v := rfl
@[simp] theorem State.expo_of_setFeeder (x : Feeder) : (s.setFeeder x).expo = s.expo := rfl
@[simp] theorem State.storeWords_of_setFeeder (x : Feeder) : (s.setFeeder x).storeWords = s.storeWords := rfl
@[simp] theorem State.controlBase_of_setFeeder (x : Feeder) : (s.setFeeder x).controlBase = s.controlBase := rfl
@[simp] theorem State.storeByte_of_setFeeder (x : Feeder) (cell : Nat) : (s.setFeeder x).storeByte cell = s.storeByte cell := rfl
@[simp] theorem State.slot_of_setDrive (x : Drive) (j : Fin 8) : (s.setDrive x).slot j = s.slot j := rfl
@[simp] theorem State.users_of_setDrive (x : Drive) (y : StockSet) : (s.setDrive x).users y = s.users y := by cases y <;> rfl
@[simp] theorem State.cover_of_setDrive (x : Drive) (j : Fin 8) : (s.setDrive x).cover j = s.cover j := rfl
@[simp] theorem State.bank_of_setDrive (x : Drive) (j : Fin 2) : (s.setDrive x).bank j = s.bank j := rfl
@[simp] theorem State.stuck_of_setDrive (x : Drive) (k : Source) : (s.setDrive x).stuck k = s.stuck k := rfl
@[simp] theorem State.tableState_of_setDrive (x : Drive) (v : TableUnit) : (s.setDrive x).tableState v = s.tableState v := rfl
@[simp] theorem State.expo_of_setDrive (x : Drive) : (s.setDrive x).expo = s.expo := rfl
@[simp] theorem State.storeWords_of_setDrive (x : Drive) : (s.setDrive x).storeWords = s.storeWords := rfl
@[simp] theorem State.controlBase_of_setDrive (x : Drive) : (s.setDrive x).controlBase = s.controlBase := rfl
@[simp] theorem State.storeByte_of_setDrive (x : Drive) (cell : Nat) : (s.setDrive x).storeByte cell = s.storeByte cell := rfl
@[simp] theorem State.slot_of_setEvents (x : EventUnit) (j : Fin 8) : (s.setEvents x).slot j = s.slot j := rfl
@[simp] theorem State.users_of_setEvents (x : EventUnit) (y : StockSet) : (s.setEvents x).users y = s.users y := by cases y <;> rfl
@[simp] theorem State.cover_of_setEvents (x : EventUnit) (j : Fin 8) : (s.setEvents x).cover j = s.cover j := rfl
@[simp] theorem State.bank_of_setEvents (x : EventUnit) (j : Fin 2) : (s.setEvents x).bank j = s.bank j := rfl
@[simp] theorem State.tableState_of_setEvents (x : EventUnit) (v : TableUnit) : (s.setEvents x).tableState v = s.tableState v := rfl
@[simp] theorem State.expo_of_setEvents (x : EventUnit) : (s.setEvents x).expo = s.expo := rfl
@[simp] theorem State.storeWords_of_setEvents (x : EventUnit) : (s.setEvents x).storeWords = s.storeWords := rfl
@[simp] theorem State.controlBase_of_setEvents (x : EventUnit) : (s.setEvents x).controlBase = s.controlBase := rfl
@[simp] theorem State.storeByte_of_setEvents (x : EventUnit) (cell : Nat) : (s.setEvents x).storeByte cell = s.storeByte cell := rfl
@[simp] theorem State.slot_of_setMonitor (x : Monitor) (j : Fin 8) : (s.setMonitor x).slot j = s.slot j := rfl
@[simp] theorem State.users_of_setMonitor (x : Monitor) (y : StockSet) : (s.setMonitor x).users y = s.users y := by cases y <;> rfl
@[simp] theorem State.cover_of_setMonitor (x : Monitor) (j : Fin 8) : (s.setMonitor x).cover j = s.cover j := rfl
@[simp] theorem State.bank_of_setMonitor (x : Monitor) (j : Fin 2) : (s.setMonitor x).bank j = s.bank j := rfl
@[simp] theorem State.stuck_of_setMonitor (x : Monitor) (k : Source) : (s.setMonitor x).stuck k = s.stuck k := rfl
@[simp] theorem State.tableState_of_setMonitor (x : Monitor) (v : TableUnit) : (s.setMonitor x).tableState v = s.tableState v := rfl
@[simp] theorem State.expo_of_setMonitor (x : Monitor) : (s.setMonitor x).expo = s.expo := rfl
@[simp] theorem State.storeWords_of_setMonitor (x : Monitor) : (s.setMonitor x).storeWords = s.storeWords := rfl
@[simp] theorem State.controlBase_of_setMonitor (x : Monitor) : (s.setMonitor x).controlBase = s.controlBase := rfl
@[simp] theorem State.storeByte_of_setMonitor (x : Monitor) (cell : Nat) : (s.setMonitor x).storeByte cell = s.storeByte cell := rfl

end Sys2Proof.Machine
end

