-- ==== Sys2Proof/Laws/Events.lean ====
section
/-! SUPPORT. Raising a source, bit by bit and stretch by stretch, and the statements' `Raised`. -/

namespace Sys2Proof.Safety

open Machine

/-- No two sources share an index (R172). -/
theorem index_inj {i j : Source} : i.index = j.index ↔ i = j := by
  cases i <;> cases j <;> simp [Source.index]

/-- Setting the bit of one source. -/
theorem setBit_getLsbD (w : BitVec 16) (i j : Source) :
    (setBit w i).getLsbD j.index.val = (decide (j = i) || w.getLsbD j.index.val) := by
  cases i <;> cases j <;> simp [setBit, Source.index]

/-- A raise sets the sticky bit of its source and of no other (R173). -/
@[simp] theorem stuck_raise (s : State) (i j : Source) : (s.raise i).stuck j = (decide (j = i) || s.stuck j) := by
  simp only [State.stuck, State.raise, State.setEvents]
  exact setBit_getLsbD _ _ _

/-- Setting one sticky bit. -/
@[simp] theorem stuck_stick (s : State) (i j : Source) : (s.stick i).stuck j = (decide (j = i) || s.stuck j) := by
  simp only [State.stuck, State.stick, State.setEvents]
  exact setBit_getLsbD _ _ _

/-- A raise starts its own source's stretch (R172). -/
theorem stretch_raise (s : State) (i j : Source) :
    (s.raise i).events.stretch[j.index] = if j = i then some ⟨s.now, 1000⟩ else s.events.stretch[j.index] := by
  simp only [State.raise, State.setEvents, Config.pulseTicks]
  by_cases h : j = i
  · subst h; simp
  · have : i.index.val ≠ j.index.val := fun e => h (index_inj.1 (Fin.ext e.symm))
    simp [h, Vector.getElem_set_ne _ _ this]

@[simp] theorem raise_sweepPulse (s : State) (i : Source) : (s.raise i).events.sweepPulse = s.events.sweepPulse := rfl
@[simp] theorem raise_framePulse (s : State) (i : Source) : (s.raise i).events.framePulse = s.events.framePulse := rfl
@[simp] theorem raise_activity (s : State) (i : Source) : (s.raise i).events.activity = s.events.activity := rfl

/-- A sticky bit follows from the Event Unit alone. -/
theorem stuck_congr {s t : State} (h : t.events = s.events) (i : Source) : t.stuck i = s.stuck i := by
  unfold State.stuck; rw [h]

/-- Nothing raised. -/
theorem raised_nil {s t : State} (h : t.events = s.events) : Raised [] s t := by
  refine ⟨by simp, fun i _ => ⟨stuck_congr h i, by rw [h]⟩, by rw [h], by rw [h], by rw [h]⟩

/-- One more source raised. -/
theorem raised_cons {s u : State} {l : List Source} (h : Raised l s u) (i : Source) : Raised (i :: l) s (u.raise i) := by
  obtain ⟨h1, h2, h3, h4, h5⟩ := h
  refine ⟨fun j hj => ?_, fun j hj => ?_, h3, h4, h5⟩
  · rw [stuck_raise, stretch_raise]
    by_cases e : j = i
    · simp [e]
    · have := h1 j (by simpa [e] using hj)
      simp [e, this]
  · simp at hj
    rw [stuck_raise, stretch_raise]
    simp [hj.1, h2 j hj.2]

/-- `Raised` follows from the Event Unit and the tick. -/
theorem raised_congr {s u t : State} {l : List Source} (h : Raised l s u) (he : t.events = u.events) (hn : t.now = u.now) :
    Raised l s t := by
  obtain ⟨h1, h2, h3, h4, h5⟩ := h
  refine ⟨fun j hj => ?_, fun j hj => ?_, by rw [he, h3], by rw [he, h4], by rw [he, h5]⟩
  · rw [stuck_congr he, he, hn]; exact h1 j hj
  · rw [stuck_congr he, he]; exact h2 j hj

/-- `Raised` by the members of its list. -/
theorem raised_mem {s u : State} {l l' : List Source} (h : Raised l s u) (hm : ∀ i, i ∈ l ↔ i ∈ l') : Raised l' s u := by
  obtain ⟨h1, h2, h3⟩ := h
  exact ⟨fun i hi => h1 i ((hm i).2 hi), fun i hi => h2 i (fun hh => hi ((hm i).1 hh)), h3⟩

/-- A change of the scanner's state sets SCAN_UNLOCKED by the trigger mode in force (R102, R173). -/
theorem stuck_setScanState (s : State) (x : ScanState) (i : Source) : (s.setScanState x).stuck i =
    (s.stuck i || (decide (i = .scanUnlocked) && (s.mode .scanUnlocked).fires s.scan.state.unlocked x.unlocked)) := by
  unfold State.setScanState State.levelFrom
  have : (s.setScan { s.scan with state := x }).mode .scanUnlocked = s.mode .scanUnlocked := rfl
  rw [this]
  have : (s.setScan { s.scan with state := x }).raw .scanUnlocked = x.unlocked := rfl
  rw [this]
  split <;> rename_i h <;> simp [h, Bool.or_comm]

/-- A change of the scanner's state leaves the Event Unit but its sticky bits. -/
theorem setScanState_events (s : State) (x : ScanState) : (s.setScanState x).events = { s.events with sticky := (s.setScanState x).events.sticky } := by
  unfold State.setScanState State.levelFrom
  split <;> simp [State.stick]

/-- All a change of the scanner's state does. -/
theorem setScanState_eq (s : State) (x : ScanState) : s.setScanState x =
    { s with scan := { s.scan with state := x }, events := (s.setScanState x).events } := by
  unfold State.setScanState State.levelFrom
  split <;> rfl

/-- All a change of INTERLOCK does. -/
theorem setInterlock_eq (s : State) (x : Bool) : s.setInterlock x =
    { s with pins := { s.pins with interlock := x }, events := (s.setInterlock x).events } := by
  unfold State.setInterlock State.levelFrom
  split <;> rfl

/-- The level sources in LEVEL mode whose condition is true have their bits set (R173, R176). -/
theorem stuck_resample (s : State) (i : Source) : s.resample.stuck i = (s.stuck i || (i.isLevel && decide (s.mode i = .level) && s.raw i)) := by
  unfold State.resample
  have h1 : (s.stick .scanUnlocked).mode .interlockOpen = s.mode .interlockOpen := rfl
  have h2 : (s.stick .scanUnlocked).raw .interlockOpen = s.raw .interlockOpen := rfl
  by_cases a : s.mode .scanUnlocked = .level ∧ s.raw .scanUnlocked = true <;> by_cases c : s.mode .interlockOpen = .level ∧ s.raw .interlockOpen = true
   <;> simp only [a, c, if_true, if_false, h1, h2, and_self] <;> cases i <;> simp_all [Source.isLevel]

/-- Setting the level sources again leaves the Event Unit but its sticky bits. -/
theorem resample_events (s : State) : s.resample.events = { s.events with sticky := s.resample.events.sticky } := by
  simp only [State.resample]
  split <;> split <;> simp [State.stick]

end Sys2Proof.Safety
end

