-- ==== Sys2Proof/Laws/Gate.lean ====
section
/-! SUPPORT. What the tick gate, the expiry gate and a placement can do, once each. -/

namespace Sys2Proof.Machine

/-- A step taken at a tick the gate admits is its body. -/
theorem State.after_of_mayReach (s : State) (dt : Nat) (body : State → Result) (h : s.mayReach (s.now + dt) = true) :
    s.after dt body = body (s.setNow (s.now + dt)) := by
  simp [State.after, h]

/-- A step that answers a next state was admitted by the gate, and its body answered it. -/
theorem State.after_next {s t : State} {dt : Nat} {body : State → Result} (h : s.after dt body = .next t) :
    s.mayReach (s.now + dt) = true ∧ body (s.setNow (s.now + dt)) = .next t := by
  unfold State.after at h
  split at h
  · exact ⟨‹_›, h⟩
  · cases h

/-- The expiry of a running timer, at a tick the gate admits, is its body. -/
theorem State.atEnd_of_mayReach (s : State) (x : Timer) (body : State → Result) (h : s.mayReach x.ends = true) :
    s.atEnd (some x) body = body (s.setNow x.ends) := by
  simp [State.atEnd, h]

/-- An expiry that answers a next state is that of a running timer, at its end. -/
theorem State.atEnd_next {s t : State} {x : Option Timer} {body : State → Result} (h : s.atEnd x body = .next t) :
    ∃ y, x = some y ∧ s.mayReach y.ends = true ∧ body (s.setNow y.ends) = .next t := by
  unfold State.atEnd at h
  split at h
  · cases h
  · split at h
    · exact ⟨_, rfl, ‹_›, h⟩
    · cases h

/-- What the gate admits: the tick is not in the past, no running timer ends before it, and a step that is due lets
no tick pass. -/
theorem State.mayReach_iff (s : State) (u : Tick) :
    s.mayReach u = true ↔ s.now ≤ u ∧ (∀ x, some x ∈ s.timers → u ≤ x.ends) ∧ (u = s.now ∨ s.stepDue = false) := by
  unfold State.mayReach State.noneEndsBefore
  simp only [Bool.and_eq_true, Bool.or_eq_true, decide_eq_true_eq, List.all_eq_true, beq_iff_eq, Bool.not_eq_true',
    and_assoc]
  refine and_congr_right fun _ => and_congr_left fun _ => ⟨fun h x hx => ?_, fun h o ho => ?_⟩
  · simpa using h (some x) hx
  · cases o with
    | none => rfl
    | some x => simpa using h x ho

/-- The head beat of a unit in progress. -/
theorem State.headBeat_some {s : State} {b : Beat} (h : s.headBeat = some b) :
    ∃ n hold rest, s.sc.grant = some ⟨.placement (n + 1), hold⟩ ∧ s.queue = b :: rest := by
  unfold State.headBeat at h
  split at h
  · rename_i n hold hg
    split at h
    · cases h
    · obtain ⟨m, rfl⟩ : ∃ m, n = m + 1 := ⟨n - 1, by omega⟩
      cases hq : s.queue with
      | nil => simp [hq] at h
      | cons c rest =>
        simp only [hq, List.head?_cons, Option.some.injEq] at h
        exact ⟨m, hold, rest, hg, by rw [h]⟩
  · cases h

/-- A placement that answers a next state took the head beat of a unit in progress, inside the store, and its row
placed that beat's kind (R34, R39). -/
theorem State.place_next {s t : State} {dt : Nat} {body : State → Beat → BeatKind → Option State}
    (h : s.place dt body = .next t) :
    s.mayReach (s.now + dt) = true ∧ ∃ b n hold rest,
      s.sc.grant = some ⟨.placement (n + 1), hold⟩ ∧ s.queue = b :: rest ∧ b.addr < s.storeWords
        ∧ body (s.setNow (s.now + dt)).dropBeat b ((s.setNow (s.now + dt)).classify b) = some t := by
  obtain ⟨hr, hb⟩ := State.after_next h
  refine ⟨hr, ?_⟩
  split at hb
  · cases hb
  · rename_i b hh
    obtain ⟨n, hold, rest, hg, hq⟩ := State.headBeat_some hh
    split at hb
    · cases hb
    · rename_i ha
      split at hb
      · rename_i t' ht
        cases hb
        refine ⟨b, n, hold, rest, by simpa using hg, by simpa using hq, ?_, ht⟩
        simpa [State.storeWords] using ha
      · cases hb

/-- A placement of the head beat of a unit in progress, whose row places its kind. -/
theorem State.place_of_head (s t : State) (dt : Nat) (body : State → Beat → BeatKind → Option State) (b : Beat)
    (n : Nat) (hold : Timer) (rest : List Beat) (hr : s.mayReach (s.now + dt) = true)
    (hg : s.sc.grant = some ⟨.placement (n + 1), hold⟩) (hq : s.queue = b :: rest) (ha : b.addr < s.storeWords)
    (hb : body (s.setNow (s.now + dt)).dropBeat b ((s.setNow (s.now + dt)).classify b) = some t) :
    s.place dt body = .next t := by
  unfold State.place
  rw [State.after_of_mayReach s dt _ hr]
  have hh : (s.setNow (s.now + dt)).headBeat = some b := by simp [State.headBeat, hg, hq]
  have hs : ¬ (s.setNow (s.now + dt)).storeWords ≤ b.addr := by
    have : (s.setNow (s.now + dt)).storeWords = s.storeWords := rfl
    omega
  simp only [hh, hs, if_false, hb]

end Sys2Proof.Machine
end

