-- ==== Sys2Proof/Laws/Place.lean ====
section
/-! SUPPORT. A placement: the beat it takes, how the beat is classified, and the statements' `Keeps`,
`Placed` and `OnlyGrants`. -/

namespace Sys2Proof.Safety

open Machine

/-- The state with the head beat taken at tick `u` (R34). -/
def afterTake (s : State) (u left : Nat) (hold : Timer) (rest : List Beat) : State :=
  { s with now := u, queue := rest, sc := { s.sc with grant := some ⟨.placement left, hold⟩ } }

/-- Taking the head beat. -/
theorem dropBeat_eq {s : State} {u left : Nat} {hold : Timer} {b : Beat} {rest : List Beat}
    (hg : s.sc.grant = some ⟨.placement (left + 1), hold⟩) (hq : s.queue = b :: rest) :
    (s.setNow u).dropBeat = afterTake s u left hold rest := by
  simp [State.dropBeat, State.mapUnit, State.setNow, State.setQueue, State.setSc, hg, hq, GrantUnit.takeBeat, afterTake]

/-- A placement whose body answers. -/
theorem place_eq {s t : State} {dt : Nat} {body : State → Beat → BeatKind → Option State} {b : Beat}
    {n : Nat} {hold : Timer} {rest : List Beat} (h : Placing s dt b n hold rest)
    (hb : body (afterTake s (s.now + dt) n hold rest) b (s.classify b) = some t) : s.place dt body = .next t := by
  obtain ⟨h1, h2, h3, h4⟩ := h
  apply State.place_of_head s t dt body b n hold rest h1 h2 h3 h4
  rw [dropBeat_eq h2 h3]; exact hb

/-- Z is CB plus the control region (R133). -/
theorem controlBase_add (s : State) : s.controlBase + 262144 = s.storeWords := by
  unfold State.controlBase State.storeWords
  cases s.sc.size <;> simp [StoreSize.words, Config.controlWords]

/-- A beat in the control region is classified by its area (R39 step 2). -/
theorem classify_control {s : State} {b : Beat} {o : Nat} (h : ControlBeat s b o) : s.classify b = controlKind o b := by
  obtain ⟨h1, h2⟩ := h
  unfold State.classify
  rw [if_neg h1, if_pos (by omega), h2]; simp

/-- A placement of a beat of a known kind. -/
theorem place_kind {s t : State} {dt : Nat} {body : State → Beat → BeatKind → Option State} {b : Beat}
    {n : Nat} {hold : Timer} {rest : List Beat} {k : BeatKind} (h : Placing s dt b n hold rest) (hk : s.classify b = k)
    (hb : body (afterTake s (s.now + dt) n hold rest) b k = some t) : s.place dt body = .next t :=
  place_eq h (hk ▸ hb)
/-- The last word of a region (R2). -/
theorem last_eq (x : Slot) : x.last = x.base + (x.height - 1) * x.pitch + x.width - 1 := rfl

/-- A picture word is found at its line and column (R2). -/
theorem locate_of_picture {x : Slot} {a l c : Nat} (hw : x.width ≤ x.pitch) (h : IsPicture x a l c) :
    x.locate a = some (l, c) := by
  obtain ⟨h1, h2, h3, h4⟩ := h
  have hp : 0 < x.pitch := by omega
  have e1 : a - x.base = c + x.pitch * l := by rw [h2, Nat.mul_comm]; omega
  have e2 : (a - x.base) % x.pitch = c := by
    rw [e1, Nat.add_mul_mod_self_left, Nat.mod_eq_of_lt (by omega)]
  have e3 : (a - x.base) / x.pitch = l := by
    rw [e1, Nat.add_mul_div_left _ _ hp, Nat.div_eq_of_lt (by omega)]; omega
  have e4 : l * x.pitch ≤ (x.height - 1) * x.pitch := Nat.mul_le_mul_right _ (by omega)
  unfold Slot.locate
  rw [if_pos ⟨h1, by omega, by rw [last_eq]; omega, by omega⟩, e2, e3]

/-- What is found at a line and column is a picture word (R2). -/
theorem picture_of_locate {x : Slot} {a l c : Nat} (hs : x.state ≠ .vacant → 0 < x.width ∧ 0 < x.height ∧ x.width ≤ x.pitch)
    (h : x.locate a = some (l, c)) : IsPicture x a l c := by
  unfold Slot.locate at h
  split at h
  · rename_i hh
    obtain ⟨h1, h2, h3, h4⟩ := hh
    obtain ⟨w1, w2, w3⟩ := hs h1
    simp only [Option.some.injEq, Prod.mk.injEq] at h
    obtain ⟨rfl, rfl⟩ := h
    have hp : 0 < x.pitch := by omega
    have e := Nat.div_add_mod (a - x.base) x.pitch
    refine ⟨h1, ?_, ?_, h4⟩
    · rw [Nat.mul_comm ((a - x.base) / x.pitch)]; omega
    · by_contra hc
      have : x.height * x.pitch ≤ (a - x.base) / x.pitch * x.pitch := Nat.mul_le_mul_right _ (by omega)
      rw [Nat.mul_comm ((a - x.base) / x.pitch)] at this
      rw [last_eq] at h3
      have e5 : x.height * x.pitch = (x.height - 1) * x.pitch + x.pitch := by
        obtain ⟨m, hm⟩ : ∃ m, x.height = m + 1 := ⟨x.height - 1, by omega⟩
        rw [hm]; simp [Nat.add_mul]
      omega
  · cases h

/-- A picture word is classified to its slot (R39 steps 3 and 4). -/
theorem classify_picture {s : State} {b : Beat} {n : Fin 8} {l c : Nat} (hr : RegionsDisjoint s)
    (he : b.enables ≠ 0) (hp : IsPicture (s.slot n) b.addr l c) : s.classify b = .picture n := by
  obtain ⟨r1, r2, r3⟩ := hr
  have hn := r1 n hp.1
  have hl := locate_of_picture hn.2.2.1 hp
  have hlast : b.addr ≤ (s.slot n).last ∧ (s.slot n).base ≤ b.addr := by
    unfold Slot.locate at hl; split at hl
    · rename_i h; exact ⟨h.2.2.1, h.2.1⟩
    · cases hl
  have huniq : ∀ m, ((s.slot m).locate b.addr).isSome = true ↔ m = n := by
    intro m
    constructor
    · intro h
      by_contra hm
      obtain ⟨⟨l', c'⟩, h'⟩ := Option.isSome_iff_exists.1 h
      unfold Slot.locate at h'; split at h'
      · rename_i h2
        have := r2 m n hm h2.1 hp.1
        omega
      · cases h'
    · rintro rfl; rw [hl]; rfl
  have hf : s.pictureSlot b.addr = some n := by
    unfold State.pictureSlot
    cases h : (List.finRange 8).find? (fun n => ((s.slot n).locate b.addr).isSome) with
    | none =>
      rw [List.find?_eq_none] at h
      exact absurd ((huniq n).2 rfl) (by simpa using h n (List.mem_finRange n))
    | some m =>
      have := List.find?_some h
      rw [(huniq m).1 this]
  unfold State.classify
  rw [if_neg he, if_neg (by omega), hf]

/-- A word below CB that is no slot's picture word is plain (R39 step 5). -/
theorem classify_plain {s : State} {b : Beat} (hr : RegionsDisjoint s)
    (he : b.enables ≠ 0) (hc : b.addr < s.controlBase) (hp : ∀ n l c, ¬ IsPicture (s.slot n) b.addr l c) :
    s.classify b = .plain := by
  have hf : s.pictureSlot b.addr = none := by
    unfold State.pictureSlot
    rw [List.find?_eq_none]
    intro n _ h
    obtain ⟨⟨l', c'⟩, h'⟩ := Option.isSome_iff_exists.1 h
    exact hp n l' c' (picture_of_locate (fun hv => ⟨(hr.1 n hv).1, (hr.1 n hv).2.1, (hr.1 n hv).2.2.1⟩) h')
  unfold State.classify
  rw [if_neg he, if_neg (by omega), hf]

/-- The store after a beat stored with its enables (R152). -/
theorem storeByte_storeBeat (s : State) (b : Beat) (cell : Nat) :
    (s.storeBeat b).storeByte cell =
      if cell / 4 = b.addr ∧ b.enables.getLsbD (cell % 4) = true then byteOf b.data (cell % 4) else s.storeByte cell :=
  State.storeByte_storeWord ..

/-- A plain word placed. -/
theorem placed_store (s : State) {dt left : Nat} {b : Beat} {hold : Timer} {rest : List Beat} :
    Placed s ((afterTake s (s.now + dt) left hold rest).storeBeat b) dt b left hold rest [] := by
  refine ⟨⟨rfl, rfl, rfl⟩, ⟨rfl, fun cell => ?_⟩, ?_⟩
  · rw [storeByte_storeBeat]; rfl
  · intro k hk
    cases k <;> simp_all <;> rfl

/-- A slot record follows from the Slot Table alone. -/
theorem slot_congr {s t : State} (h : t.slots = s.slots) (n : Fin 8) : t.slot n = s.slot n := by unfold State.slot; rw [h]
/-- A coverage record follows from the Fill Tracker alone. -/
theorem cover_congr {s t : State} (h : t.fill = s.fill) (n : Fin 8) : t.cover n = s.cover n := by unfold State.cover; rw [h]

/-- `Keeps`, block by block. -/
theorem keeps_of {s t : State} {l : List Block}
    (h1 : .pending ∈ l ∨ t.pending = s.pending) (h2 : .powerOns ∈ l ∨ t.powerOns = s.powerOns)
    (h3 : .pins ∈ l ∨ t.pins = s.pins) (h4 : .link ∈ l ∨ t.link = s.link) (h5 : .queue ∈ l ∨ t.queue = s.queue)
    (h6 : .store ∈ l ∨ ∀ cell, t.storeByte cell = s.storeByte cell) (h7 : .sc ∈ l ∨ t.sc = s.sc)
    (h8 : .slots ∈ l ∨ t.slots = s.slots) (h9 : .fill ∈ l ∨ t.fill = s.fill)
    (h10 : .control ∈ l ∨ t.control = s.control) (h11 : .scan ∈ l ∨ t.scan = s.scan)
    (h12 : .engine ∈ l ∨ t.engine = s.engine) (h13 : .feeder ∈ l ∨ t.feeder = s.feeder)
    (h14 : .drive ∈ l ∨ t.drive = s.drive) (h15 : .events ∈ l ∨ t.events = s.events)
    (h16 : .monitor ∈ l ∨ t.monitor = s.monitor) : Keeps l s t := by
  intro b hb
  cases b <;> simp only [Block.same] <;> simp_all

/-- A store byte follows from the store and the power-on count. -/
theorem storeByte_of {s t : State} (h : t.store = s.store) (h2 : t.powerOns = s.powerOns) (cell : Nat) :
    t.storeByte cell = s.storeByte cell := State.storeByte_congr s t h h2 cell

/-- A grant decision changes nothing else in the Store Controller (R156, R157). -/
theorem onlyGrants_arbitrate (s : State) : OnlyGrants s s.arbitrate :=
  ⟨s.arbitrate_sc, fun g hg => by rw [State.arbitrate_held s (Option.mem_def.1 hg)]; exact hg⟩

end Sys2Proof.Safety
end

