-- ==== Sys2Proof/Laws/Commands.lean ====
section
/-! SUPPORT. A command word at its placement: what its record, its store write and its effect do together (R146). -/

namespace Sys2Proof.Safety

open Machine

/-- The state a command takes effect in: its beat taken and stored (R146). -/
def taken (s : State) (dt : Nat) (b : Beat) (left : Nat) (hold : Timer) (rest : List Beat) : State :=
  (afterTake s (s.now + dt) left hold rest).storeBeat b

section
variable (s : State) (dt : Nat) (b : Beat) (left : Nat) (hold : Timer) (rest : List Beat)
@[simp] theorem taken_now : (taken s dt b left hold rest).now = s.now + dt := rfl
@[simp] theorem taken_powerOns : (taken s dt b left hold rest).powerOns = s.powerOns := rfl
@[simp] theorem taken_pending : (taken s dt b left hold rest).pending = s.pending := rfl
@[simp] theorem taken_pins : (taken s dt b left hold rest).pins = s.pins := rfl
@[simp] theorem taken_link : (taken s dt b left hold rest).link = s.link := rfl
@[simp] theorem taken_queue : (taken s dt b left hold rest).queue = rest := rfl
@[simp] theorem taken_sc : (taken s dt b left hold rest).sc = { s.sc with grant := some ⟨.placement left, hold⟩ } := rfl
@[simp] theorem taken_slots : (taken s dt b left hold rest).slots = s.slots := rfl
@[simp] theorem taken_fill : (taken s dt b left hold rest).fill = s.fill := rfl
@[simp] theorem taken_control : (taken s dt b left hold rest).control = s.control := rfl
@[simp] theorem taken_scan : (taken s dt b left hold rest).scan = s.scan := rfl
@[simp] theorem taken_engine : (taken s dt b left hold rest).engine = s.engine := rfl
@[simp] theorem taken_feeder : (taken s dt b left hold rest).feeder = s.feeder := rfl
@[simp] theorem taken_drive : (taken s dt b left hold rest).drive = s.drive := rfl
@[simp] theorem taken_events : (taken s dt b left hold rest).events = s.events := rfl
@[simp] theorem taken_monitor : (taken s dt b left hold rest).monitor = s.monitor := rfl
@[simp] theorem taken_slot (n : Fin 8) : (taken s dt b left hold rest).slot n = s.slot n := rfl
@[simp] theorem taken_cover (n : Fin 8) : (taken s dt b left hold rest).cover n = s.cover n := rfl
@[simp] theorem taken_bank (n : Fin 2) : (taken s dt b left hold rest).bank n = s.bank n := rfl
@[simp] theorem taken_users (y : StockSet) : (taken s dt b left hold rest).users y = s.users y := by cases y <;> rfl
@[simp] theorem taken_stuck (i : Source) : (taken s dt b left hold rest).stuck i = s.stuck i := rfl
@[simp] theorem taken_expo : (taken s dt b left hold rest).expo = s.expo := rfl
@[simp] theorem taken_controlBase : (taken s dt b left hold rest).controlBase = s.controlBase := rfl
@[simp] theorem taken_tableState (u : TableUnit) : (taken s dt b left hold rest).tableState u = s.tableState u := rfl
end

variable {s : State} {dt : Nat} {b : Beat} {left : Nat} {hold : Timer} {rest : List Beat}

/-- A command word lies in the control region. -/
theorem control_of {op target : Nat} (h : Commanding s dt b left hold rest op target) : ControlBeat s b 0x400 := by
  refine ⟨?_, h.2.1⟩
  rw [h.2.2.1]; decide

/-- The opcode byte. -/
theorem field08 (w : Word) : field w 0 8 = w.toNat % 256 := by simp [field]
/-- The target byte. -/
theorem field88 (w : Word) : field w 8 8 = w.toNat / 256 % 256 := by simp [field, Nat.shiftRight_eq_div_pow]

/-- A command word runs its own row (R146). -/
theorem run_eq {op target : Nat} {c : Cmd} {effect : State → Word → State × CmdOutcome} (h : Commanding s dt b left hold rest op target)
    (hc : Cmd.ofOpcode op = some c) {r : State × CmdOutcome} (hr : effect (taken s dt b left hold rest) b.data = r) :
    s.runCommand dt c effect = .next (r.1.recordCommand (b.data.extractLsb' 0 8) (b.data.extractLsb' 8 8) r.2) := by
  subst hr
  apply place_kind (k := .command c) h.1
  · rw [classify_control (control_of h)]
    simp [controlKind, areaOf, Config.statusWords, commandKind, h.2.2.1, field08, h.2.2.2.1, hc]
  · simp [byteOf, taken]

/-- A slot command with a slot number (R147). -/
theorem slot_cmd {op target : Nat} (h : Commanding s dt b left hold rest op target) (effect : State → Fin 8 → State × CmdOutcome) (x : State) (n : Fin 8) (hn : target = n.val) :
    slotCommand effect x b.data = effect x n := by
  have : cmdTarget b.data = n.val := by rw [← hn, cmdTarget, field88]; exact h.2.2.2.2
  simp [slotCommand, cmdSlot, this]

/-- A slot command with a target above 7 (R147). -/
theorem slot_range {op target : Nat} (h : Commanding s dt b left hold rest op target) (effect : State → Fin 8 → State × CmdOutcome) (x : State) (hn : 7 < target) :
    slotCommand effect x b.data = (x, .range) := by
  have : cmdTarget b.data = target := by rw [cmdTarget, field88]; exact h.2.2.2.2
  simp only [slotCommand, cmdSlot, this]
  rw [dif_neg (by omega)]

/-- `Recorded`, from what the command's effect does. -/
theorem recorded_of {r : State} {o : CmdOutcome} {blocks : List Block}
    (hk : Keeps (.control :: .events :: blocks) (taken s dt b left hold rest) r)
    (hn : r.now = s.now + dt) (hsc : r.sc = { s.sc with grant := some ⟨.placement left, hold⟩ })
    (hq : r.queue = rest) (hp : r.powerOns = s.powerOns)
    (hst : ∀ cell, r.storeByte cell = (taken s dt b left hold rest).storeByte cell)
    (hc : r.control = { s.control with tables := r.control.tables, reload := r.control.reload }) :
    Recorded s (r.recordCommand (b.data.extractLsb' 0 8) (b.data.extractLsb' 8 8) o) dt b left hold rest o blocks := by
  have e : ∀ cell, (r.recordCommand (b.data.extractLsb' 0 8) (b.data.extractLsb' 8 8) o).storeByte cell = r.storeByte cell := fun cell => by
    apply storeByte_of <;> simp
  refine ⟨⟨⟨by simp [hn], by simp [hq], by simp [hsc]⟩, ⟨by simp [hp], fun cell => ?_⟩, ?_⟩, ?_, ?_, ?_⟩
  · rw [e, hst, taken, storeByte_storeBeat]; rfl
  · intro k hk'
    have hk2 := hk k
    simp only [List.mem_cons, not_or] at hk'
    obtain ⟨h1, h2, h3, h4, h5, h6⟩ := hk'
    have hk3 := hk2 (by simp [h4, h5, h6])
    clear hc hst e
    cases k <;> simp only [Block.same] at hk3 ⊢ <;> first | exact absurd rfl ‹_› | (simp; simpa using hk3)
  · simp [State.recordCommand]
  · show (State.raise _ _).events.stretch[_] = _
    rw [stretch_raise]; simp [hn]
  · have : (r.recordCommand (b.data.extractLsb' 0 8) (b.data.extractLsb' 8 8) o).control =
      { r.control with command := ⟨(r.control.command.count + 1) % 65536, b.data.extractLsb' 0 8, b.data.extractLsb' 8 8, o⟩ } := by
      simp [State.recordCommand]
    rw [this]
    have h2 : r.control.command = s.control.command := by rw [hc]
    rw [h2]; conv_lhs => rw [hc]

/-- The record raises COMMAND_DONE. -/
theorem raised_record {r : State} {l : List Source} (h : Raised l s r) (x y : Byte) (o : CmdOutcome) : Raised (.commandDone :: l) s (r.recordCommand x y o) := by
  unfold State.recordCommand
  apply raised_cons
  exact raised_congr h rfl rfl

/-- Nothing changed. -/
theorem keeps_refl (s : State) (l : List Block) : Keeps l s s := by intro k _; cases k <;> simp [Block.same]

/-- A command with no effect but its record. -/
theorem refused_of (o : CmdOutcome) :
    Commanded s ((taken s dt b left hold rest).recordCommand (b.data.extractLsb' 0 8) (b.data.extractLsb' 8 8) o) dt b left hold rest o [] []
      ∧ ReloadKept s ((taken s dt b left hold rest).recordCommand (b.data.extractLsb' 0 8) (b.data.extractLsb' 8 8) o) := by
  refine ⟨⟨recorded_of (keeps_refl _ _) rfl rfl rfl rfl (fun _ => rfl) rfl, ?_⟩, ?_⟩
  · apply raised_record; exact raised_nil rfl
  · constructor <;> simp [State.recordCommand]

/-- `run_eq` for a pair. -/
theorem run_eq' {op target : Nat} {c : Cmd} {effect : State → Word → State × CmdOutcome} (h : Commanding s dt b left hold rest op target)
    (hc : Cmd.ofOpcode op = some c) {x : State} {o : CmdOutcome} (hr : effect (taken s dt b left hold rest) b.data = (x, o)) :
    s.runCommand dt c effect = .next (x.recordCommand (b.data.extractLsb' 0 8) (b.data.extractLsb' 8 8) o) :=
  run_eq h hc hr

/-- `Commanded`, from what the command's effect does. -/
theorem commanded_of {r : State} {o : CmdOutcome} {blocks : List Block} {l : List Source}
    (hk : Keeps (.control :: .events :: blocks) (taken s dt b left hold rest) r)
    (hn : r.now = s.now + dt) (hsc : r.sc = { s.sc with grant := some ⟨.placement left, hold⟩ })
    (hq : r.queue = rest) (hp : r.powerOns = s.powerOns)
    (hst : ∀ cell, r.storeByte cell = (taken s dt b left hold rest).storeByte cell)
    (hc : r.control = s.control) (hr : Raised l s r) :
    Commanded s (r.recordCommand (b.data.extractLsb' 0 8) (b.data.extractLsb' 8 8) o) dt b left hold rest o l blocks
     ∧ ReloadKept s (r.recordCommand (b.data.extractLsb' 0 8) (b.data.extractLsb' 8 8) o) := by
  refine ⟨⟨recorded_of hk hn hsc hq hp hst (by rw [hc]), raised_record hr _ _ _⟩, ?_⟩
  constructor <;> simp [State.recordCommand, hc]

/-- Check 3 of DESCRIBE is the ranges of R12. -/
theorem inRange_iff (d : Descriptor) : d.inRange = true ↔ FieldsInRange d := by
  simp only [Descriptor.inRange, FieldsInRange, Bool.and_eq_true, decide_eq_true_eq, beq_iff_eq]
  omega

end Sys2Proof.Safety
end

