-- ==== Sys2Proof/Laws/Engine.lean ====
section
/-! SUPPORT. Entry to STOPPED, the clearing of the feeder, and aborts: what each does, said once. -/

namespace Sys2Proof.Safety

open Machine

/-- After `dropFetch` the unit that holds the store is no wanted fetch segment (R120). -/
theorem fetchDisowned_of {s t : State} (h : t.sc = (s.mapUnit GrantUnit.dropFetch).sc) : FetchDisowned t := by
  intro g hg b pos len addr wanted hu
  rw [h] at hg
  simp only [State.mapUnit, State.setSc, Option.mem_def, Option.map_eq_some_iff] at hg
  obtain ⟨g', -, rfl⟩ := hg
  revert hu
  cases g'.unit <;> simp [GrantUnit.dropFetch]

/-- Clearing the feeder gives up a granted fetch segment (R120). -/
theorem clearFeeder_sc (s : State) : s.clearFeeder.sc = (s.mapUnit GrantUnit.dropFetch).sc := by
  simp [State.clearFeeder, State.abandonFetch, State.mapUnit]

/-- Clearing the feeder frees both banks (R106, R113). -/
theorem clearFeeder_spec (s : State) : FeederCleared s s.clearFeeder := by
  refine ⟨fun k => ?_, rfl, rfl, fetchDisowned_of (clearFeeder_sc s)⟩
  have h : s.clearFeeder.bank k = (((s.setBank 0 { s.bank 0 with state := .free, tag := none }).setBank 1
     { (s.setBank 0 { s.bank 0 with state := .free, tag := none }).bank 1 with state := .free, tag := none })).bank k := by
    unfold State.clearFeeder State.abandonFetch State.bank
    simp [State.mapUnit]
  rw [h]
  match k with
  | 0 => simp [State.bank_setBank]
  | 1 => simp [State.bank_setBank]

/-- `FeederCleared` follows from the feeder and the unit that holds the store. -/
theorem feederCleared_congr {s s' t t' : State} (h : FeederCleared s t) (h1 : s'.feeder.banks = s.feeder.banks) (h2 : t'.feeder = t.feeder)
    (h3 : FetchDisowned t') : FeederCleared s' t' := by
  obtain ⟨a, b, c, -⟩ := h
  refine ⟨fun k => ?_, by rw [h2, b], by rw [h2, c], h3⟩
  have := a k
  unfold State.bank at this ⊢
  rw [h2, h1]; exact this


/-- The engine after entry to STOPPED (R106). -/
@[simp] theorem enterStopped_engine (s : State) : s.enterStopped.engine = { s.engine with state := .stopped, haltPending := false, slot := none, gateTimer := none } := by
  simp [State.enterStopped]

/-- The drives after entry to STOPPED (R106). -/
@[simp] theorem enterStopped_drive (s : State) : s.enterStopped.drive = ⟨none, 0, 0, 0⟩ := by
  simp [State.enterStopped, State.blankDrive]

/-- The Slot Table after entry to STOPPED (R106). -/
theorem enterStopped_slots (s : State) : s.enterStopped.slots = s.unlockOnStop.slots := by simp [State.enterStopped]

/-- A slot record after entry to STOPPED (R106). -/
theorem enterStopped_slot (s : State) (n) : s.enterStopped.slot n = s.unlockOnStop.slot n := slot_congr (enterStopped_slots s) n

/-- The Store Controller after entry to STOPPED (R106, R120). -/
theorem enterStopped_sc (s : State) : s.enterStopped.sc = (s.mapUnit GrantUnit.dropFetch).sc := by
  simp [State.enterStopped, clearFeeder_sc]; simp [State.mapUnit]

/-- The feeder after entry to STOPPED (R106). -/
theorem enterStopped_feeder (s : State) : FeederCleared s s.enterStopped := by
  apply feederCleared_congr (clearFeeder_spec s.unlockOnStop)
  · simp
  · simp [State.enterStopped]
  · exact fetchDisowned_of (enterStopped_sc s)

/-- What a report makes of the activity envelope (R180). -/
theorem reportSweep_activity (s : State) : s.reportSweep.events.activity = activityAfter s s.now := by
  unfold State.reportSweep activityAfter
  cases s.drive.sweep with
  | none => rfl
  | some sw =>
    by_cases h : (sw.image && sw.lit) = true
    · simp only [h, Option.any_some, if_true]
      cases s.events.activity <;> rfl
    · simp [h]

/-- A report and nothing else in the Event Unit (R180). -/
theorem reportSweep_events (s : State) : s.reportSweep.events = (reported s s.now).events := by
  have h := reportSweep_activity s
  unfold reported
  rw [← h]
  unfold State.reportSweep
  split <;> try rfl
  split <;> rfl

/-- What `dropFetch` does to the unit that holds the store (R120, R157). -/
theorem fetchDropped_of {s t : State} (h : t.sc = (s.mapUnit GrantUnit.dropFetch).sc) : FetchDropped s t := by
  have e : t.sc = { s.sc with grant := s.sc.grant.map (fun g => { g with unit := GrantUnit.dropFetch g.unit }) } := h
  refine ⟨by rw [e], fun hn => by rw [e, hn]; rfl, fun g hg => ?_⟩
  rw [e, Option.mem_def.1 hg]
  obtain ⟨u, hold⟩ := g
  cases u <;> rfl

/-- All an abort of the frame in progress does (R9, R106, R126). -/
theorem abortFrame_spec {a : State} {n : Fin 8} {c : FaultCause} (he : a.expo = true) (hs : a.engine.slot = some n) :
    Aborted a (a.abortFrame c) n c [] ∧ Keeps abortBlocks a (a.abortFrame c) ∧ (a.abortFrame c).now = a.now
      ∧ (a.abortFrame c).sc = (a.mapUnit GrantUnit.dropFetch).sc ∧ (∀ i, (a.abortFrame c).stuck i = (decide (i = .frameFault) || a.stuck i)) := by
  have hes : a.engine.state = .leading ∨ a.engine.state = .imaging := by
    revert he; unfold State.expo; cases a.engine.state <;> simp
  have e : a.abortFrame c = ((a.reportSweep.faultSlot n c).raise .frameFault).enterStopped := by
    unfold State.abortFrame
    simp [he, hs]
  have hst : (((a.reportSweep.faultSlot n c).raise .frameFault).unlockOnStop) = ((a.reportSweep.faultSlot n c).raise .frameFault).unlockSlot n := by
    unfold State.unlockOnStop
    simp
    obtain h | h := hes <;> simp [h, hs]
  refine ⟨⟨?_, ?_, ?_, ?_, ?_, ?_, ?_⟩, ?_, ?_, ?_, ?_⟩
  · rw [e, enterStopped_slot, hst]
    simp [State.unlockSlot, State.faultSlot, State.leaveQueue]
  · refine ⟨?_, fun x => ?_, ?_, ?_, fun m hm => ⟨?_, ?_⟩⟩
    · rw [e, enterStopped_slots, hst]
      simp [State.unlockSlot, State.faultSlot, State.leaveQueue]
    · have : (a.abortFrame c).users x = (((a.reportSweep.faultSlot n c).raise .frameFault).unlockSlot n).users x := by
        rw [e, ← hst]; cases x <;> simp only [State.users, enterStopped_slots]
      rw [this]
      simp [State.unlockSlot, State.faultSlot, State.leaveQueue, State.users_dropUser]
    · rw [e]
      simp [State.faultSlot, State.leaveQueue, State.cover_freeRuns]
    · rw [e]
      simp [State.faultSlot, State.leaveQueue]
    · rw [e, enterStopped_slot, hst]
      simp [State.unlockSlot, State.faultSlot, State.leaveQueue, State.slot_setSlot, hm]
    · rw [e]
      simp [State.faultSlot, State.leaveQueue, State.cover_freeRuns, hm]
  · rw [e]; exact feederCleared_congr (enterStopped_feeder _) (by simp) rfl (enterStopped_feeder _).2.2.2
  · rw [e]; simp
  · rw [e]; simp
  · rw [e]; simp [State.expo]
  · have hn : (a.abortFrame c).now = a.now := by simp
    have he' : (a.abortFrame c).events = ((a.reportSweep.faultSlot n c).raise .frameFault).events := by rw [e]; simp
    have hr : Raised [] (reported a a.now) (a.reportSweep.faultSlot n c) :=
      raised_nil (by simp [State.faultSlot, State.leaveQueue, reportSweep_events])
    rw [hn]
    exact raised_congr (raised_cons hr .frameFault) he' (by simp [State.faultSlot, State.leaveQueue])
  · unfold abortBlocks
    (apply keeps_of <;> first | (left; decide) | (right; simp))
  · simp
  · rw [e, enterStopped_sc]; simp [State.mapUnit]
  · intro i; rw [e]; simp
    have : a.reportSweep.stuck i = a.stuck i := by
      unfold State.reportSweep
      split <;> try rfl
      split <;> rfl
    rw [this]


/-- `Aborted` follows from the blocks it names, `h1` to `h6` before and `t1` to `t6` after. -/
theorem aborted_congr {s a t t' : State} {n c} {l l' : List Source} (h : Aborted a t n c l) (h1 : s.slots = a.slots) (h2 : s.fill = a.fill)
    (h3 : s.feeder.banks = a.feeder.banks) (h4 : s.engine = a.engine)
    (t1 : t'.slots = t.slots) (t2 : t'.fill = t.fill) (t3 : t'.feeder = t.feeder) (t4 : t'.engine = t.engine) (t5 : t'.drive = t.drive)
    (t6 : Raised (.frameFault :: l') (reported s t'.now) t') (t7 : t'.sc = t.sc ∨ FetchDisowned t') : Aborted s t' n c l' := by
  obtain ⟨a1, ⟨a2, a3, a4, a5, a6⟩, a7, a8, a9, a10, -⟩ := h
  have su : ∀ x, s.users x = a.users x := fun x => by cases x <;> simp [State.users, h1]
  have tu : ∀ x, t'.users x = t.users x := fun x => by cases x <;> simp [State.users, t1]
  refine ⟨?_, ⟨?_, ?_, ?_, ?_, ?_⟩, ?_, ?_, ?_, ?_, t6⟩
  · rw [slot_congr t1, slot_congr h1, a1]
  · rw [t1, h1, a2]
  · intro x; rw [tu, su, a3, slot_congr h1]
  · rw [cover_congr t2, cover_congr h2, a4]
  · rw [t2, h2, cover_congr h2, a5]
  · intro m hm; rw [slot_congr t1, slot_congr h1, cover_congr t2, cover_congr h2]; exact a6 m hm
  · exact feederCleared_congr a7 h3 t3 (t7.elim (fun e => by unfold FetchDisowned; rw [e]; exact a7.2.2.2) id)
  · rw [t4, a8, h4]
  · rw [t5, a9]
  · unfold State.expo at a10 ⊢; rw [t4]; exact a10

end Sys2Proof.Safety
end

