-- ==== Sys2Proof/WellFormed.lean ====
section
/-! DEFINITION. Which command terms name something the part has. `exec` does not ask: a term that fails a check is
one the part's surroundings cannot send (an entry address no memory has, a stretch no level source has). -/

namespace Sys2Proof

/-- The entry addresses of a protected memory (R162); the gap words of a stock set are none. -/
def Mem.hasEntry (m : Mem) (a : Nat) : Bool :=
  match m with
  | .stockA | .stockB => a ≤ 770 || (800 ≤ a && a ≤ 808) || (812 ≤ a && a ≤ 814)
  | .modR | .modG | .modB => a < 1024
  | .facet => a < 48
  | .bank0 | .bank1 => a < 8192

/-- A shadow entry is 16 bits, a bank word 32 (R134, R162, log 9). -/
def Damage.fits (d : Damage) : Bool :=
  match d.mem, d.harm with
  | .bank0, _ => true
  | .bank1, _ => true
  | _, .correctable => true
  | _, .uncorrectable bits => bits.toNat < 65536

/-- Damage lies at an entry its memory has, and its bits fit that entry. -/
def Damage.wf (d : Damage) : Bool := d.mem.hasEntry d.entry && d.fits

/-- A command term is well-formed. -/
def Instr.wf : Instr → Bool
  | .placePictureWord _ arisen => arisen.all Damage.wf
  | .pixelDrive _ arisen => arisen.all Damage.wf
  | .pulseStretchEnd source => !source.isLevel
  | _ => true

end Sys2Proof
end

