-- ==== Sys2Proof/Tests/Slice0.lean ====
section
/-! SUPPORT. Tests: the checks of WellFormed, small runs of the commands with results from the spec's worked examples
and tables, and for each statement a state and operands that meet its hypotheses. -/

namespace Sys2Proof.Tests

open Machine Safety

/-! ## WellFormed: an ill-formed term for each check -/

theorem test_wf_gap_word : (Instr.placePictureWord 0 [⟨.stockA, 771, .correctable⟩]).wf = false := by decide
theorem test_wf_last_entry : (Instr.placePictureWord 0 [⟨.stockA, 814, .correctable⟩]).wf = true := by decide
theorem test_wf_beyond_set : (Instr.placePictureWord 0 [⟨.stockB, 815, .correctable⟩]).wf = false := by decide
theorem test_wf_beyond_modulator : (Instr.pixelDrive 0 [⟨.modG, 1024, .correctable⟩]).wf = false := by decide
theorem test_wf_beyond_facets : (Instr.pixelDrive 0 [⟨.facet, 48, .correctable⟩]).wf = false := by decide
theorem test_wf_beyond_bank : (Instr.pixelDrive 0 [⟨.bank1, 8192, .correctable⟩]).wf = false := by decide
theorem test_wf_wide_bits : (Instr.pixelDrive 0 [⟨.facet, 0, .uncorrectable 0x10000⟩]).wf = false := by decide
theorem test_wf_bank_bits : (Instr.pixelDrive 0 [⟨.bank0, 0, .uncorrectable 0x10000⟩]).wf = true := by decide
theorem test_wf_level_source : (Instr.pulseStretchEnd .scanUnlocked).wf = false := by decide
theorem test_wf_pulse_source : (Instr.pulseStretchEnd .slotReady).wf = true := by decide

/-- No row of the table has bits. -/
theorem test_no_word_decodes : decodeTableWord 32 0 = none ∧ decodeTableWord 0 0 = none := by decide

/-! ## Small states -/

/-- The command answers a next state of which `p` is true. -/
def runs (c : Instr) (s : State) (p : State → Bool) : Bool :=
  match exec c s with
  | .next t => p t
  | _ => false

/-- The command is refused for reason `r`. -/
def refuses (c : Instr) (s : State) (r : Refusal) : Bool :=
  match exec c s with
  | .refused q => q == r
  | _ => false

/-- The store in service and nothing requested. -/
def idle : State := { State.reset with sc := ⟨.mib256, none, some ⟨0, 780⟩, 0, none⟩ }

/-- The store held by a unit, from now on for at most 12 ticks. -/
def holding (s : State) (u : GrantUnit) : State := { s with sc := { s.sc with grant := some ⟨u, ⟨s.now, 12⟩⟩ } }

/-- Beat `b` alone in the queue, at the head of a placement unit of one beat. -/
def placing (s : State) (b : Beat) : State := { holding s (.placement 1) with queue := [b] }

/-- CB of the smallest store. -/
def cb : Nat := 66846720

/-- A command word about to be placed. -/
def commanding (s : State) (w : Word) : State := placing s ⟨cb + 0x400, w, 0xF⟩

/-- A frame of 256 columns and 16 lines at the bottom of the store. -/
def frame (st : SlotState) : Slot :=
  { Slot.cleared with state := st, width := 256, height := 16, pitch := 256, rep := 1 }

/-- A state with record `x` for slot 0, queued and counted, and every table VALID. -/
def withFrame (s : State) (x : Slot) : State :=
  { s with
    slots := if x.state.queued then ⟨s.slots.table.set 0 x, [0], 1, 0⟩ else ⟨s.slots.table.set 0 x, [], 0, 0⟩
    control := { s.control with tables := ⟨.valid, .valid, .valid, .valid⟩ } }

/-- A state with a coverage record for slot 0. -/
def covered (s : State) (c : Coverage) (free : Nat) : State := { s with fill := ⟨s.fill.cover.set 0 c, free⟩ }

/-- A scanner with four facets of 100,000 ticks, window 2,000, lock count 4 and loss limit 2 (section 5.8), whose last
accepted SOS was at tick 10,000. -/
def scanner (st : ScanState) (facet inRun outRun : Nat) (mark : Bool) : ScanUnit :=
  { ScanUnit.powerOn with
    live := ⟨4, 100000, 2000, 4, 2, 0, 1000⟩, state := st, facet := facet, homeMark := mark
    inRun := inRun, outRun := outRun, lastSos := some 10000 }

/-- The part with that scanner 100 ticks after its last accepted SOS, GATE high; the store is still initialising, so
that no refresh falls due. -/
def scanning (x : ScanUnit) : State :=
  { State.reset with
    now := 10100, scan := x, pins := ⟨false, false, true, false⟩
    sc := ⟨.mib256, some ⟨10100, 1000000⟩, none, 0, none⟩ }

/-- The engine in WAITING with slot 0 READY at the head and its line 0 in bank 0. -/
def ready (x : ScanUnit) (lead : Nat) : State :=
  { withFrame (scanning x) { frame .ready with lead := lead } with
    engine := ⟨.waiting, false, none, 0, none, false, none, none⟩
    feeder := ⟨#v[⟨.full, some (0, 0), []⟩, ⟨.free, none, []⟩], 1, none⟩ }

/-- The engine exposing slot 0: sweep `k` in progress, line `l`, `l` in bank 0 and `l + 1` in bank 1. -/
def exposing (x : ScanUnit) (lead rep k l : Nat) : State :=
  { withFrame (scanning x) { frame .exposing with lead := lead, rep := rep } with
    engine := ⟨if k < lead then .leading else .imaging, false, some 0, k, if k < lead then none else some l, false,
      none, none⟩
    feeder := ⟨#v[⟨.sending, some (0, l), [(0, 0x12345678)]⟩, ⟨.full, some (0, l + 1), []⟩], l + 2, none⟩
    drive := ⟨some ⟨decide (lead ≤ k), if k < lead then none else some 0, 0, 0, 0, false⟩, 0, 0, 0⟩ }

/-- A locked scanner at facet 1. -/
def locked : ScanUnit := scanner .locked 1 4 0 false

/-- An open transaction. -/
def opened (write : Bool) (burst : Burst) (addr beats : Nat) (lrdy wants oor : Bool) (buffer : List Word) : State :=
  { idle with
    pins := { idle.pins with lselLow := true }
    link := { idle.link with txn := some ⟨write, burst, addr, oor, lrdy, beats, wants, buffer, none⟩ } }

/-! ## The worked examples and tables of the spec -/

/-- R2, example: base 262,144, W 2048, pitch 2304, H 1000. -/
theorem test_region : ({ frame .opened with base := 262144, width := 2048, pitch := 2304, height := 1000 } : Slot).last
    = 2565887 := by decide
theorem test_locate : ({ frame .opened with base := 262144, width := 2048, pitch := 2304, height := 1000 } : Slot).locate
    267144 = some (2, 392) := by decide
theorem test_locate_margin : ({ frame .opened with
    base := 262144, width := 2048, pitch := 2304, height := 1000 } : Slot).locate 266544 = none := by decide

/-- Section 2.6, transaction A: the eight beats of a wrapped burst. -/
theorem test_wrapped_burst : (List.range 8).map (beatAddr 134217728 (.wrapped 8) 1048581)
    = [1048581, 1048582, 1048583, 1048576, 1048577, 1048578, 1048579, 1048580] := by decide

/-- R27: a linear burst wraps from the top word of the store to word 0. -/
theorem test_linear_wrap : beatAddr 67108864 .linear 67108863 1 = 0 := by decide

/-- The header of section 2.6, transaction A, on the link: write, wrapped, size code 0. -/
theorem test_header : runs (.linkHeader 1 0xC0100005 0) idle (fun t => t.link.txn ==
    some ⟨true, .wrapped 8, 0x100005, false, true, 0, false, [], none⟩) = true := by decide

/-- R28: a header at Z is out of range, counted, and a write is answered at once. -/
theorem test_header_out_of_range : runs (.linkHeader 1 0x84000000 0) idle (fun t =>
    t.lrdy && t.link.outOfRange == 1 && t.stuck .linkFault) = true := by decide

/-- R30: a read of a store word is answered at the grant of its first segment, to the end of the page (R31). -/
theorem test_read_granted : runs (.linkHeader 1 0x00000205 0) idle (fun t =>
    t.lrdy && t.sc.grant == some ⟨.linkRead .linear 0x205 507 true, ⟨1, 264⟩⟩) = true := by decide

/-- R30: LRDY stays low while beats are queued, and READ_ADMIT is refused. -/
theorem test_read_waits : runs (.linkHeader 1 0x00000205 0) (commanding idle 0x20) (fun t => !t.lrdy) = true := by decide
theorem test_admit_waits : refuses (.readAdmit 1) { opened false .linear 0 0 false false false [] with
    queue := [⟨0, 0, 0⟩] } .notReady = true := by decide
theorem test_write_admit : runs (.writeAdmit 0) (opened true .linear 5 0 false false false []) State.lrdy = true := by decide

/-- R36: the 64th beat is queued, the 65th is an overrun with LINK_FAULT. -/
theorem test_beat_64 : runs (.writeBeat 1 7 0xF) (opened true .linear 5 63 true false false []) (fun t =>
    t.queue == [⟨68, 7, 0xF⟩] && t.link.overruns == 0) = true := by decide
theorem test_beat_65 : runs (.writeBeat 1 7 0xF) (opened true .linear 5 64 true false false []) (fun t =>
    t.queue == [] && t.link.overruns == 1 && t.stuck .linkFault) = true := by decide

/-- R31, R149: the identification word of the page; a store word leaves the buffer in order. -/
theorem test_read_status : runs (.readBeat 1) (opened false .linear cb 0 true false false []) (fun t =>
    t.lstb && t.ldWord == some 0x24600D57) = true := by decide
theorem test_read_store : runs (.readBeat 1) (opened false .linear 5 0 true false false [7, 8]) (fun t =>
    t.ldWord == some 7 && t.link.txn.any (fun x => x.buffer == [8])) = true := by decide
/-- R31: at the end of a segment the next one is wanted, and a tick later LSTB is low. -/
theorem test_lstb_pauses : runs (.readBeat 1) (opened false .linear 511 0 true false false [7]) (fun t =>
    t.lstb && t.link.txn.any (fun x => x.buffer.isEmpty)
      && runs (.gateRise 1) t (fun u => !u.lstb && u.link.txn.isSome)) = true := by decide
theorem test_lsel_rise : runs (.lselRise 1) (opened false .linear 5 0 true false false [7]) (fun t =>
    t.link.txn.isNone && !t.pins.lselLow) = true := by decide

/-- Section 11.5, "Reading a record": slot 5 EXPOSING at the head, TRIM_CLAMPED and COMPLETE, set B, chase 200. -/
theorem test_status_record :
    let s := { idle with
      slots := ⟨idle.slots.table.set 5 { frame .exposing with
        trimClamped := true, complete := true, stock := .b, chase := 200, pitch := 4096, trimR := 127 }, [5], 0, 1⟩
      fill := ⟨idle.fill.cover.set 5 ⟨12746752, []⟩, 48⟩ }
    [0, 4, 6, 9].map (fun k => s.statusWord (128 + 16 * 5 + k)) = [0x10140004, 0x00C81000, 0x7F, 0x00C28000] := by decide

/-- R153: initialisation lasts 20,000 ticks; the first refresh is due 780 ticks later (R154). -/
theorem test_init_end : runs .storeInitEnd State.reset (fun t =>
    t.now == 20000 && t.sc.refresh == some ⟨20000, 780⟩) = true := by decide
/-- R154, R156: an idle store serves a refresh at once, for at most 12 ticks. -/
theorem test_refresh_due : runs .refreshDue idle (fun t =>
    t.sc.pendingRefresh == 1 && t.sc.grant == some ⟨.refresh, ⟨780, 12⟩⟩) = true := by decide
theorem test_refresh_done : runs (.refreshDone 12) { holding idle .refresh with
    sc := { (holding idle .refresh).sc with pendingRefresh := 1 } } (fun t =>
    t.sc.pendingRefresh == 0 && t.sc.grant == none) = true := by decide
theorem test_read_segment : runs (.readSegmentDone 5) (holding { opened false (.wrapped 8) 5 0 true false false [] with
    store := [(20, 1), (21, 0), (22, 0), (23, 0)] } (.linkRead (.wrapped 8) 5 1 true)) (fun t =>
    t.link.txn.any (fun x => x.buffer == [1])) = true := by decide
theorem test_placement_end : runs (.placementUnitEnd 5) (holding idle (.placement 0)) (fun t =>
    t.sc.grant == none) = true := by decide
theorem test_placement_end_early : refuses (.placementUnitEnd 5) (placing idle ⟨0, 0, 0⟩) .noBeat = true := by decide

/-- Section 7.7: the clamp of green knot 43 in the fifth segment, and the end of the last. -/
theorem test_reload_clamp : captureValue .stockA 300 1100 = (1023, true) := by decide
theorem test_reload_segments : (idle.startReload .stockA).reloadRequest = some (.reload .stockA 0 64 true)
    ∧ ({ idle with control := { idle.control with reload := ⟨some .stockA, true, 768, false, .none⟩ } }).reloadRequest
      = some (.reload .stockA 768 47 true) := by decide

/-- R40, R42: a plain word is stored byte by byte; a status-page word and a beat with no enable are not stored. -/
theorem test_plain_word : runs (.storePlainWord 1) (placing idle ⟨2, 0x11223344, 5⟩) (fun t =>
    t.store == [(8, 0x44), (10, 0x22)] && t.queue == []) = true := by decide
theorem test_status_write : runs (.statusPageWrite 1) (placing idle ⟨cb + 0x3FF, 1, 0xF⟩) (fun t => t.store == []) = true := by
  decide
theorem test_no_enable : runs (.noEnableBeat 1) (placing idle ⟨2, 1, 0⟩) (fun t => t.store == []) = true := by decide
theorem test_other_beat : refuses (.storePlainWord 1) (placing idle ⟨cb, 1, 0xF⟩) .otherBeat = true := by decide

/-- Section 3.7: the wrapped burst that passes its group, from its first beat to the absorbing eighth. -/
theorem test_fill_new : ((withFrame idle (frame .filling)).recordFill 0 5).cover 0 = ⟨0, [⟨5, 6⟩]⟩ := by decide
theorem test_fill_absorb : ((covered (withFrame idle (frame .filling)) ⟨4, [⟨5, 8⟩]⟩ 47).recordFill 0 4).fill.free = 48
    ∧ ((covered (withFrame idle (frame .filling)) ⟨4, [⟨5, 8⟩]⟩ 47).recordFill 0 4).cover 0 = ⟨8, []⟩ := by decide
theorem test_fill_merge : ((covered (withFrame idle (frame .filling)) ⟨0, [⟨20, 21⟩, ⟨22, 23⟩, ⟨40, 41⟩]⟩ 45).recordFill 0
    21).cover 0 = ⟨0, [⟨20, 23⟩, ⟨40, 41⟩]⟩ := by decide
theorem test_fill_extend_start : ((covered (withFrame idle (frame .filling)) ⟨0, [⟨20, 23⟩, ⟨40, 41⟩]⟩ 46).recordFill 0
    39).cover 0 = ⟨0, [⟨20, 23⟩, ⟨39, 41⟩]⟩ := by decide

/-- Stock set A of section 4.8. -/
def workedSet : State :=
  { idle with control := { idle.control with shadows := { idle.control.shadows with
      stockA := [(111, 598), (112, 604), (388, 655), (389, 662), (608, 540), (609, 549), (800, 4300), (801, -150),
        (802, -50), (803, -120), (804, 4350), (805, -130), (806, -40), (807, -200), (808, 4400), (812, 12),
        (814, -8)] } } }

/-- Section 4.8: the densities and the exposure word of the code word (445, 520, 380). -/
theorem test_densities : (workedSet.density .a false (packLevels 445 520 380) 0,
    workedSet.density .a false (packLevels 445 520 380) 1, workedSet.density .a false (packLevels 445 520 380) 2)
    = (1786, 2109, 1506) := by decide
theorem test_conversion : workedSet.convert .a false (packLevels 445 520 380) = packLevels 602 661 541 := by decide
theorem test_conversion_bypass : (workedSet.density .a true (packLevels 445 520 380) 0,
    workedSet.density .a true (packLevels 445 520 380) 1, workedSet.density .a true (packLevels 445 520 380) 2)
    = (1792, 2080, 1512) := by decide
/-- Section 4.8, variations: red knot 112 uncorrectable as 612. -/
theorem test_conversion_damaged :
    (workedSet.arise [⟨.stockA, 112, .uncorrectable 612⟩]).convert .a false (packLevels 445 520 380)
      = packLevels 607 661 541 := by decide
/-- The first picture word of an OPEN frame is converted and makes it FILLING (R5); one enable clear drops it (R41). -/
theorem test_picture : runs (.placePictureWord 1 []) (placing (withFrame workedSet (frame .opened))
    ⟨0, packLevels 445 520 380, 0xF⟩) (fun t => (t.slot 0).state == .filling && t.loadWord 0 == packLevels 602 661 541
      && t.cover 0 == ⟨1, []⟩) = true := by decide
theorem test_picture_partial : runs (.placePictureWord 1 []) (placing (withFrame workedSet (frame .opened)) ⟨0, 0, 7⟩)
    (fun t => t.link.partials == 1 && t.stuck .partialPixel && t.store == []) = true := by decide

/-- Section 7.7, events 6 and 1: a table word of a set in use makes it STALE; RELOAD 0 starts. -/
theorem test_table_in_use : runs (.tableWordWrite 1) (placing (withFrame idle (frame .ready)) ⟨cb + 0x1000 + 812, 1, 0xF⟩)
    (fun t => t.tableState .stockA == .stale && t.stuck .tableStale) = true := by decide
theorem test_table_captured : runs (.tableWordWrite 1) (placing (withFrame idle (frame .exposed)) ⟨cb + 0x1000 + 300, 1100, 0xF⟩)
    (fun t => zeroGet t.control.shadows.stockA 300 == 1023 && t.stuck .tableClamp) = true := by decide
theorem test_staging : runs (.stagingWrite 1) (placing idle ⟨cb + 0x800 + 16 * 7 + 6, 0x1234, 1⟩)
    (fun t => (t.control.staging[7])[6] == 0x34) = true := by decide
theorem test_event_settings : runs (.eventSettingsWrite 1) (placing idle ⟨cb + 0x3204, 0xFF, 1⟩)
    (fun t => t.control.eventWords[4] == 0x000090FF) = true := by decide
theorem test_aux_high : runs (.auxFunctionWrite 1) (placing idle ⟨cb + 0x3303, 0x11, 0xF⟩) (fun t => t.aux 3) = true := by
  decide
theorem test_malformed : runs (.malformedCommand 1) (placing idle ⟨cb + 0x400, 0x2020, 1⟩) (fun t =>
    t.control.command == ⟨1, 0x20, 0, .malformed⟩) = true := by decide
theorem test_unknown : runs (.unknownCommand 1) (commanding idle 0x52) (fun t =>
    t.control.command == ⟨1, 0x52, 0, .unknown⟩) = true := by decide

/-- A staged descriptor of 256 columns and 16 lines, r 2, lead 1, red trim 200. -/
def staged : State :=
  { withFrame idle (frame .exposed) with
    control := { (withFrame idle (frame .exposed)).control with
      staging := idle.control.staging.set 4 #v[9, 0x4000, 0x00100100, 0x00040100, 0x01020000, 200, 0] } }

/-- R11 to R16: the record taken, the trim clamped to 127. -/
theorem test_describe : runs (.describe 1) (commanding staged 0x0401) (fun t =>
    (t.slot 4).state == .opened && (t.slot 4).lead == 1 && (t.slot 4).trimR == 127
      && t.control.command.outcome == .doneClamped && t.slots.queue == [4] && t.slots.usersA == 1) = true := by decide
theorem test_describe_overlap : runs (.describe 1) (commanding { staged with
    slots := { staged.slots with table := staged.slots.table.set 0 { frame .exposed with base := 0x4000 } } } 0x0401)
    (fun t => t.control.command.outcome == .overlap && t.slots.queue == []) = true := by decide
theorem test_seal : runs (.sealSlot 1) (commanding (withFrame idle (frame .filling)) 0x0002) (fun t =>
    (t.slot 0).state == .ready && (t.slot 0).sealed && t.stuck .slotReady) = true := by decide
theorem test_withdraw : runs (.withdraw 1) (commanding (withFrame idle (frame .filling)) 0x0003) (fun t =>
    (t.slot 0).state == .vacant && t.slots.queue == [] && t.slots.usersA == 0) = true := by decide
theorem test_withdraw_exposing : runs (.withdraw 1) (commanding (exposing locked 0 1 3 3) 0x0003) (fun t =>
    (t.slot 0).cause == some .withdrawn && t.engine.state == .stopped && t.stuck .frameFault) = true := by decide
theorem test_release : runs (.release 1) (commanding (withFrame idle (frame .faulted)) 0x0004) (fun t =>
    t.slot 0 == Slot.cleared) = true := by decide
theorem test_reload : runs (.reload 1) (commanding idle 0x0010) (fun t =>
    t.tableState .stockA == .loading && t.control.command.outcome == .started) = true := by decide
theorem test_reload_in_use : runs (.reload 1) (commanding (withFrame idle (frame .ready)) 0x0010) (fun t =>
    t.control.command.outcome == .inUse) = true := by decide
theorem test_run : runs (.run 1) (commanding idle 0x20) (fun t => t.engine.state == .waiting) = true := by decide
theorem test_halt_exposing : runs (.halt 1) (commanding (exposing locked 0 1 3 3) 0x21) (fun t =>
    t.engine.state == .imaging && t.engine.haltPending) = true := by decide
theorem test_abort : runs (.abort 1) (commanding (exposing locked 0 1 3 3) 0x22) (fun t =>
    (t.slot 0).cause == some .aborted && !t.expo && !t.done) = true := by decide

/-- R87, example. -/
theorem test_scan_apply : runs (.scanApply 1) (commanding { idle with control := { idle.control with
    scanStaging := #v[12, 1500, 800, 2, 8, 120, 1000] } } 0x30) (fun t =>
    t.scan.live == ⟨12, 2000, 500, 4, 8, 120, 1000⟩ && t.control.command.outcome == .doneClamped
      && t.scan.state == .seeking && t.stuck .scanUnlocked) = true := by decide
theorem test_clear_stats : runs (.clearScanStats 1) (commanding { idle with scan := { idle.scan with glitches := 5 } } 0x31)
    (fun t => t.scan.glitches == 0) = true := by decide

/-- Section 10.7, events 1, 3 and 4. -/
theorem test_interlock_event : runs (.interlockOpen 1) (exposing locked 0 1 3 3) (fun t =>
    t.events.sticky == 0x1004 && t.stop && !t.attn && t.drive.red == 0 && (t.slot 0).cause == some .interlock) = true := by
  decide
theorem test_clear_events : runs (.clearEvents 1) (commanding { idle with events := { idle.events with sticky := 0x1004 } }
    0x10040040) (fun t => t.events.sticky == 0x0008) = true := by decide
theorem test_clear_events_open : runs (.clearEvents 1) (commanding { idle with
    events := { idle.events with sticky := 0x1004 }, pins := { idle.pins with interlock := true } } 0x10040040) (fun t =>
    t.events.sticky == 0x1008) = true := by decide
theorem test_interlock_closes : runs (.interlockClose 1) { idle with
    events := { idle.events with sticky := 0x1004 }, pins := { idle.pins with interlock := true } } (fun t =>
    t.events.sticky == 0x1004 && t.stop) = true := by decide

/-- A monitor in a state, with the records of section 9.7 after event 6. -/
def watching (m : MonitorState) : State :=
  { idle with monitor := { idle.monitor with
      state := m, first := false
      records := (idle.monitor.records.set 0 ⟨true, true, true, false, some 300⟩).set 6
        ⟨false, false, true, false, some 1800⟩ } }

/-- Section 9.7, events 1 to 12. -/
theorem test_monitor_idle_read : ((idle.arise [⟨.modR, 605, .correctable⟩]).checkRead .modR 605).record 2
    = ⟨false, true, false, false, none⟩ := by decide
theorem test_monitor_activation : runs (.monitorStep 1) (commanding ((idle.arise [⟨.modR, 605, .correctable⟩]).checkRead
    .modR 605) 0x50) (fun t => t.monitor.state == .listening && t.record 2 == Indication.clear && !t.monitor.first)
    = true := by decide
theorem test_monitor_uncorrectable : ((((watching .listening).setRecord 0 ⟨true, false, false, false, some 412⟩).arise
    [⟨.stockA, 300, .uncorrectable 0⟩]).checkRead .stockA 300).record 0 = ⟨true, false, true, false, some 300⟩ := by
  decide
theorem test_monitor_reports : runs (.monitorStep 1) (commanding (watching .listening) 0x50) (fun t =>
    t.monitor.state == .reporting 0 ⟨true, true, true, false, some 300⟩ && t.record 0 == Indication.clear
      && t.record 6 == ⟨false, false, true, false, some 1800⟩) = true := by decide
theorem test_monitor_next : runs (.monitorStep 1) (commanding (watching (.reporting 0 Indication.clear)) 0x50) (fun t =>
    t.monitor.state == .reporting 6 ⟨false, false, true, false, some 1800⟩) = true := by decide
theorem test_monitor_pass_ends : runs (.monitorStep 1) (commanding (watching (.reporting 6 Indication.clear)) 0x50) (fun t =>
    t.monitor.state == .listening) = true := by decide
theorem test_monitor_stop : runs (.monitorStop 1) (commanding (watching .listening) 0x51) (fun t =>
    t.monitor.state == .idle && t.record 6 == ⟨false, false, true, false, some 1800⟩) = true := by decide

/-- Section 5.8, events 3, 4, 5, 8, 10 and 14, and the silence of its last note. -/
theorem test_home_seeking : runs (.home 39900) (scanning (scanner .seeking 0 0 0 false)) (fun t =>
    t.scan.state == .counting && t.scan.facet == 3 && t.scan.homeMark) = true := by decide
theorem test_sos_in_window : runs (.sos 100400) (scanning (scanner .counting 3 0 0 true)) (fun t =>
    t.scan.state == .counting && t.scan.facet == 0 && t.scan.inRun == 1 && !t.scan.homeMark) = true := by decide
theorem test_sos_glitch : runs (.sos 29400) (scanning (scanner .counting 0 1 0 false)) (fun t =>
    t.scan.glitches == 1 && t.scan.lastSos == some 10000) = true := by decide
theorem test_sos_locks_and_starts : runs (.sos 99600) (ready (scanner .counting 2 3 0 false) 0) (fun t =>
    t.scan.state == .locked && t.scan.facet == 3 && t.scan.inRun == 4 && t.engine.state == .imaging && t.expo)
    = true := by decide
theorem test_sos_out_of_window : runs (.sos 103300) (exposing (scanner .locked 3 4 0 true) 0 1 3 3) (fun t =>
    t.scan.state == .unsteady && t.scan.outRun == 1 && t.engine.sweep == 4 && (t.slot 0).spoiled == 1) = true := by decide
theorem test_sos_home_missing : runs (.sos 100000) (exposing (scanner .locked 3 4 0 false) 0 1 3 3) (fun t =>
    t.scan.state == .seeking && t.scan.slips == 1 && t.stuck .facetSlip && (t.slot 0).cause == some .facetSlip
      && t.engine.state == .stopped) = true := by decide
theorem test_silence : runs .silenceExpiry (exposing locked 0 1 3 3) (fun t =>
    t.now == 410000 && t.scan.state == .seeking && (t.slot 0).cause == some .scanLost) = true := by decide
theorem test_home_in_place : runs (.home 39900) (scanning (scanner .locked 3 4 0 false)) (fun t =>
    t.scan.state == .locked && t.scan.homeMark) = true := by decide

/-- R112, R113: the next image line from the other bank; the frame end. -/
theorem test_next_line : runs (.sos 100000) (exposing locked 0 1 3 3) (fun t =>
    t.engine.line == some 4 && (t.bank 0).state == .free && (t.bank 1).state == .sending && (t.slot 0).exposed == 1)
    = true := by decide
theorem test_frame_end : runs (.sos 100000) (exposing locked 0 1 15 15) (fun t =>
    (t.slot 0).state == .exposed && t.done && t.engine.state == .closing && t.engine.gateTimer == some ⟨110100, 100000000⟩)
    = true := by decide
/-- Section 6.9, first event: the prefetch of the eligible head begins, and line 0 is locked. -/
theorem test_prefetch : runs (.fetchBegin 0) { ready locked 0 with
    slots := ⟨idle.slots.table.set 0 { frame .filling with chase := 4 }, [0], 1, 0⟩
    fill := ⟨idle.fill.cover.set 0 ⟨1024, []⟩, 48⟩
    feeder := ⟨Vector.replicate 2 ⟨.free, none, []⟩, 0, none⟩ } (fun t =>
    (t.bank 0).tag == some (0, 0) && (t.slot 0).fetchLine == 0 && t.feeder.target == 1) = true := by decide
/-- R117, example: line 1 of base 262,144, W 2048, pitch 2304 begins with a segment of 256 words. -/
theorem test_first_segment : ({ withFrame idle { frame .exposing with
    base := 262144, width := 2048, pitch := 2304 } with
      feeder := ⟨idle.feeder.banks, 2, some ⟨0, 0, 1, 0⟩⟩ }).feederRequest = some (.feeder 0 0 256 264448 true) := by decide
theorem test_segment_fills : runs (.feederSegmentDone 5) (holding { exposing locked 0 1 3 3 with
    feeder := ⟨#v[⟨.filling, some (0, 5), []⟩, ⟨.free, none, []⟩], 6, some ⟨0, 0, 5, 254⟩⟩
    store := [(0, 1), (1, 0), (2, 0), (3, 0), (4, 2), (5, 0), (6, 0), (7, 0)] } (.feeder 0 254 2 0 true)) (fun t =>
    (t.bank 0).state == .full && (t.bank 0).words == [(254, 1), (255, 2)] && t.feeder.fetch == none) = true := by decide

/-- Section 4.8, last paragraph: E' = (605, 662, 538) and the drives of the modulator tables. -/
theorem test_pixel : runs (.pixelDrive 1 []) { exposing locked 0 1 3 3 with
    slots := ⟨idle.slots.table.set 0 { frame .exposing with trimR := 5, trimB := -3 }, [0], 1, 0⟩
    feeder := ⟨#v[⟨.sending, some (0, 3), [(0, packLevels 602 661 541)]⟩, ⟨.free, none, []⟩], 5, none⟩
    control := { idle.control with shadows := { idle.control.shadows with
      facet := [(9, -2), (10, 1)], modR := [(605, 30112)], modG := [(662, 28940)], modB := [(538, 35501)] } }
    drive := ⟨some ⟨true, some 0, 3, 0, 0, false⟩, 0, 0, 0⟩ } (fun t =>
    t.drive.red == 30112 && t.drive.green == 28940 && t.drive.blue == 35501) = true := by decide

/-- R129, R130: GATE and the gate-release timer. -/
theorem test_gate_lost : runs (.gateFall 1) (exposing locked 0 1 3 3) (fun t =>
    (t.slot 0).cause == some .gateLost && !t.pins.gate) = true := by decide
theorem test_gate_rise : runs (.gateRise 3) idle (fun t => t.pins.gate) = true := by decide
theorem test_gate_released : runs (.gateFall 1) { idle with
    engine := ⟨.closing, false, none, 16, some 15, false, some ⟨0, 100⟩, none⟩ } (fun t =>
    t.engine.state == .waiting && t.engine.gateTimer == none) = true := by decide
theorem test_gate_stuck : runs .gateReleaseExpiry { idle with
    engine := ⟨.closing, false, none, 16, some 15, false, some ⟨0, 100⟩, none⟩ } (fun t =>
    t.now == 100 && t.engine.state == .stopped && t.stuck .gateStuck) = true := by decide

/-- An Event Unit with every timer running, 100 ticks long. -/
def pulsing : State :=
  { idle with
    engine := { idle.engine with doneTimer := some ⟨0, 100⟩ }
    events := ⟨0, Vector.replicate 16 (some ⟨0, 100⟩), some ⟨0, 100⟩, some ⟨0, 100⟩,
      some ⟨⟨0, 100⟩, ⟨0, 100⟩, true⟩⟩ }

theorem test_done_end : runs .donePulseEnd pulsing (fun t => t.now == 100 && !t.done) = true := by decide
theorem test_stretch_end : runs (.pulseStretchEnd .frameFault) pulsing (fun t =>
    !t.raw .frameFault && t.raw .slotReady) = true := by decide
theorem test_sweep_end : runs .sweepPulseEnd pulsing (fun t => t.events.sweepPulse.isNone) = true := by decide
theorem test_frame_pulse_end : runs .frameStartPulseEnd pulsing (fun t => t.events.framePulse.isNone) = true := by decide
theorem test_activity_end : runs .activityExpiry pulsing (fun t => t.events.activity.isNone) = true := by decide
theorem test_blink : runs .activityBlinkToggle pulsing (fun t =>
    t.events.activity.any (fun a => !a.high && a.blink == ⟨100, 10000000⟩)) = true := by decide
theorem test_timer_stopped : refuses .donePulseEnd idle .timerStopped = true := by decide
/-- No step passes a timer's end (log 2). -/
theorem test_expiry_first : refuses (.gateRise 781) idle .expiryFirst = true := by decide

/-- R44, R150, R177: power-on with the 1024 MiB straps and INTERLOCK open; R45, R150: RST held and released. -/
theorem test_power_on : runs (.powerOn 1 ⟨true, false⟩ false true false) idle (fun t =>
    t.storeWords == 268435456 && t.stop && t.sc.init == some ⟨1, 20000⟩) = true := by decide
theorem test_rst_assert : runs (.rstAssert 1) (exposing locked 0 1 3 3) (fun t =>
    t.slot 0 == Slot.cleared && t.scan.state == .seeking && t.scan.live == locked.live && t.stuck .scanUnlocked
      && t.tableState .stockA == .valid && t.engine.state == .stopped) = true := by decide
theorem test_rst_release : runs (.rstRelease 1 ⟨false, true⟩ false) { idle with pins := { idle.pins with rst := true } }
    (fun t => t.storeWords == 134217728 && !t.pins.rst && runs (.linkHeader 1 0 0) t (fun u => u.link.txn.isSome))
    = true := by decide
/-- R45: LSEL low at the release: the header is ignored, and after a rise the next one is decoded. -/
theorem test_rst_release_lsel_low : runs (.rstRelease 1 ⟨false, true⟩ true)
    { idle with pins := { idle.pins with rst := true } } (fun t =>
    runs (.linkHeader 1 0 0) t (fun u => u.link.txn.isNone && u.pins.lselLow
      && runs (.lselRise 1) u (fun v => runs (.linkHeader 1 0 0) v (fun x => x.link.txn.isSome)))) = true := by decide
theorem test_header_in_transaction : refuses (.linkHeader 1 0 0) (opened true .linear 5 0 true false false [])
    .headerInTransaction = true := by decide

/-! ## For each statement, states and operands that meet its hypotheses, clause by clause -/

theorem wit_StepRunsFrontCommand : idle.pending = [] := by decide

theorem wit_BridgeResetKeepsStoreAndTables : idle.mayReach (idle.now + 780) = true := by decide

/-- RST held. -/
def held : State := { idle with pins := { idle.pins with rst := true } }

theorem wit_RstIsHeldAndReleased : held.mayReach (held.now + 1) = true ∧ held.pins.rst = true ∧ held.pins.lselLow = false
    ∧ held.link.txn = none := by decide
/-- LSEL still low after the release. -/
theorem wit_RstIsHeldAndReleased_ignored : runs (.rstRelease 1 ⟨false, false⟩ true) held (fun t =>
    t.mayReach (t.now + 1) && t.pins.lselLow && t.link.txn.isNone && !t.pins.rst) = true := by decide

theorem wit_BeatAddressesFollowTheBurst : (8 = 8 ∨ 8 = 16 ∨ 8 = 32) ∧ (16 = 8 ∨ 16 = 16 ∨ 16 = 32)
    ∧ (32 = 8 ∨ 32 = 16 ∨ 32 = 32) := by decide

/-- A read of a store word while the store is held: its first segment is still wanted. -/
theorem wit_HeaderOpensTransaction_wants :
    runs (.linkHeader 1 0x00000205 0) (holding idle .refresh) (fun t =>
      t.link.txn.any (·.wants) && t.sc.grant == some ⟨.refresh, ⟨0, 12⟩⟩) = true := by decide
theorem wit_HeaderOpensTransaction : idle.mayReach (idle.now + 1) = true ∧ idle.pins.lselLow = false
    ∧ idle.pins.rst = false := by decide

/-- Headers at Z − 1, at Z, of a status word and of a store word, of a write and of a read. -/
theorem wit_LrdyRises_header : idle.pins.rst = false
    ∧ runs (.linkHeader 1 0x84000000 0) idle (fun t => t.link.txn.any (fun x => x.write && x.outOfRange)) = true
    ∧ runs (.linkHeader 1 0x83FFFFFF 0) idle (fun t => t.link.txn.any (fun x => x.write && !x.outOfRange)) = true
    ∧ runs (.linkHeader 1 0x04000000 0) idle (fun t => t.link.txn.any (fun x => !x.write && x.outOfRange)) = true
    ∧ runs (.linkHeader 1 0x03FC03FF 0) idle (fun t => t.link.txn.any (fun x => !x.write && idle.isStatus x.addr)) = true
    ∧ runs (.linkHeader 1 0x03FC0400 0) idle (fun t => t.link.txn.any (fun x =>
        !x.write && !x.outOfRange && !idle.isStatus x.addr)) = true := by decide

/-- A write that waits behind 193 beats, and may be admitted at 192. -/
def waiting (n : Nat) : State := { opened true .linear 5 0 false false false [] with queue := List.replicate n ⟨0, 0, 0xF⟩ }

theorem wit_LrdyRises_admit :
    ((waiting 192).mayReach ((waiting 192).now + 0) = true
      ∧ (waiting 192).link.txn = some ⟨true, .linear, 5, false, false, 0, false, [], none⟩ ∧ (waiting 192).queue.length ≤ 192)
    ∧ ((opened true .linear 5 0 false false true []).mayReach 0 = true)
    ∧ (opened false .linear 5 0 false false false []).mayReach 0 = true
      ∧ (opened false .linear 5 0 false false false []).queue = []
      ∧ (opened false .linear 5 0 false false false []).sc.init = none := by decide +kernel

/-- The 64th beat, the 65th, and a beat out of range. -/
theorem wit_WriteBeatJoinsTheQueueOrIsDiscarded :
    (opened true .linear 5 63 true false false []).mayReach 1 = true
    ∧ (opened true .linear 5 63 true false false []).link.txn
        = some ⟨true, .linear, 5, false, true, 63, false, [], none⟩
    ∧ (opened true .linear 5 64 true false false []).mayReach 1 = true
    ∧ (opened true .linear 5 64 true false false []).link.txn
        = some ⟨true, .linear, 5, false, true, 64, false, [], none⟩
    ∧ (opened true .linear cb 0 true false true []).mayReach 1 = true
    ∧ (opened true .linear cb 0 true false true []).link.txn
        = some ⟨true, .linear, cb, true, true, 0, false, [], none⟩ := by decide

/-- The last word of the status page, and the store word behind it. -/
theorem wit_ReadBeatDeliversStatusOrStoreWord :
    (opened false .linear (cb + 0x3FF) 0 true false false []).mayReach 1 = true
    ∧ (opened false .linear (cb + 0x3FF) 0 true false false []).isStatus
        (beatAddr (opened false .linear (cb + 0x3FF) 0 true false false []).storeWords .linear (cb + 0x3FF) 0) = true
    ∧ (opened false .linear (cb + 0x400) 0 true false false [7]).mayReach 1 = true
    ∧ (opened false .linear (cb + 0x400) 0 true false false [7]).isStatus
        (beatAddr (opened false .linear (cb + 0x400) 0 true false false [7]).storeWords .linear (cb + 0x400) 0) = false := by
  decide
/-- A snapshot in use: a second beat of the group carries its word, not the page's. -/
def snapped : State := { opened false .linear (cb + 16) 1 true false false [] with
  link := { idle.link with
    txn := some ⟨false, .linear, cb + 16, false, true, 1, false, [], some (1, List.replicate 16 9)⟩, ld := some ⟨9, 0⟩ } }
theorem wit_ReadBeatDeliversStatusOrStoreWord_snapshot :
    snapped.mayReach 1 = true ∧ snapped.isStatus (beatAddr snapped.storeWords .linear (cb + 16) 1) = true
    ∧ (beatAddr snapped.storeWords .linear (cb + 16) 1 - snapped.controlBase) / 16 = 1
    ∧ (∀ x ∈ snapped.link.ld, x.tick ≤ snapped.now) ∧ snapped.lstb = true
    ∧ runs (.readBeat 1) snapped (fun t => t.ldWord == some 9) = true
    ∧ runs (.gateRise 0) snapped State.lstb = true ∧ runs (.gateRise 1) snapped State.lstb = false := by decide

/-- A granted read segment, and a placement unit. -/
theorem wit_LselRiseEndsTransaction :
    (opened false .linear 5 0 true false false [7]).mayReach 1 = true
    ∧ runs (.lselRise 1) (holding (opened false .linear 5 0 true false false []) (.linkRead .linear 5 507 true)) (fun t =>
        t.sc.grant == some ⟨.linkRead .linear 5 507 false, ⟨0, 12⟩⟩) = true
    ∧ runs (.lselRise 1) (placing idle ⟨0, 0, 0xF⟩) (fun t => t.sc.grant == some ⟨.placement 1, ⟨0, 12⟩⟩) = true := by decide

/-- A fetch in flight, a queued beat, a wanted read and a reload in flight: each request alone. -/
def fetching : State := { exposing locked 0 1 3 3 with
  sc := idle.sc, now := 0
  feeder := ⟨#v[⟨.filling, some (0, 5), []⟩, ⟨.free, none, []⟩], 6, some ⟨0, 0, 5, 254⟩⟩ }
def reloading : State := { idle with control := { idle.control with
  tables := { idle.control.tables with facet := .loading }, reload := ⟨some .facet, true, 0, false, .none⟩ } }

theorem wit_ArbiterGrantsTheHighestRank_busy : State.reset.sc.init ≠ none ∧ (placing idle ⟨0, 0, 0⟩).sc.grant ≠ none
    ∧ idle.sc.init = none ∧ idle.sc.grant = none := by decide
theorem wit_ArbiterGrantsTheHighestRank_units :
    ({ idle with sc := { idle.sc with pendingRefresh := 8 } }).nextGrant = some .refresh
    ∧ fetching.nextGrant = some (.feeder 0 254 2 1534 true)
    ∧ (opened false .linear 5 0 false true false []).nextGrant = some (.linkRead .linear 5 507 true)
    ∧ (opened false (.wrapped 32) 5 0 false true false []).nextGrant = some (.linkRead (.wrapped 32) 5 32 true)
    ∧ (waiting 17).nextGrant = some (.placement 16) ∧ reloading.nextGrant = some (.reload .facet 0 48 true)
    ∧ (∀ t ∈ (opened false (.wrapped 32) 5 0 false true false []).link.txn, burstFits t.burst = true) := by decide +kernel
/-- Nothing requested; a queue whose second beat lies in the next page; a wrapped read at the last word of its group. -/
theorem wit_ArbiterGrantsTheHighestRank_requests :
    idle.nextGrant = none ∧ idle.feeder.fetch = none ∧ idle.queue = [] ∧ (∀ x ∈ idle.link.txn, x.wants = false)
    ∧ idle.control.reload.inFlight = false
    ∧ ({ idle with queue := [⟨511, 0, 0xF⟩, ⟨512, 0, 0xF⟩] }).linkRequest = some (.placement 1)
    ∧ (opened false (.wrapped 8) 5 2 false true false []).linkRequest = some (.linkRead (.wrapped 8) 7 8 true)
    ∧ (opened false .linear 511 1 false true false []).linkRequest = some (.linkRead .linear 512 512 true) := by decide
/-- The last segment of a stock set's span, at a progress of 768. -/
theorem wit_ArbiterGrantsTheHighestRank_reload : ({ idle with control := { idle.control with
      reload := ⟨some .stockA, true, 768, false, .none⟩ } }).nextGrant = some (.reload .stockA 768 47 true)
    ∧ 768 % 64 = 0 ∧ 0 < 47 := by decide

theorem wit_RefreshRunsAtFixedIntervals :
    (State.reset.mayReach 20000 = true ∧ State.reset.sc.init = some ⟨0, 20000⟩)
    ∧ (idle.mayReach 780 = true ∧ idle.sc.refresh = some ⟨0, 780⟩)
    ∧ ((holding idle .refresh).mayReach ((holding idle .refresh).now + 12) = true
      ∧ (holding idle .refresh).sc.grant = some ⟨.refresh, ⟨0, 12⟩⟩)
    ∧ (holding idle (.placement 0)).mayReach ((holding idle (.placement 0)).now + 12) = true
      ∧ (holding idle (.placement 0)).sc.grant = some ⟨.placement 0, ⟨0, 12⟩⟩ := by decide

/-- A read segment at the top of the store, wanted and no longer wanted. -/
def reading (wanted : Bool) : State :=
  holding (opened false .linear 67108862 0 true false false []) (.linkRead .linear 67108862 2 wanted)

theorem wit_ReadSegmentFillsTheBuffer :
    (reading false).mayReach ((reading false).now + 1) = true
    ∧ (reading true).mayReach ((reading true).now + 1) = true
    ∧ (reading true).sc.grant = some ⟨.linkRead .linear 67108862 2 true, ⟨0, 12⟩⟩
    ∧ (∀ k, k < 2 → beatAddr (reading true).storeWords .linear 67108862 k < (reading true).storeWords)
    ∧ (reading true).link.txn.isSome = true := by decide

/-- The last segment of a line, one before it, and one of an abandoned fetch. -/
theorem wit_FetchSegmentFillsTheBank :
    (holding fetching (.feeder 0 254 2 1534 false)).mayReach (fetching.now + 1) = true
    ∧ (holding fetching (.feeder 0 254 2 1534 true)).mayReach (fetching.now + 1) = true
    ∧ fetching.feeder.fetch = some ⟨0, 0, 5, 254⟩ ∧ 1534 + 2 ≤ fetching.storeWords
    ∧ zeroWf (fetching.bank 0).words = true
    ∧ 254 + 2 = (fetching.slot 0).width ∧ 254 + 1 ≠ (fetching.slot 0).width := by decide
/-- Damage at a position written, and at the one before it. -/
theorem wit_FetchSegmentFillsTheBank_damage :
    runs (.feederSegmentDone 1) ((holding fetching (.feeder 0 254 2 1534 true)).arise
        [⟨.bank0, 254, .uncorrectable 7⟩, ⟨.bank0, 253, .correctable⟩]) (fun t =>
      t.harmAt .bank0 254 == none && t.harmAt .bank0 253 == some .correctable) = true := by decide

theorem wit_ReloadSegmentCapturesItsEntries :
    (holding reloading (.reload .facet 0 48 false)).mayReach (reloading.now + 1) = true
    ∧ (holding reloading (.reload .facet 0 48 true)).mayReach (reloading.now + 1) = true
    ∧ 0 + 48 ≤ TableUnit.facet.span ∧ reloading.controlBase + TableUnit.facet.area + 0 + 48 ≤ reloading.storeWords
    ∧ reloading.control.reload.progress + 48 = TableUnit.facet.span
    ∧ reloading.control.reload.progress + 47 ≠ TableUnit.facet.span
    ∧ runs (.reloadSegmentDone 1) (holding reloading (.reload .facet 0 48 true)) (fun _ => true) = true
    ∧ runs (.reloadSegmentDone 1) (holding reloading (.reload .facet 0 47 true)) (fun _ => true) = true := by decide
/-- The last word of the span, a facet offset of 64, which is clamped, and of 63, which is not. -/
theorem wit_ReloadSegmentCapturesItsEntries_raises :
    let s (k : Byte) := { holding reloading (.reload .facet 47 1 true) with
      store := (List.range 4).map (fun i => (4 * (cb + 0x302F) + i, if i = 0 then k else 0))
      control := { reloading.control with reload := ⟨some .facet, true, 47, false, .none⟩ } }
    runs (.reloadSegmentDone 1) (s 64) (fun t => t.stuck .tableClamp && t.stuck .commandDone) = true
    ∧ runs (.reloadSegmentDone 1) (s 63) (fun t => !t.stuck .tableClamp && t.stuck .commandDone) = true := by decide

/-- No frame is described: no word is a picture word. -/
theorem noPicture (s : State) (h : ∀ n, (s.slot n).state = .vacant) (a : Nat) :
    ∀ n line column, ¬ IsPicture (s.slot n) a line column := fun n _ _ hp => hp.1 (h n)

/-- A beat with no enable, one at either end of the status page, one at a plain word of the control region, and one
below CB. -/
theorem wit_PlainBeatsAreStoredOrDiscarded_control :
    Placing (placing idle ⟨2, 1, 0⟩) 1 ⟨2, 1, 0⟩ 0 ⟨0, 12⟩ []
    ∧ Placing (placing idle ⟨cb, 1, 1⟩) 1 ⟨cb, 1, 1⟩ 0 ⟨0, 12⟩ [] ∧ ControlBeat (placing idle ⟨cb, 1, 1⟩) ⟨cb, 1, 1⟩ 0
    ∧ ControlBeat (placing idle ⟨cb + 1023, 1, 1⟩) ⟨cb + 1023, 1, 1⟩ 1023
    ∧ ControlBeat (placing idle ⟨cb + 0x401, 1, 1⟩) ⟨cb + 0x401, 1, 1⟩ 0x401 ∧ areaOf 0x401 = .plain := by
  unfold Placing ControlBeat; decide
theorem wit_PlainBeatsAreStoredOrDiscarded_store :
    Placing (placing idle ⟨cb - 1, 1, 0xF⟩) 1 ⟨cb - 1, 1, 0xF⟩ 0 ⟨0, 12⟩ []
    ∧ cb - 1 < (placing idle ⟨cb - 1, 1, 0xF⟩).controlBase ∧ RegionsDisjoint (placing idle ⟨cb - 1, 1, 0xF⟩)
    ∧ ∀ n line column, ¬ IsPicture ((placing idle ⟨cb - 1, 1, 0xF⟩).slot n) (cb - 1) line column := by
  refine ⟨by unfold Placing; decide, by decide, by unfold RegionsDisjoint; decide, ?_⟩
  exact noPicture _ (by decide) _

/-- The picture word at the last line and column of the frame, the beat with enables `en`. -/
def pictureBeat (en : Enables) : Beat := ⟨4095, 5, en⟩
/-- Its placement, the frame in state `st` with its fetch line at `fl`. -/
def picture (st : SlotState) (fl : Int) (c : Coverage) (en : Enables) : State :=
  placing (covered (withFrame idle { frame st with fetchLine := fl }) c 40) (pictureBeat en)

theorem wit_LockedOrPartialPictureWordIsDropped :
    Placing (picture .exposed (-1) ⟨0, []⟩ 0xF) 1 (pictureBeat 0xF) 0 ⟨0, 12⟩ []
    ∧ RegionsDisjoint (picture .exposed (-1) ⟨0, []⟩ 0xF)
    ∧ IsPicture ((picture .exposed (-1) ⟨0, []⟩ 0xF).slot 0) 4095 15 255
    ∧ Placing (picture .exposing 15 ⟨0, []⟩ 0xF) 1 (pictureBeat 0xF) 0 ⟨0, 12⟩ []
    ∧ RegionsDisjoint (picture .exposing 15 ⟨0, []⟩ 0xF)
    ∧ (15 : Int) ≤ ((picture .exposing 15 ⟨0, []⟩ 0xF).slot 0).fetchLine
    ∧ Placing (picture .exposing 14 ⟨0, []⟩ 0xE) 1 (pictureBeat 0xE) 0 ⟨0, 12⟩ []
    ∧ RegionsDisjoint (picture .exposing 14 ⟨0, []⟩ 0xE)
    ∧ IsPicture ((picture .exposing 14 ⟨0, []⟩ 0xE).slot 0) 4095 15 255
    ∧ ((picture .exposing 14 ⟨0, []⟩ 0xE).slot 0).fetchLine < 15 := by
  unfold Placing RegionsDisjoint IsPicture; (repeat' apply And.intro) <;> decide

/-- The word that completes a FILLING frame, and one that does not. -/
theorem wit_PictureWordIsConvertedAndStored :
    Placing (picture .filling 14 ⟨4095, []⟩ 0xF) 1 (pictureBeat 0xF) 0 ⟨0, 12⟩ []
    ∧ RegionsDisjoint (picture .filling 14 ⟨4095, []⟩ 0xF)
    ∧ IsPicture ((picture .filling 14 ⟨4095, []⟩ 0xF).slot 0) 4095 15 255
    ∧ (true = true ↔ 4095 = ((picture .filling 14 ⟨4095, []⟩ 0xF).cover 0).cursor
        ∧ ((picture .filling 14 ⟨4095, []⟩ 0xF).slot 0).lost = false
        ∧ (((picture .filling 14 ⟨4095, []⟩ 0xF).recordFill 0 4095).cover 0).cursor = 256 * 16)
    ∧ false = ((picture .filling 14 ⟨4095, []⟩ 0xF).arise []).anyFails
        (((picture .filling 14 ⟨4095, []⟩ 0xF).arise []).conversionReads .a false 5)
    ∧ Placing (picture .opened (-1) ⟨0, []⟩ 0xF) 1 (pictureBeat 0xF) 0 ⟨0, 12⟩ []
    ∧ RegionsDisjoint (picture .opened (-1) ⟨0, []⟩ 0xF)
    ∧ (false = true ↔ 4095 = ((picture .opened (-1) ⟨0, []⟩ 0xF).cover 0).cursor
        ∧ ((picture .opened (-1) ⟨0, []⟩ 0xF).slot 0).lost = false
        ∧ (((picture .opened (-1) ⟨0, []⟩ 0xF).recordFill 0 4095).cover 0).cursor = 256 * 16)
    ∧ true = ((picture .opened (-1) ⟨0, []⟩ 0xF).arise [⟨.stockA, 814, .uncorrectable 0⟩]).anyFails
        (((picture .opened (-1) ⟨0, []⟩ 0xF).arise [⟨.stockA, 814, .uncorrectable 0⟩]).conversionReads .a false 5) := by
  unfold Placing RegionsDisjoint IsPicture; (repeat' apply And.intro) <;> decide

/-- Coverage for the cases of R48: runs [20, 23) and [24, 30) above cursor 10, with and without a free entry. -/
def tracked (lost : Bool) (free : Nat) : State :=
  covered (withFrame idle { frame .filling with lost := lost }) ⟨10, if lost then [] else [⟨20, 23⟩, ⟨24, 30⟩]⟩ free

theorem wit_FillTakesTheFirstMatchingCase_sound :
    (runsBetween (256 * 16) ((tracked false 46).cover 0).cursor ((tracked false 46).cover 0).runs
      ∧ (((tracked false 46).slot 0).lost = true → ((tracked false 46).cover 0).runs = []))
    ∧ runsBetween (256 * 16) ((tracked true 48).cover 0).cursor ((tracked true 48).cover 0).runs
      ∧ (((tracked true 48).slot 0).lost = true → ((tracked true 48).cover 0).runs = []) := by
  refine ⟨⟨?_, by decide⟩, trivial, by decide⟩
  exact ⟨by decide, by decide, by decide, by decide, by decide, by decide, trivial⟩
/-- R56: the last index of a FILLING frame, and of one that is LOST. -/
theorem wit_FillTakesTheFirstMatchingCase_completes :
    (((covered (withFrame idle (frame .filling)) ⟨4095, []⟩ 48).recordFill 0 4095).slot 0).state = .ready
    ∧ ((covered (withFrame idle (frame .filling)) ⟨4095, []⟩ 48).recordFill 0 4095).stuck .slotReady = true
    ∧ (((covered (withFrame idle { frame .filling with lost := true }) ⟨4095, []⟩ 48).recordFill 0 4095).slot 0).state
        = .filling := by decide
/-- Indices 9 (below the cursor), 29 (in a run), 10 (the cursor), 11 (untracked), 23 (merge), 30 and 19 (extend), and 12
(a new run, with and without a free entry). -/
theorem wit_FillTakesTheFirstMatchingCase_cases :
    (tracked false 46).cover 0 = ⟨10, [⟨20, 23⟩] ++ ⟨24, 30⟩ :: []⟩
    ∧ 9 < ((tracked false 46).cover 0).cursor
    ∧ (∃ r ∈ ((tracked false 46).cover 0).runs, r.first ≤ 29 ∧ 29 < r.stop)
    ∧ (∀ r ∈ ((tracked false 46).cover 0).runs, r.first ≠ 10 + 1)
    ∧ (∀ r ∈ ((tracked false 46).cover 0).runs, ¬ (r.first ≤ 23 ∧ 23 < r.stop))
    ∧ (∀ r ∈ ((tracked false 46).cover 0).runs, ¬ (r.first ≤ 30 ∧ 30 < r.stop))
    ∧ (∀ r ∈ ((tracked false 46).cover 0).runs, ¬ (r.first ≤ 19 ∧ 19 < r.stop))
    ∧ (∀ r ∈ ((tracked false 0).cover 0).runs, 12 + 1 < r.first) ∧ (tracked false 0).fill.free = 0
    ∧ 0 < (tracked false 46).fill.free
    ∧ (tracked true 48).cover 0 = ⟨10, []⟩ ∧ ((tracked true 48).slot 0).lost = true
    ∧ (covered (tracked false 46) ⟨19, [⟨20, 23⟩]⟩ 47).cover 0 = ⟨19, ⟨19 + 1, 23⟩ :: []⟩ := by decide

/-- A table word of set A at its last entry, +814, in a unit of state `ts`, the set in use or not. -/
def tableBeat (ts : TableState) (used : Nat) (en : Enables) : State :=
  placing { idle with
    control := { idle.control with tables := ⟨ts, .empty, .empty, .empty⟩ }
    slots := { idle.slots with usersA := used } } ⟨cb + 0x1000 + 814, 1, en⟩

theorem wit_TableWordsAreCapturedOrMakeStale :
    Placing (tableBeat .valid 0 3) 1 ⟨cb + 0x1000 + 814, 1, 3⟩ 0 ⟨0, 12⟩ []
    ∧ ControlBeat (tableBeat .valid 0 3) ⟨cb + 0x1000 + 814, 1, 3⟩ (TableUnit.stockA.area + 814)
    ∧ TableUnit.stockA.isEntry 814 = true
    ∧ (tableBeat .valid 0 3).tableState .stockA = .valid ∧ (tableBeat .valid 0 3).inUse .stockA = false
    ∧ (tableBeat .valid 1 3).inUse .stockA = true ∧ (tableBeat .loading 0 1).tableState .stockA = .loading
    ∧ (tableBeat .stale 0 1).tableState .stockA = .stale ∧ (tableBeat .empty 0 1).tableState .stockA = .empty
    ∧ Placing (tableBeat .valid 0 2) 1 ⟨cb + 0x1000 + 814, 1, 2⟩ 0 ⟨0, 12⟩ []
    ∧ Placing (tableBeat .valid 0 12) 1 ⟨cb + 0x1000 + 814, 1, 12⟩ 0 ⟨0, 12⟩ [] := by
  unfold Placing ControlBeat; decide
theorem wit_TableWords_canonical : ∀ m, zeroWf ((tableBeat .valid 0 3).control.shadows.get m) = true := by
  intro m; cases m <;> decide

/-- The clamps of R137 at the ends of their ranges. -/
theorem wit_CapturedEntriesAreClamped :
    captureValue .stockA 770 1023 = (1023, false) ∧ captureValue .stockB 770 1024 = (1023, true)
    ∧ captureValue .stockA 800 0xFFFF = (0xFFFF, false) ∧ captureValue .stockA 808 0x8000 = (0x8000, false)
    ∧ captureValue .stockA 812 2047 = (2047, false) ∧ captureValue .stockA 814 2048 = (2047, true)
    ∧ captureValue .stockA 812 (-2049) = (-2048, true) ∧ captureValue .facet 0 63 = (63, false)
    ∧ captureValue .facet 47 64 = (63, true) ∧ captureValue .facet 47 (-65) = (-64, true)
    ∧ captureValue .modulator 3071 0xFFFF = (0xFFFF, false) := by decide

/-- The last word of each area. -/
theorem wit_StagingAndSettingsAreMergedByByte :
    Placing (placing idle ⟨cb + 0x87F, 1, 1⟩) 1 ⟨cb + 0x87F, 1, 1⟩ 0 ⟨0, 12⟩ []
    ∧ ControlBeat (placing idle ⟨cb + 0x87F, 1, 1⟩) ⟨cb + 0x87F, 1, 1⟩ (0x800 + 16 * 7 + 15)
    ∧ ControlBeat (placing idle ⟨cb + 0x3107, 1, 1⟩) ⟨cb + 0x3107, 1, 1⟩ (0x3100 + 7)
    ∧ ControlBeat (placing idle ⟨cb + 0x3204, 1, 1⟩) ⟨cb + 0x3204, 1, 1⟩ (0x3200 + 4)
    ∧ ControlBeat (placing idle ⟨cb + 0x3303, 1, 1⟩) ⟨cb + 0x3303, 1, 1⟩ (0x3300 + 3) := by
  unfold Placing ControlBeat; decide

theorem wit_MalformedAndUnknownCommandsAreRecorded :
    Placing (placing idle ⟨cb + 0x400, 0x20, 7⟩) 1 ⟨cb + 0x400, 0x20, 7⟩ 0 ⟨0, 12⟩ []
    ∧ ControlBeat (placing idle ⟨cb + 0x400, 0x20, 7⟩) ⟨cb + 0x400, 0x20, 7⟩ 0x400
    ∧ Placing (commanding idle 0x05) 1 ⟨cb + 0x400, 0x05, 0xF⟩ 0 ⟨0, 12⟩ []
    ∧ ControlBeat (commanding idle 0x05) ⟨cb + 0x400, 0x05, 0xF⟩ 0x400
    ∧ (0x05#32).toNat % 256 ∉ [0x01, 0x02, 0x03, 0x04, 0x10, 0x20, 0x21, 0x22, 0x30, 0x31, 0x40, 0x50, 0x51] := by
  unfold Placing ControlBeat; decide

/-- A command word with opcode and target is about to be placed in `s`. -/
def asks (s : State) (w : Word) (op target : Nat) : Prop :=
  Commanding (commanding s w) 1 ⟨cb + 0x400, w, 0xF⟩ 0 ⟨s.now, 12⟩ [] op target

/-- Target 8; a slot not VACANT; a field out of range; a region that reaches CB, and one that meets another; a set that is
not VALID. -/
theorem wit_DescribeRefusesInOrder :
    asks staged 0x0801 1 8 ∧ asks staged 0x0001 1 0 ∧ (staged.slot 0).state ≠ .vacant
    ∧ asks staged 0x0501 1 5 ∧ (staged.slot 5).state = .vacant
    ∧ asks staged 0x0401 1 4 ∧ (staged.slot 4).state = .vacant
    ∧ (Descriptor.ofStaging staged.control.staging[4]).last < staged.controlBase
    ∧ (∀ m : Fin 8, m ≠ 4 → (staged.slot m).state ≠ .vacant →
        (Descriptor.ofStaging staged.control.staging[4]).last < (staged.slot m).base
          ∨ (staged.slot m).last < (Descriptor.ofStaging staged.control.staging[4]).base)
    ∧ { staged with control := { staged.control with tables := ⟨.stale, .valid, .valid, .valid⟩ } }.tableState .stockA ≠ .valid
    ∧ asks { staged with control := { staged.control with tables := ⟨.stale, .valid, .valid, .valid⟩ } } 0x0401 1 4 := by
  unfold asks Commanding Placing; decide
theorem wit_DescribeRefusesInOrder_staged : ¬ FieldsInRange (Descriptor.ofStaging staged.control.staging[5])
    ∧ FieldsInRange (Descriptor.ofStaging staged.control.staging[4]) := by
  unfold FieldsInRange; decide
/-- R12: each field one step beyond its range, and every field at an end of it. -/
theorem wit_DescribeRefusesInOrder_fields :
    let d : Descriptor := ⟨0, 64, 256, 16, 256, 0, 0, false, 1, 0, 0, 0, 0⟩
    FieldsInRange d ∧ FieldsInRange ⟨0, 0, 8192, 6144, 16384, 6144, 1, true, 4, 255, 0, 0, 0⟩
    ∧ ∀ x ∈ [{ d with width := 248 }, { d with width := 8200, pitch := 8200 }, { d with width := 257, pitch := 257 },
        { d with height := 15 }, { d with height := 6145 }, { d with pitch := 255 }, { d with pitch := 16385 },
        { d with base := 65 }, { d with selector := 2 }, { d with selector := 3 }, { d with chase := 6145 },
        { d with rep := 0 }, { d with rep := 5 }], ¬ FieldsInRange x := by
  unfold FieldsInRange; decide
theorem wit_DescribeRefusesInOrder_overlap :
    let s := { staged with control := { staged.control with
      staging := (staged.control.staging.set 4 #v[9, 0, 0x00100100, 0x00040100, 0x01020000, 200, 0]).set 5
        #v[9, 66842880, 0x00100100, 0x00040100, 0x01020000, 200, 0] } }
    asks s 0x0401 1 4 ∧ FieldsInRange (Descriptor.ofStaging s.control.staging[4])
      ∧ (∃ m : Fin 8, m ≠ 4 ∧ (s.slot m).state ≠ .vacant ∧ (Descriptor.ofStaging s.control.staging[4]).base ≤ (s.slot m).last
        ∧ (s.slot m).base ≤ (Descriptor.ofStaging s.control.staging[4]).last)
      ∧ asks s 0x0501 1 5 ∧ FieldsInRange (Descriptor.ofStaging s.control.staging[5])
      ∧ s.controlBase ≤ (Descriptor.ofStaging s.control.staging[5]).last := by
  unfold asks Commanding Placing FieldsInRange; decide

theorem wit_DescribeAcceptsTheStagedFrame :
    asks staged 0x0401 1 (4 : Fin 8).val ∧ (staged.slot 4).state = .vacant
    ∧ staged.control.staging[4] = #v[9, 0x4000, 0x00100100, 0x00040100, 0x01020000, 200, 0]
    ∧ (256 ≤ 256 ∧ 256 % 8 = 0 ∧ 16 ≤ 16 ∧ 256 ≤ 256 ∧ 0x4000 % 64 = 0 ∧ (0x01020000#32).toNat % 4 ≤ 1 ∧ 4 ≤ 6144 ∧ 1 ≤ 2)
    ∧ 0x4000 + (16 - 1) * 256 + 256 - 1 < staged.controlBase
    ∧ (∀ m : Fin 8, m ≠ 4 → (staged.slot m).state ≠ .vacant →
        0x4000 + (16 - 1) * 256 + 256 - 1 < (staged.slot m).base ∨ (staged.slot m).last < 0x4000)
    ∧ staged.tableState .stockA = .valid := by
  unfold asks Commanding Placing; decide

theorem wit_SealAndReleaseMoveTheSlot :
    asks idle 0x0802 2 8 ∧ asks (withFrame idle (frame .opened)) 0x0002 2 0 ∧ asks (withFrame idle (frame .filling)) 0x0002 2 0
    ∧ asks (withFrame idle (frame .ready)) 0x0702 2 7
    ∧ asks idle 0x0804 4 8 ∧ asks (withFrame idle (frame .exposed)) 0x0004 4 0
    ∧ asks (withFrame idle (frame .faulted)) 0x0004 4 0 ∧ asks (withFrame idle (frame .ready)) 0x0004 4 0
    ∧ ((withFrame idle (frame .ready)).slot 7).state ≠ .opened ∧ ((withFrame idle (frame .ready)).slot 7).state ≠ .filling
    ∧ ((withFrame idle (frame .ready)).slot 0).state ≠ .exposed
    ∧ ((withFrame idle (frame .ready)).slot 0).state ≠ .faulted := by
  unfold asks Commanding Placing; (repeat' apply And.intro) <;> decide

theorem wit_WithdrawRemovesOrAborts :
    asks idle 0x0803 3 8 ∧ asks idle 0x0703 3 7 ∧ (idle.slot 7).state = .vacant
    ∧ asks (ready locked 0) 0x0003 3 0 ∧ ((ready locked 0).slot 0).state = .ready ∧ (ready locked 0).engine.state = .waiting
    ∧ (∃ k, ∃ x ∈ ((ready locked 0).bank k).tag, x.1 = 0)
    ∧ asks (withFrame idle (frame .opened)) 0x0003 3 0 ∧ (withFrame idle (frame .opened)).engine.state ≠ .waiting
    ∧ asks (exposing locked 0 1 3 3) 0x0003 3 0 ∧ ((exposing locked 0 1 3 3).slot 0).state = .exposing
    ∧ (exposing locked 0 1 3 3).engine.slot = some 0 ∧ (exposing locked 0 1 3 3).expo = true := by
  unfold asks Commanding Placing; decide

theorem wit_ReloadIsTakenOrRefused :
    asks idle 0x0410 0x10 4 ∧ asks idle 0x0310 0x10 TableUnit.facet.code ∧ asks reloading 0x0310 0x10 TableUnit.facet.code
    ∧ reloading.control.reload.inFlight = true ∧ asks (withFrame idle (frame .ready)) 0x0010 0x10 TableUnit.stockA.code
    ∧ (withFrame idle (frame .ready)).inUse .stockA = true ∧ idle.control.reload.inFlight = false
    ∧ idle.inUse .facet = false := by
  unfold asks Commanding Placing; decide

theorem wit_RunHaltAbort :
    asks idle 0x20 0x20 0 ∧ asks idle 0x21 0x21 0 ∧ idle.engine.state = .stopped
    ∧ asks (exposing locked 0 1 3 3) 0x21 0x21 0 ∧ (exposing locked 0 1 3 3).expo = true
    ∧ asks (ready locked 0) 0x21 0x21 0 ∧ (ready locked 0).engine.state = .waiting
    ∧ asks idle 0x22 0x22 0 ∧ asks (ready locked 0) 0x22 0x22 0
    ∧ asks { idle with engine := { idle.engine with state := .closing } } 0x22 0x22 0
    ∧ asks (exposing locked 0 1 3 3) 0x22 0x22 0 ∧ (exposing locked 0 1 3 3).engine.slot = some 0 := by
  unfold asks Commanding Placing; (repeat' apply And.intro) <;> decide

theorem wit_ScanApplyInstallsClampedSettings :
    asks idle 0x30 0x30 0 ∧ idle.expo = false ∧ asks (exposing locked 0 1 3 3) 0x30 0x30 0
    ∧ (exposing locked 0 1 3 3).expo = true ∧ asks idle 0x31 0x31 0 := by
  unfold asks Commanding Placing; decide

theorem wit_ClearEventsClearsTheNamedBits : asks idle 0xFFFF0040 0x40 0 := by
  unfold asks Commanding Placing; decide

/-- LISTENING with and without a held record; REPORTING memory 0 with memory 6 held, and memory 6 with none above. -/
theorem wit_MonitorStepsThroughTheRecords :
    asks idle 0x50 0x50 0 ∧ idle.monitor.state = .idle
    ∧ asks (watching .listening) 0x50 0x50 0 ∧ ((watching .listening).record 0).holds = true
    ∧ asks (watching (.reporting 0 Indication.clear)) 0x50 0x50 0
    ∧ ((watching (.reporting 0 Indication.clear)).record 6).holds = true
    ∧ (∀ k : Fin 8, 1 ≤ k.val → k < 6 → ((watching (.reporting 0 Indication.clear)).record k).holds = false)
    ∧ (∀ k : Fin 8, 7 ≤ k.val → ((watching (.reporting 6 Indication.clear)).record k).holds = false)
    ∧ asks idle 0x51 0x51 0 := by
  unfold asks Commanding Placing; decide

/-- A scanner state's invariant at a tick. -/
theorem scanSound_of (s : State) (h1 : settingsInRange s.scan.live) (h2 : facetsSound s.scan)
    (h3 : s.scan.homeMark = true → s.scan.facet + 1 = s.scan.live.facets)
    (h4 : ∀ t ∈ s.scan.lastSos, t ≤ s.now ∧ s.now ≤ t + 4 * s.scan.live.period)
    (h5 : s.scan.stats = PeriodStats.cleared) (h6 : s.scan.glitches ≤ 65535) (h7 : s.scan.slips ≤ 65535) : ScanSound s := by
  refine ⟨h1, h2, h3, h4, fun _ => h5, ?_, ?_, ?_, h6, h7⟩ <;> rw [h5] <;> decide

theorem wit_SosAdvancesTheScanner_off : idle.mayReach (idle.now + 1) = true ∧ idle.pins.rst = false ∧ idle.scan.state = .off := by
  decide
/-- One tick before T_nom div 2, and at it. -/
theorem wit_SosAdvancesTheScanner_glitch :
    (scanning locked).mayReach ((scanning locked).now + 49899) = true ∧ (scanning locked).scan.lastSos = some 10000
    ∧ (scanning locked).now + 49899 - 10000 < (scanning locked).scan.live.period / 2
    ∧ SosAccepted (scanning locked) 49900 := by
  unfold SosAccepted; decide
/-- SEEKING; HOME missing; φ 3 with the mark. -/
theorem wit_SosAdvancesTheScanner_accepted :
    (SosAccepted (scanning (scanner .seeking 0 0 0 false)) 100000 ∧ ScanSound (scanning (scanner .seeking 0 0 0 false)))
    ∧ (SosAccepted (scanning (scanner .locked 3 4 0 false)) 100000 ∧ ScanSound (scanning (scanner .locked 3 4 0 false))
      ∧ HomeMissing (scanning (scanner .locked 3 4 0 false)).scan)
    ∧ SosAccepted (scanning (scanner .locked 3 4 0 true)) 100000 ∧ ScanSound (scanning (scanner .locked 3 4 0 true))
      ∧ ¬ HomeMissing (scanning (scanner .locked 3 4 0 true)).scan := by
  refine ⟨⟨by unfold SosAccepted; decide, ?_⟩, ⟨by unfold SosAccepted; decide, ?_, by unfold HomeMissing; decide⟩,
    by unfold SosAccepted; decide, ?_, by unfold HomeMissing; decide⟩ <;>
  exact scanSound_of _ (by unfold settingsInRange; decide) (by simp only [facetsSound, scanning, scanner]; decide) (by decide) (by decide)
    (by decide) (by decide) (by decide)
/-- Periods at T_nom + w and one tick beyond, in COUNTING, LOCKED and UNSTEADY. -/
theorem wit_SosAdvancesTheScanner_windows :
    InWindow (scanning (scanner .counting 0 3 0 false)) ((scanning locked).now + 101900)
    ∧ OutOfWindow (scanning (scanner .counting 0 3 0 false)) ((scanning locked).now + 101901)
    ∧ InWindow (scanning (scanner .unsteady 0 4 1 false)) ((scanning locked).now + 101900)
    ∧ OutOfWindow (scanning (scanner .unsteady 0 4 1 false)) ((scanning locked).now + 101901)
    ∧ periodError (scanning { locked with lastSos := none }) 20000 = none := by
  unfold InWindow OutOfWindow; decide

theorem wit_HomeAndSilenceMoveTheScanner :
    (scanning locked).mayReach ((scanning locked).now + 1) = true ∧ (scanning locked).pins.rst = false
    ∧ (scanning (scanner .seeking 0 0 0 false)).scan.state = .seeking ∧ idle.scan.state = .off
    ∧ (scanner .locked 3 4 0 false).facet + 1 = (scanner .locked 3 4 0 false).live.facets
    ∧ locked.facet + 1 ≠ locked.live.facets ∧ (scanner .locked 3 4 0 true).homeMark = true
    ∧ (scanning locked).mayReach (10000 + 4 * (scanning locked).scan.live.period) = true := by decide
/-- Outside LEADING and IMAGING: HOME at facet 1 and a second HOME at facet 3 are slips; silence in a facet-counting state
and in SEEKING. -/
theorem wit_HomeAndSilenceMoveTheScanner_idle :
    (scanning locked).expo = false ∧ locked.state.counts = true
    ∧ runs (.home 1) (scanning locked) (fun t => t.stuck .facetSlip && t.stuck .scanUnlocked && !t.stuck .frameFault) = true
    ∧ runs (.home 1) (scanning (scanner .locked 3 4 0 true)) (fun t => t.stuck .facetSlip) = true
    ∧ runs .silenceExpiry (scanning locked) (fun t => t.stuck .scanUnlocked && !t.stuck .facetSlip) = true
    ∧ (scanner .seeking 0 0 0 false).state.counts = false
    ∧ runs .silenceExpiry (scanning (scanner .seeking 0 0 0 false)) (fun t => t.scan.lastSos == none) = true := by decide

theorem wit_SosStartsAFrameOrLeavesTheEngine :
    (SosAccepted (scanning locked) 100000 ∧ runs (.sos 100000) (scanning locked) (fun _ => true) = true
      ∧ (scanning locked).engine.state = .stopped)
    ∧ (SosAccepted (ready locked 0) 100000 ∧ EligibleHead (ready locked 0) 0
      ∧ (∃ k, ((ready locked 0).bank k).tag = some (0, 0) ∧ ((ready locked 0).bank k).state = .full)
      ∧ (ready locked 0).tableState .modulator = .valid ∧ (ready locked 0).tableState .facet = .valid
      ∧ runs (.sos 100000) (ready locked 0) (fun t => t.scan.state == .locked) = true
      ∧ (ready locked 0).pins.interlock = false ∧ (ready locked 0).pins.gate = true)
    ∧ runs (.sos 100000) (ready locked 3) (fun t => t.scan.state == .locked && t.engine.state == .leading) = true
    ∧ runs (.sos 100000) { ready locked 0 with pins := ⟨false, false, false, false⟩ } (fun t =>
        t.engine.state == .waiting) = true := by
  unfold SosAccepted EligibleHead; decide
/-- In WAITING, HOME missing: a slip, and nothing starts. -/
theorem wit_SosStartsAFrameOrLeavesTheEngine_slip :
    let s := ready (scanner .locked 3 4 0 false) 0
    SosAccepted s 100000 ∧ HomeMissing s.scan ∧ ScanSound s ∧ ¬ HomeMissing (ready locked 0).scan
    ∧ runs (.sos 100000) s (fun t => t.engine.state == .waiting && t.stuck .facetSlip) = true := by
  refine ⟨by unfold SosAccepted; decide, by unfold HomeMissing; decide, ?_, by unfold HomeMissing; decide, by decide⟩
  exact scanSound_of _ (by unfold settingsInRange; decide) (by simp only [facetsSound, ready, withFrame, scanning, scanner]; decide)
    (by decide) (by decide) (by decide) (by decide) (by decide)

/-- A lead sweep, the first sweep of a line with its bank FULL and with none, and a repeat of a line. -/
theorem wit_SosBeginsTheNextSweep :
    (SosAccepted (exposing locked 3 1 0 0) 100000 ∧ (exposing locked 3 1 0 0).expo = true
      ∧ (exposing locked 3 1 0 0).engine.slot = some 0 ∧ 0 + 1 ≠ ((exposing locked 3 1 0 0).slot 0).sweeps
      ∧ runs (.sos 100000) (exposing locked 3 1 0 0) (fun t => t.scan.state == .locked) = true)
    ∧ (SosAccepted (exposing locked 0 1 3 3) 100000 ∧ 3 + 1 ≠ ((exposing locked 0 1 3 3).slot 0).sweeps
      ∧ (∃ j, ((exposing locked 0 1 3 3).bank j).tag = some (0, 4) ∧ ((exposing locked 0 1 3 3).bank j).state = .full)
      ∧ runs (.sos 100000) (exposing locked 0 1 3 3) (fun t => t.scan.state == .locked) = true)
    ∧ (SosAccepted (exposing locked 0 1 3 1) 100000
      ∧ ¬ (∃ j, ((exposing locked 0 1 3 1).bank j).tag = some (0, 4))
      ∧ runs (.sos 100000) (exposing locked 0 1 3 1) (fun t => t.scan.state == .locked && t.stuck .lineLate) = true)
    ∧ runs (.sos 103300) (exposing locked 0 2 4 2) (fun t => t.scan.state == .unsteady && t.engine.line == some 2) = true := by
  unfold SosAccepted; decide

/-- A sweep that gave light ends while line 3, below the next line, is being fetched: the fetch is abandoned, and the
envelope starts. -/
def litSweep : State :=
  { exposing locked 0 1 3 3 with
    sc := { (scanning locked).sc with grant := some ⟨.feeder 1 0 2 0 true, ⟨10100, 1000000⟩⟩ }
    feeder := ⟨#v[⟨.sending, some (0, 3), []⟩, ⟨.filling, some (0, 3), []⟩], 4, some ⟨1, 0, 3, 0⟩⟩
    drive := ⟨some ⟨true, some 0, 0, 0, 5, true⟩, 0, 0, 0⟩ }
theorem wit_SosBeginsTheNextSweep_fetch :
    SosAccepted litSweep 100000 ∧ litSweep.expo = true ∧ litSweep.engine.slot = some 0
    ∧ (∃ f ∈ litSweep.feeder.fetch, ∃ y ∈ (litSweep.bank f.bank).tag, y.2 < 4)
    ∧ runs (.sos 100000) litSweep (fun t => t.feeder.fetch == none
        && t.sc.grant == some ⟨.feeder 1 0 2 0 false, ⟨10100, 1000000⟩⟩
        && t.events.activity == activityAfter litSweep t.now) = true := by
  unfold SosAccepted; decide
/-- R180: the envelope started, started again with its blink phase kept, and left alone by a dark sweep. -/
theorem test_activity : activityAfter litSweep 7 = some ⟨⟨7, 12000000⟩, ⟨7, 10000000⟩, true⟩
    ∧ activityAfter { litSweep with events := pulsing.events } 7 = some ⟨⟨7, 12000000⟩, ⟨0, 100⟩, true⟩
    ∧ activityAfter (exposing locked 0 1 3 3) 7 = none
    ∧ runs (.gateFall 1) litSweep (fun t => t.events.activity == activityAfter litSweep 10101) = true
    ∧ runs (.rstAssert 1) litSweep (fun t => t.events.activity == activityAfter litSweep 10101) = true := by decide

theorem wit_SosEndsTheFrame :
    SosAccepted (exposing locked 0 1 15 15) 100000 ∧ (exposing locked 0 1 15 15).expo = true
    ∧ (exposing locked 0 1 15 15).engine.slot = some 0 ∧ 15 + 1 = 0 + 16 * 1
    ∧ runs (.sos 100000) (exposing locked 0 1 15 15) (fun t => t.scan.state == .locked) = true := by
  unfold SosAccepted; decide

theorem wit_AbortTriggersFaultTheFrame :
    ((exposing locked 0 1 3 3).expo = true ∧ (exposing locked 0 1 3 3).engine.slot = some 0
      ∧ (exposing locked 0 1 3 3).mayReach ((exposing locked 0 1 3 3).now + 1) = true)
    ∧ (exposing locked 0 1 3 3).mayReach (10000 + 4 * (exposing locked 0 1 3 3).scan.live.period) = true
    ∧ (SosAccepted (exposing (scanner .locked 3 4 0 false) 0 1 3 3) 100000
      ∧ HomeMissing (exposing (scanner .locked 3 4 0 false) 0 1 3 3).scan)
    ∧ (SosAccepted (exposing (scanner .unsteady 1 4 1 false) 0 1 3 3) 101901
      ∧ OutOfWindow (exposing (scanner .unsteady 1 4 1 false) 0 1 3 3)
        ((exposing (scanner .unsteady 1 4 1 false) 0 1 3 3).now + 101901)) := by
  unfold SosAccepted HomeMissing OutOfWindow; decide
theorem wit_AbortTriggersFaultTheFrame_sound : ScanSound (exposing (scanner .unsteady 1 4 1 false) 0 1 3 3)
    ∧ ScanSound (exposing (scanner .locked 3 4 0 false) 0 1 3 3) := by
  constructor <;>
  exact scanSound_of _ (by unfold settingsInRange; decide) (by simp only [facetsSound, exposing, withFrame, scanning, scanner]; decide) (by decide)
    (by decide) (by decide) (by decide) (by decide)

/-- Both banks FREE: the eligible head in WAITING at line 0; the current slot in LEADING and, at the horizon, in IMAGING. -/
def prefetching (st : EngineState) (line : Option Nat) (target : Nat) : State :=
  { exposing locked 3 1 0 0 with
    slots := ⟨idle.slots.table.set 0 { frame (if st = .waiting then .ready else .exposing) with sealed := true }, [0], 1, 0⟩
    engine := { (exposing locked 3 1 0 0).engine with state := st, line := line }
    feeder := ⟨Vector.replicate 2 ⟨.free, none, []⟩, target, none⟩ }

theorem wit_FetchBeginsWhenItsConditionsHold :
    (prefetching .waiting none 0).mayReach (prefetching .waiting none 0).now = true
    ∧ (prefetching .waiting none 0).fetchReady = some (0, 0)
    ∧ (prefetching .leading none 0).mayReach (prefetching .leading none 0).now = true
    ∧ (prefetching .leading none 0).fetchReady = some (0, 0)
    ∧ (prefetching .imaging (some 3) 4).mayReach (prefetching .imaging (some 3) 4).now = true
    ∧ (prefetching .imaging (some 3) 4).fetchReady = some (0, 0) ∧ (prefetching .imaging (some 3) 5).fetchReady = none
    ∧ EligibleHead (prefetching .waiting none 0) 0 := by
  unfold EligibleHead; decide
/-- The conditions hold of slot 0 and bank 0; of no slot and bank beyond the horizon, and of none with the line not yet
covered. -/
theorem wit_FetchBeginsWhenItsConditionsHold_conditions :
    FetchConditions (prefetching .waiting none 0) 0 0 ∧ FetchConditions (prefetching .leading none 0) 0 0
    ∧ FetchConditions (prefetching .imaging (some 3) 4) 0 0
    ∧ (∀ n b, ¬ FetchConditions (prefetching .imaging (some 3) 5) n b)
    ∧ ∀ n b, ¬ FetchConditions { prefetching .leading none 0 with slots := (exposing locked 3 1 0 0).slots } n b := by
  refine ⟨?_, ?_, ?_, ?_, ?_⟩
  · unfold FetchConditions EligibleHead; exact ⟨by decide, by decide, by decide, by decide, by decide, by decide⟩
  · unfold FetchConditions EligibleHead; exact ⟨by decide, by decide, by decide, by decide, by decide, by decide⟩
  · unfold FetchConditions EligibleHead; exact ⟨by decide, by decide, by decide, by decide, by decide, by decide⟩
  · rintro n b ⟨⟨e, -⟩ | ⟨e, -⟩ | ⟨-, -, e⟩, -⟩ <;> exact absurd e (by decide)
  · rintro n b ⟨⟨e, -⟩ | ⟨-, e, -⟩ | ⟨e, -⟩, -, -, -, -, g⟩
    · cases e
    · cases e; exact absurd g (by decide)
    · cases e

/-- The first and the last pixel, the clock after the last, and a read that fails; and no sweep in progress. -/
theorem wit_PixelClockGivesTheDrives :
    let s := exposing locked 0 1 3 3
    s.mayReach (s.now + 1) = true ∧ s.engine.state = .imaging ∧ s.pins.interlock = false ∧ s.engine.slot = some 0
    ∧ s.drive.sweep = some ⟨true, some 0, 0, 0, 0, false⟩ ∧ 255 < 0 + (s.slot 0).width ∧ 0 + (s.slot 0).width ≤ 256
    ∧ (s.arise []).anyFails ((s.arise []).pixelReads ⟨0, 0, 0, 0⟩) = false
    ∧ (s.arise [⟨.bank0, 0, .uncorrectable 0⟩]).anyFails
        ((s.arise [⟨.bank0, 0, .uncorrectable 0⟩]).pixelReads ⟨0, 0, 0, 0⟩) = true
    ∧ idle.drive.sweep = none ∧ idle.mayReach (idle.now + 1) = true := by decide

theorem wit_GateAndInterlockOutsideAFrame :
    let s := { idle with engine := ⟨.closing, true, none, 16, some 15, false, some ⟨0, 100⟩, none⟩ }
    s.mayReach (s.now + 100) = true ∧ s.engine.state = .closing ∧ s.engine.haltPending = true ∧ s.expo = false
    ∧ s.engine.gateTimer = some ⟨0, 100⟩ ∧ s.mayReach (Timer.ends ⟨0, 100⟩) = true
    ∧ idle.engine.state = .stopped ∧ idle.mayReach (idle.now + 1) = true := by decide

/-- A tick that can be reached, one that cannot, and a later one with LRDY due. -/
theorem wit_TimersEndOnTheirTick_reach :
    idle.mayReach 780 = true ∧ idle.mayReach 781 = false
    ∧ (opened true .linear 5 0 false false false []).mayReach 0 = true
    ∧ (opened true .linear 5 0 false false false []).mayReach 1 = false := by decide
theorem wit_TimersEndOnTheirTick :
    pulsing.mayReach (Timer.ends ⟨0, 100⟩) = true ∧ pulsing.engine.doneTimer = some ⟨0, 100⟩
    ∧ pulsing.events.stretch[Source.gateStuck.index] = some ⟨0, 100⟩ ∧ pulsing.events.sweepPulse = some ⟨0, 100⟩
    ∧ pulsing.events.framePulse = some ⟨0, 100⟩ ∧ pulsing.events.activity = some ⟨⟨0, 100⟩, ⟨0, 100⟩, true⟩ := by decide

theorem wit_CheckedReadsAreRecorded :
    idle.harmAt .modR 605 = none ∧ (idle.arise [⟨.modR, 605, .correctable⟩]).harmAt .modR 605 = some .correctable
    ∧ (idle.arise [⟨.bank1, 8191, .uncorrectable 7⟩]).harmAt .bank1 8191 = some (.uncorrectable 7)
    ∧ (watching .listening).monitor.state = .listening := by decide
/-- Damage beyond correction stays over a further flip, and replaces a correctable one (R165). -/
theorem wit_CheckedReadsAreRecorded_arise :
    (idle.arise [⟨.modR, 605, .uncorrectable 7⟩, ⟨.modR, 605, .correctable⟩]).harmAt .modR 605 = some (.uncorrectable 7)
    ∧ (idle.arise [⟨.modR, 605, .correctable⟩, ⟨.modR, 605, .uncorrectable 7⟩]).harmAt .modR 605 = some (.uncorrectable 7)
    ∧ (idle.arise [⟨.modR, 605, .correctable⟩]).anyFails [(.modR, 605)] = false := by decide
/-- R69, R163: the reads of a conversion in bypass, in their order. -/
theorem test_conversion_reads : (workedSet.conversionReads .a true 0).map (fun r => r.2) =
    [812, 813, 814] ++ [0, 1, 2].flatMap (fun k => [257 * k + workedSet.density .a true 0 (Fin.ofNat 3 k) / 16,
      257 * k + workedSet.density .a true 0 (Fin.ofNat 3 k) / 16 + 1]) := by decide

/-! The invariants hold of a state with a command waiting, and the step answers a next state. -/

/-- One command waiting. -/
def stepping : State := { idle with pending := [.gateRise 3] }

theorem wit_steps : step stepping = .next { idle with now := 3, pins := { idle.pins with gate := true } } := rfl
theorem wit_RefreshStaysOnTime : RefreshOnTime stepping := by unfold RefreshOnTime; decide
theorem wit_QueueKeepsRoom : QueueHasRoom stepping := by unfold QueueHasRoom; decide
theorem wit_QueueKeepsMatchingSlots : QueueMatchesSlots stepping := by unfold QueueMatchesSlots; decide
theorem wit_RegionsStayDisjoint : RegionsDisjoint stepping := by unfold RegionsDisjoint; decide
theorem wit_CoverageStaysSound : CoverageSound stepping := by
  refine ⟨fun n => ⟨by revert n; decide, ?_⟩, by decide, by decide, by decide, by decide, by decide⟩
  have : (stepping.cover n).runs = [] := by revert n; decide
  rw [this]; trivial
theorem wit_ScannerStaysSound : ScanSound stepping :=
  scanSound_of _ (by unfold settingsInRange; decide) ⟨rfl, rfl, rfl, rfl, rfl, rfl⟩ (by decide) (by decide) (by decide) (by decide)
    (by decide)
theorem wit_TablesStaySound : TablesSound stepping := by
  refine ⟨fun u => by cases u <;> decide, fun u => by cases u <;> decide, ?_⟩
  intro g hg; cases hg
theorem wit_TablesStaySound_step : ReloadInStep stepping ∧ ReloadInStep (holding reloading (.reload .facet 0 48 true)) := by
  refine ⟨⟨by decide, fun g hg => by cases hg⟩, by decide, ?_⟩
  intro g hg u first len he
  simp [holding] at hg
  subst hg; cases he; decide
/-- INTERLOCK open in mode LEVEL, its bit set; a step that opens it. -/
theorem wit_EventOutputsFollowTheSources : LevelsStick stepping
    ∧ LevelsStick { idle with pins := { idle.pins with interlock := true }, events := { idle.events with sticky := 0x1000 } }
    ∧ (match step { stepping with pending := [.interlockOpen 1] } with
      | .next t => t.raw .interlockOpen && t.stuck .interlockOpen | _ => false) = true := by
  refine ⟨fun i => ?_, fun i => ?_, by decide⟩ <;> cases i <;> decide
theorem wit_BanksStaySound : BanksSound stepping := by
  refine ⟨by decide, by decide, by decide, by decide, by decide, ?_⟩
  intro g hg; cases hg
theorem wit_DrivesStayBlank : DrivesBlank stepping := by unfold DrivesBlank; decide
theorem wit_MemoriesStayCanonical : MemoriesCanonical stepping :=
  ⟨by decide, fun m => by cases m <;> decide, by decide⟩

/-- A stock set in use, and a table word of it placed. -/
theorem wit_StockSetInUseIsFrozen :
    TablesSound (tableBeat .valid 1 3) ∧ 0 < (tableBeat .valid 1 3).users .a
    ∧ runs (.tableWordWrite 1) (tableBeat .valid 1 3) (fun t => t.tableState .stockA == .stale) = true := by
  refine ⟨⟨fun u => by cases u <;> decide, fun u => by cases u <;> decide, ?_⟩, by decide, by decide⟩
  intro g hg u f l he
  simp [tableBeat, placing, holding] at hg
  subst hg; cases he

/-- A picture word at the fetch line, placed. -/
theorem wit_LockedLinesKeepTheirWords :
    RegionsDisjoint (picture .exposing 15 ⟨0, []⟩ 0xF) ∧ IsPicture ((picture .exposing 15 ⟨0, []⟩ 0xF).slot 0) 4095 15 255
    ∧ (15 : Int) ≤ ((picture .exposing 15 ⟨0, []⟩ 0xF).slot 0).fetchLine
    ∧ runs (.placePictureWord 1 []) (picture .exposing 15 ⟨0, []⟩ 0xF) (fun t => t.stuck .writeLocked) = true := by
  unfold RegionsDisjoint IsPicture; decide

end Sys2Proof.Tests
end

section
/-! What a step can do to the slot records, the Exposure Queue, the coverage records and the engine's hold on a slot:
a chain of a few kinds of move. The invariants of the slot side are proved move by move. -/

namespace Sys2Proof.Safety

open Machine

/-- A record keeps its region and its stock set, and its state up to the fill of a frame: OPEN, FILLING and READY may
follow one another (R5, R6, R17). -/
structure Amends (x y : Slot) : Prop where
  base : y.base = x.base
  width : y.width = x.width
  height : y.height = x.height
  pitch : y.pitch = x.pitch
  stock : y.stock = x.stock
  state : y.state = x.state
    ∨ (x.state = .opened ∨ x.state = .filling ∨ x.state = .ready) ∧ (y.state = .filling ∨ y.state = .ready)

/-- The engine keeps its slot and EXPO, or gives its slot up outside an exposure; the gate-release timer is not started,
and is kept only in CLOSING (R105, R106, R130). -/
structure EngineGoesOn (s t : State) : Prop where
  timer : t.engine.gateTimer.isSome = true →
    s.engine.gateTimer.isSome = true ∧ (s.engine.state = .closing → t.engine.state = .closing)
  slot : t.engine.slot = s.engine.slot ∧ t.expo = s.expo
    ∨ (s.engine.slot = none ∨ s.expo = false ∨ s.engine.gateTimer.isSome = true) ∧ t.engine.slot = none ∧ t.expo = false

/-- One move of the slot side, other than an accepted DESCRIBE. The blocks it does not name may change at will. -/
inductive Move (s t : State) : Prop
  /-- The slots stay and the engine goes on. -/
  | engine (hs : t.slots = s.slots) (hf : t.fill = s.fill) (he : EngineGoesOn s t)
  /-- One described record is amended; LOST comes with an empty run list (R54). -/
  | amend (n : Fin 8) (x : Slot) (hs : t.slots = (s.setSlot n x).slots) (hf : t.fill = s.fill)
      (he : t.engine = s.engine) (hn : (s.slot n).state ≠ .vacant ∨ s.engine.slot = some n) (hx : Amends (s.slot n) x)
      (hl : x.lost = true → (s.slot n).lost = true ∨ (s.cover n).runs = [])
  /-- The runs of a slot return to the pool. -/
  | freed (n : Fin 8) (hs : t.slots = s.slots) (hf : t.fill = (s.freeRuns n).fill) (he : t.engine = s.engine)
  /-- A picture word of a queued slot is recorded in its coverage (R48). -/
  | tracked (n : Fin 8) (a : Nat) (hq : (s.slot n).state.queued = true) (ha : ((s.slot n).locate a).isSome = true)
      (hs : t.slots = s.slots) (hf : t.fill = (s.recordFill n ((s.slot n).imageIndex a)).fill)
      (he : t.engine = s.engine)
  /-- A frame not yet exposing is withdrawn (R18). -/
  | withdrawn (n : Fin 8) (hx : (s.slot n).state = .opened ∨ (s.slot n).state = .filling ∨ (s.slot n).state = .ready)
      (hs : t.slots = ((s.leaveQueue n).vacate n).slots) (hf : t.fill = ((s.leaveQueue n).vacate n).fill)
      (he : t.engine = s.engine)
  /-- A frame that is done or failed is released (R20). -/
  | released (n : Fin 8) (hx : (s.slot n).state = .exposed ∨ (s.slot n).state = .faulted)
      (hs : t.slots = (s.vacate n).slots) (hf : t.fill = (s.vacate n).fill) (he : t.engine = s.engine)
  /-- The eligible head starts its exposure (R111). -/
  | started (n : Fin 8) (hw : s.engine.state = .waiting) (hh : s.head = some n) (hn : s.slotEligible n = true)
      (hs : t.slots = (s.setSlot n { s.slot n with state := .exposing }).slots) (hf : t.fill = s.fill)
      (he : t.engine.slot = some n ∧ t.expo = true ∧ t.engine.gateTimer = s.engine.gateTimer)
  /-- The exposing slot leaves the queue, exposed or failed, and the engine gives it up (R113, R126). -/
  | departed (n : Fin 8) (hn : s.engine.slot = some n) (hq : LeftQueue s t n)
      (hx : (t.slot n).state = .exposed ∨ (t.slot n).state = .faulted)
      (hg : (t.slot n).base = (s.slot n).base ∧ (t.slot n).width = (s.slot n).width
        ∧ (t.slot n).height = (s.slot n).height ∧ (t.slot n).pitch = (s.slot n).pitch)
      (he : t.engine.slot = none ∧ t.expo = false ∧ (t.engine.gateTimer.isSome = true → t.engine.state = .closing))
  /-- A reset (R25, R63, R132). -/
  | reset (hs : t.slots = SlotTable.reset) (hf : t.fill = FillTracker.reset) (he : t.engine = Engine.reset)

/-- A chain of moves. -/
def Moves : State → State → Prop := Relation.ReflTransGen Move

theorem Moves.refl (s : State) : Moves s s := Relation.ReflTransGen.refl

theorem Moves.trans {s t u : State} (h : Moves s t) (h' : Moves t u) : Moves s u := Relation.ReflTransGen.trans h h'

theorem Move.moves {s t : State} (h : Move s t) : Moves s t := Relation.ReflTransGen.single h

/-- The engine goes on where its state, its slot and its timer are kept. -/
theorem engineGoesOn_of_eq {s t : State} (he : t.engine = s.engine) : EngineGoesOn s t where
  timer h := by rw [he] at h; exact ⟨h, fun hc => by rw [he]; exact hc⟩
  slot := .inl ⟨by rw [he], by simp [State.expo, he]⟩

/-- A state with the slots, the coverage and the engine of another. -/
theorem Moves.of_same {s t : State} (hs : t.slots = s.slots) (hf : t.fill = s.fill) (he : t.engine = s.engine) :
    Moves s t := (Move.engine hs hf (engineGoesOn_of_eq he)).moves

/-- A VACANT slot takes an accepted descriptor, by a beat of the Write Queue (R16, R39). -/
structure Described (s t : State) (n : Fin 8) (d : Descriptor) : Prop where
  queued : s.queue ≠ []
  accepted : s.describeRefusal n d = none
  slots : t.slots = (s.acceptSlot n d).slots
  fill : t.fill = (s.acceptSlot n d).fill
  engine : t.engine = s.engine

/-- What a step does to the slot side. -/
inductive SlotSide (s t : State) : Prop
  | moves (h : Moves s t)
  | described (n : Fin 8) (d : Descriptor) (h : Described s t n d)

/-- A chain of moves, followed by a change of other blocks. -/
theorem Moves.same {s t u : State} (h : Moves s t) (hs : u.slots = t.slots) (hf : u.fill = t.fill)
    (he : u.engine = t.engine) : Moves s u := h.trans (.of_same hs hf he)

theorem Amends.refl (x : Slot) : Amends x x := ⟨rfl, rfl, rfl, rfl, rfl, .inl rfl⟩

/-- A record amended in the fields that hold neither its region, its stock set, its state nor LOST. -/
theorem moves_setSlot (s : State) (n : Fin 8) (x : Slot) (hx : Amends (s.slot n) x) (hl : x.lost = (s.slot n).lost)
    (hn : (s.slot n).state ≠ .vacant ∨ s.engine.slot = some n) : Moves s (s.setSlot n x) :=
  (Move.amend n x rfl (by simp) (by simp) hn hx fun h => .inl (hl ▸ h)).moves

/-- The engine changed with its slot and EXPO kept, and its gate-release timer not started. -/
theorem moves_setEngine (s : State) (e : Engine) (hs : e.slot = s.engine.slot) (hx : (s.setEngine e).expo = s.expo)
    (ht : e.gateTimer.isSome = true →
      s.engine.gateTimer.isSome = true ∧ (s.engine.state = .closing → e.state = .closing)) : Moves s (s.setEngine e) :=
  (Move.engine (s := s) (t := s.setEngine e) rfl rfl ⟨ht, .inl ⟨hs, hx⟩⟩).moves

/-- A user count follows from the Slot Table alone. -/
theorem users_congr {s t : State} (h : t.slots = s.slots) (y : StockSet) : t.users y = s.users y := by
  cases y <;> simp only [State.users, h]

/-! ## Fill tracking (R41, R48) -/

/-- A completed record (R6, R56). -/
def completed (x : Slot) : Slot := { x with complete := true, state := if x.state = .filling then .ready else x.state }

/-- Completion amends the record of its slot and no other (R6, R56). -/
theorem completeSlot_slots (s : State) (n : Fin 8) :
    (s.completeSlot n).slots = (s.setSlot n (completed (s.slot n))).slots := by
  unfold State.completeSlot completed
  split <;> simp_all

theorem completed_amends (x : Slot) : Amends x (completed x) where
  base := rfl
  width := rfl
  height := rfl
  pitch := rfl
  stock := rfl
  state := by
    by_cases h : x.state = .filling <;> simp [completed, h]

/-- The advance of a cursor leaves the Slot Table, or completes its slot (R50, R56). -/
theorem advanceCursor_slots (s : State) (n : Fin 8) : (s.advanceCursor n).slots = s.slots
    ∨ (s.advanceCursor n).slots = (s.setSlot n (completed (s.slot n))).slots := by
  simp only [State.advanceCursor]
  split
  · exact .inr (completeSlot_slots _ n)
  · exact .inl rfl

/-- What the Fill Tracker leaves: the coverage it takes, and one slot record at most, amended. -/
theorem moves_recordFill (s : State) (n : Fin 8) (a : Nat) (hq : (s.slot n).state.queued = true)
    (ha : ((s.slot n).locate a).isSome = true) : Moves s (s.recordFill n ((s.slot n).imageIndex a)) := by
  have hv : (s.slot n).state ≠ .vacant := fun h => by simp [h, SlotState.queued] at hq
  generalize hi : (s.slot n).imageIndex a = i
  let u := s.setFill (s.recordFill n i).fill
  have hfill : Move s u := .tracked n a hq ha rfl (by rw [hi]; rfl) rfl
  refine hfill.moves.trans ?_
  have hslot (x : Slot) (hs : (s.recordFill n i).slots = (s.setSlot n x).slots) (hx : Amends (s.slot n) x)
      (hl : x.lost = true → (s.slot n).lost = true ∨ ((s.recordFill n i).cover n).runs = []) :
      Moves u (s.recordFill n i) :=
    (Move.amend (s := u) n x hs rfl (by simp [u]) (.inl hv) hx hl).moves
  have hsame (hs : (s.recordFill n i).slots = s.slots) : Moves u (s.recordFill n i) := .of_same hs rfl (by simp [u])
  cases hc : fillCase (s.cover n) (s.slot n).lost s.fill.free i with
  | rewrite =>
    refine hslot { s.slot n with rewrites := satIncr (s.slot n).rewrites } (by simp [State.recordFill, hc]) ?_ .inl
    exact { Amends.refl (s.slot n) with }
  | advance =>
    have he : s.recordFill n i = s.advanceCursor n := by simp [State.recordFill, hc]
    obtain h | h := advanceCursor_slots s n
    · exact hsame (he ▸ h)
    · exact hslot _ (he ▸ h) (completed_amends _) .inl
  | lost =>
    have he : s.recordFill n i = ((s.freeRuns n).setSlot n { s.slot n with lost := true }).raise .coverageLost := by
      simp [State.recordFill, hc]
    refine hslot { s.slot n with lost := true } (by simp [he, State.setSlot]) { Amends.refl (s.slot n) with } fun _ => .inr ?_
    simp [he, State.cover_freeRuns]
  | untracked | merge | extend | newRun => exact hsame (by simp [State.recordFill, hc, State.setCover])

/-- An OPEN slot becomes FILLING (R5). -/
theorem moves_startFilling (s : State) (n : Fin 8) : Moves s (s.startFilling n) := by
  unfold State.startFilling
  split
  · rename_i h
    exact moves_setSlot s n _ { Amends.refl (s.slot n) with state := .inr ⟨.inl h, .inl rfl⟩ } rfl (.inl (by simp [h]))
  · exact .refl s

/-- A slot marked SUSPECT (R81). -/
theorem moves_markSuspect (s : State) (n : Fin 8) (failed : Bool) (hv : (s.slot n).state ≠ .vacant) :
    Moves s (s.markSuspect n failed) := by
  unfold State.markSuspect
  split
  · exact moves_setSlot s n _ { Amends.refl (s.slot n) with } rfl (.inl hv)
  · exact .refl s

/-- The reads of the conversion of a beat for slot `n` (R69). -/
def beatReads (s : State) (n : Fin 8) (b : Beat) : List (Mem × Nat) :=
  s.conversionReads (s.slot n).stock (s.slot n).bypass b.data

/-- A conversion before its index is recorded (R41 step 3). -/
def converting (s : State) (n : Fin 8) (b : Beat) : State :=
  (((s.checkReads (beatReads s n b)).markSuspect n (s.anyFails (beatReads s n b))).startFilling n).storeWord b.addr
    (s.convert (s.slot n).stock (s.slot n).bypass b.data) 0xF#4

theorem convertBeat_eq (s : State) (n : Fin 8) (b : Beat) :
    s.convertBeat n b = (converting s n b).recordFill n ((s.slot n).imageIndex b.addr) := rfl

/-- A record replaced by itself. -/
theorem setSlot_self (s : State) (n : Fin 8) : s.setSlot n (s.slot n) = s := by
  simp [State.setSlot, State.slot, State.setSlots]

/-- Marking a slot SUSPECT (R81). -/
theorem markSuspect_slots (s : State) (n : Fin 8) (failed : Bool) : (s.markSuspect n failed).slots
    = (s.setSlot n { s.slot n with suspect := (s.slot n).suspect || failed }).slots := by
  cases failed
  · simpa [State.markSuspect] using congrArg State.slots (setSlot_self s n).symm
  · simp [State.markSuspect]

/-- Leaving OPEN (R5). -/
theorem startFilling_slots (s : State) (n : Fin 8) : (s.startFilling n).slots
    = (s.setSlot n { s.slot n with
        state := if (s.slot n).state = .opened then .filling else (s.slot n).state }).slots := by
  unfold State.startFilling
  split
  · simp [*]
  · simpa [*] using congrArg State.slots (setSlot_self s n).symm

/-- Where a word lies in a region depends on the region, and on whether the slot is VACANT (R2). -/
theorem locate_congr {x y : Slot} (hv : y.state = .vacant ↔ x.state = .vacant) (hb : y.base = x.base)
    (hw : y.width = x.width) (hh : y.height = x.height) (hp : y.pitch = x.pitch) (a : Nat) :
    y.locate a = x.locate a := by
  simp only [Slot.locate, Slot.last, ne_eq, hv, hb, hw, hh, hp]
  congr

/-- The record of the slot of a conversion, before its index is recorded (R5, R81). -/
theorem converting_slot (s : State) (n : Fin 8) (b : Beat) : (converting s n b).slot n = { s.slot n with
    state := if (s.slot n).state = .opened then .filling else (s.slot n).state
    suspect := (s.slot n).suspect || s.anyFails (beatReads s n b) } := by
  have hc : (s.checkReads (beatReads s n b)).slot n = s.slot n := slot_congr (by simp) n
  have hm := slot_congr (markSuspect_slots (s.checkReads (beatReads s n b)) n (s.anyFails (beatReads s n b))) n
  rw [State.slot_setSlot_same, hc] at hm
  rw [converting, State.slot_of_storeWord, slot_congr (startFilling_slots _ n), State.slot_setSlot_same, hm]

/-- A conversion leaves its slot queued, with the region it had (R5). -/
theorem converting_locate (s : State) (n : Fin 8) (b : Beat) (a : Nat) :
    ((converting s n b).slot n).locate a = (s.slot n).locate a := by
  rw [converting_slot]
  apply locate_congr <;> simp
  split <;> simp_all

theorem converting_imageIndex (s : State) (n : Fin 8) (b : Beat) (a : Nat) :
    ((converting s n b).slot n).imageIndex a = (s.slot n).imageIndex a := by
  unfold Slot.imageIndex
  rw [converting_locate, converting_slot]

theorem converting_queued (s : State) (n : Fin 8) (b : Beat) :
    ((converting s n b).slot n).state.queued = (s.slot n).state.queued := by
  rw [converting_slot]
  dsimp only
  split <;> simp_all [SlotState.queued]

/-- A picture word of a queued slot converted and recorded (R41). -/
theorem moves_convertBeat (s : State) (n : Fin 8) (b : Beat) (hq : (s.slot n).state.queued = true)
    (ha : ((s.slot n).locate b.addr).isSome = true) : Moves s (s.convertBeat n b) := by
  have hv : (s.slot n).state ≠ .vacant := fun h => by simp [h, SlotState.queued] at hq
  have hcheck : Moves s (s.checkReads (beatReads s n b)) := .of_same (by simp) (by simp) (by simp)
  have hsuspect := moves_markSuspect (s.checkReads (beatReads s n b)) n (s.anyFails (beatReads s n b))
    (by rwa [slot_congr (s := s) (by simp)])
  have hstored : Moves s (converting s n b) :=
    ((hcheck.trans hsuspect).trans (moves_startFilling _ n)).same (by simp [converting]) (by simp [converting])
      (by simp [converting])
  rw [convertBeat_eq, ← converting_imageIndex s n b b.addr]
  exact hstored.trans (moves_recordFill _ n b.addr (by rw [converting_queued, hq]) (by rw [converting_locate, ha]))

/-- A picture word placed (R41, R42). -/
theorem moves_pictureBeat (s : State) (n : Fin 8) (b : Beat) (ha : ((s.slot n).locate b.addr).isSome = true) :
    Moves s (s.pictureBeat n b) := by
  simp only [State.pictureBeat]
  split
  · exact .of_same (by simp) (by simp) (by simp)
  · rename_i hq
    split
    · exact .of_same (by simp [State.dropPartial]) (by simp [State.dropPartial]) (by simp [State.dropPartial])
    · exact moves_convertBeat s n b (by simp_all) ha

end Sys2Proof.Safety
end

section
/-! Every operation of the model is a chain of moves of the slot side, and so is every step. -/

namespace Sys2Proof.Safety

open Machine

/-! ## The engine's moves (R106, R111 to R113, R126) -/

/-- A fetch line returned to −1 (R106). -/
theorem moves_unlockSlot (s : State) (n : Fin 8) (hn : (s.slot n).state ≠ .vacant ∨ s.engine.slot = some n) :
    Moves s (s.unlockSlot n) :=
  moves_setSlot s n _ { Amends.refl (s.slot n) with } rfl hn

theorem moves_unlockPrefetch (s : State) (b : Fin 2) : Moves s (s.unlockPrefetch b) := by
  unfold State.unlockPrefetch
  split
  · split
    · exact .refl s
    · exact moves_unlockSlot s _ (.inl ‹_›)
  · exact .refl s

theorem moves_unlockOnStop (s : State) : Moves s s.unlockOnStop := by
  unfold State.unlockOnStop
  split
  · split
    · exact moves_unlockSlot s _ (.inr ‹_›)
    · exact .refl s
  · split
    · exact moves_unlockSlot s _ (.inr ‹_›)
    · exact .refl s
  · exact (moves_unlockPrefetch s 0).trans (moves_unlockPrefetch _ 1)
  · exact .refl s

/-- Entry to STOPPED outside an exposure (R106). -/
theorem moves_enterStopped (s : State)
    (h : s.engine.slot = none ∨ s.expo = false ∨ s.engine.gateTimer.isSome = true) : Moves s s.enterStopped := by
  refine (moves_unlockOnStop s).trans (Move.engine (enterStopped_slots s) (by simp) ⟨?_, .inr ⟨?_, ?_, ?_⟩⟩).moves
  · simp
  · simpa using h
  · simp
  · simp [State.expo]

/-- An abort trigger, in or outside an exposure (R126, R127). -/
theorem moves_abortFrame (s : State) (c : FaultCause) : Moves s (s.abortFrame c) := by
  by_cases he : s.expo = true
  · cases hs : s.engine.slot with
    | some n =>
      obtain ⟨⟨hslot, hleft, -, heng, -, hexpo, -⟩, -⟩ := abortFrame_spec (c := c) he hs
      refine (Move.departed n hs hleft (.inr (by rw [hslot])) (by simp [hslot]) ⟨by rw [heng], hexpo, ?_⟩).moves
      rw [heng]; simp
    | none =>
      have hraise : Moves s (s.reportSweep.raise .frameFault) := .of_same (by simp) (by simp) (by simp)
      simp only [State.abortFrame, he, if_true, State.reportSweep_frame, hs]
      exact hraise.trans (moves_enterStopped _ (.inl (by simp [hs])))
  · simp only [State.abortFrame, he, Bool.false_eq_true, if_false]
    exact .refl s

/-- The line marked spoiled (R125). -/
theorem moves_markSpoiled (s : State) : Moves s s.markSpoiled := by
  have hmark := moves_setEngine s { s.engine with spoiled := true } rfl rfl fun h => ⟨h, id⟩
  simp only [State.markSpoiled]
  split
  · exact .refl s
  · split
    · exact hmark.trans (moves_setSlot _ _ _ { Amends.refl (s.slot _) with } rfl (.inr ‹_›))
    · exact hmark

theorem moves_chooseBank (s : State) (n : Fin 8) (l : Nat) : Moves s (s.chooseBank n l) := by
  have hbelow : Moves s ((s.releaseBelow l 0).releaseBelow l 1) := .of_same (by simp) (by simp) (by simp)
  simp only [State.chooseBank]
  split
  · exact hbelow.same (by simp) (by simp) (by simp)
  · refine Moves.same (t := (((s.releaseBelow l 0).releaseBelow l 1).raise .lineLate).markSpoiled) ?_
      (by simp) (by simp) (by simp)
    exact (hbelow.same (by simp) (by simp) (by simp)).trans (moves_markSpoiled _)

/-- An image sweep (R112, R119). -/
theorem moves_imageSweep (s : State) (n : Fin 8) (l : Nat) (first out : Bool) (he : s.expo = true) :
    Moves s (s.imageSweep n l first out) := by
  have himage (line : Option Nat) (spoiled : Bool) :
      Moves s (s.setEngine { s.engine with state := .imaging, line := line, spoiled := spoiled }) := by
    refine moves_setEngine s _ rfl (by rw [he]; rfl) fun h => ⟨h, fun hc => ?_⟩
    simp [State.expo, hc] at he
  have hchosen := (himage (if first then some l else s.engine.line) (if first then false else s.engine.spoiled)).trans
    (moves_chooseBank _ n l)
  simp only [State.imageSweep]
  have htarget (u : State) : Moves u (if first then u.setFeeder { u.feeder with target := max u.feeder.target l } else u) := by
    split
    · exact .of_same rfl rfl rfl
    · exact .refl u
  split
  · exact (hchosen.trans (htarget _)).trans (moves_markSpoiled _)
  · exact hchosen.trans (htarget _)

theorem moves_indicateSweep (s : State) : Moves s s.indicateSweep := .of_same (by simp) (by simp) (by simp)

/-- A sweep begins (R111, R112). -/
theorem moves_beginSweep (s : State) (n : Fin 8) (out : Bool) (he : s.expo = true) : Moves s (s.beginSweep n out) := by
  simp only [State.beginSweep]
  split
  · exact (Moves.of_same (by simp) (by simp) (by simp)).trans (moves_indicateSweep _)
  · exact (moves_imageSweep s n _ _ out he).trans (moves_indicateSweep _)

/-- With no start condition failing, the head is eligible (R110). -/
theorem eligible_of_firstBlock {s : State} {n : Fin 8} (hb : s.firstBlock = .none) (hh : s.head = some n) :
    s.slotEligible n = true := by
  unfold State.firstBlock State.eligibleHead at hb
  rw [hh] at hb
  by_contra hn
  simp [Option.filter, hn] at hb

/-- Frame start (R111). -/
theorem moves_startFrame (s : State) (n : Fin 8) (out : Bool) (hw : s.engine.state = .waiting) (hh : s.head = some n)
    (hn : s.slotEligible n = true) : Moves s (s.startFrame n out) := by
  simp only [State.startFrame]
  refine (Move.started n hw hh hn ?_ ?_ ?_).moves.trans (moves_beginSweep _ n out ?_) <;> simp [State.expo]

/-- Frame end: the slot leaves the queue, EXPOSED, and nothing else changes in the slots and their coverage (R8, R113). -/
theorem endFrame_slots (s : State) (n : Fin 8) :
    LeftQueue s (s.endFrame n) n ∧ (s.endFrame n).slot n = { s.slot n with state := .exposed } := by
  have hslots : (s.endFrame n).slots = ((s.leaveQueue n).setSlot n { s.slot n with state := .exposed }).slots := by
    simp [State.endFrame, (s.leaveQueue_slots n).1]
  have hfill : (s.endFrame n).fill = (s.leaveQueue n).fill := by simp [State.endFrame]
  obtain ⟨hslot, hqueue, husers, hcover, hfree⟩ := s.leaveQueue_slots n
  refine ⟨⟨by rw [hslots, State.setSlot_queue, hqueue], fun y => ?_, ?_, by rw [hfill, hfree], fun m hm => ⟨?_, ?_⟩⟩, ?_⟩
  · rw [users_congr hslots, State.users_setSlot, husers]
  · rw [cover_congr hfill, hcover, if_pos rfl]
  · rw [slot_congr hslots, State.slot_setSlot, if_neg hm, hslot]
  · rw [cover_congr hfill, hcover, if_neg hm]
  · rw [slot_congr hslots, State.slot_setSlot_same]

/-- The engine after the frame end (R113, R129, R130). -/
theorem endFrame_engine (s : State) (n : Fin 8) : (s.endFrame n).engine = { s.engine with
    state := .closing
    slot := none
    gateTimer := some ⟨s.now, s.scan.live.gateWait * 100000⟩
    doneTimer := some ⟨s.now, 1000⟩ } := by
  simp [State.endFrame, Config.msTicks, Config.pulseTicks]

theorem moves_endFrame (s : State) (n : Fin 8) (hs : s.engine.slot = some n) : Moves s (s.endFrame n) := by
  obtain ⟨hleft, hslot⟩ := endFrame_slots s n
  refine (Move.departed n hs hleft (.inl (by rw [hslot])) (by simp [hslot]) ⟨?_, ?_, ?_⟩).moves
  · rw [endFrame_engine]
  · simp [State.expo, endFrame_engine]
  · rw [endFrame_engine]; simp

theorem moves_countExposed (s : State) (n : Fin 8) (hs : s.engine.slot = some n) : Moves s (s.countExposed n) := by
  simp only [State.countExposed]
  split
  · exact moves_setSlot s n _ { Amends.refl (s.slot n) with } rfl (.inr hs)
  · exact .refl s

/-- The next sweep, or the frame end (R112, R113). -/
theorem moves_nextSweep (s : State) (n : Fin 8) (out : Bool) (he : s.expo = true) (hs : s.engine.slot = some n) :
    Moves s (s.nextSweep n out) := by
  have hreport : Moves s s.reportSweep := .of_same (by simp) (by simp) (by simp)
  have hcount := hreport.trans (moves_countExposed s.reportSweep n (by simpa using hs))
  simp only [State.nextSweep]
  set u := s.reportSweep.countExposed n with hu
  have heng : u.engine = s.engine := by simp [hu]
  have hnext : Moves s (u.setEngine { u.engine with sweep := u.engine.sweep + 1 }) :=
    hcount.trans (moves_setEngine u _ rfl rfl fun h => ⟨h, id⟩)
  split
  · exact hnext.trans (moves_endFrame _ n (by simp [heng, hs]))
  · exact hnext.trans (moves_beginSweep _ n out (by simpa [State.expo, heng] using he))

/-- An accepted SOS at the engine (R100, R110, R112). -/
theorem moves_takePulse (s : State) (out : Bool) : Moves s (s.takePulse out) := by
  unfold State.takePulse
  split
  · split
    · exact moves_startFrame s _ out ‹_› ‹_› (eligible_of_firstBlock ‹_› ‹_›)
    · exact .refl s
  · split
    · exact moves_nextSweep s _ out (by simp [State.expo, *]) ‹_›
    · exact .refl s
  · split
    · exact moves_nextSweep s _ out (by simp [State.expo, *]) ‹_›
    · exact .refl s
  · exact .refl s

/-! ## The scanner's moves -/

theorem moves_slip (s : State) : Moves s s.slip := by
  simp only [State.slip]
  exact (Moves.of_same (by simp) (by simp) (by simp)).trans (moves_abortFrame _ _)

theorem moves_loseLock (s : State) : Moves s s.loseLock := by
  unfold State.loseLock
  exact (Moves.of_same (by simp) (by simp) (by simp)).trans (moves_abortFrame _ _)

theorem moves_applyJudgement (s : State) (j : Judgement) : Moves s (s.applyJudgement j) := by
  simp only [State.applyJudgement]
  repeat' split
  all_goals first | exact moves_loseLock s | exact .of_same (by simp) (by simp) (by simp)

theorem moves_acceptSos (s : State) : Moves s s.acceptSos := by
  have hmeasure : Moves s s.measure := .of_same (by simp) (by simp) (by simp)
  refine hmeasure.trans ?_
  simp only [State.acceptSos, State.countFacet]
  split
  · split
    · exact (moves_slip _).trans (moves_takePulse _ _)
    · refine (Moves.trans ?_ (moves_applyJudgement _ _)).trans (moves_takePulse _ _)
      exact .of_same (by simp) (by simp) (by simp)
  · exact moves_takePulse _ _

theorem moves_takeHome (s : State) : Moves s s.takeHome := by
  unfold State.takeHome
  repeat' split
  all_goals first | exact moves_slip s | exact .of_same (by simp [State.primeFacets]) (by simp [State.primeFacets]) (by simp [State.primeFacets])

theorem moves_fallSilent (s : State) : Moves s s.fallSilent := by
  simp only [State.fallSilent]
  split
  · exact (Moves.of_same (by simp) (by simp) (by simp)).trans (moves_abortFrame _ _)
  · exact .of_same rfl rfl rfl

/-! ## The moves of the commands (R147) -/

theorem describeSlot_or (s : State) (n : Fin 8) : (s.describeSlot n).1 = s
    ∨ ∃ d, s.describeRefusal n d = none ∧ (s.describeSlot n).1 = s.acceptSlot n d := by
  simp only [State.describeSlot]
  split
  · exact .inl rfl
  · exact .inr ⟨_, ‹_›, rfl⟩

/-- The checks of DESCRIBE depend on the slots, the store's size and the table states (R11, R14, R15). -/
theorem describeRefusal_congr {s t : State} (hs : t.slots = s.slots) (hz : t.sc.size = s.sc.size)
    (hc : t.control = s.control) (n : Fin 8) (d : Descriptor) : t.describeRefusal n d = s.describeRefusal n d := by
  have htable (u : TableUnit) : t.tableState u = s.tableState u := by simp [State.tableState, hc]
  simp only [State.describeRefusal, State.overlapsOther, slot_congr hs, htable, State.controlBase, State.storeWords, hz]
  congr

theorem moves_sealFrame (s : State) (n : Fin 8) : Moves s (s.sealFrame n).1 := by
  have hfreed : Move s (s.freeRuns n) := .freed n (by simp) rfl (by simp)
  have hseal (h : (s.slot n).state = .opened ∨ (s.slot n).state = .filling) :
      Moves s ((s.freeRuns n).setSlot n { s.slot n with state := .ready, sealed := true }) := by
    refine hfreed.moves.trans (moves_setSlot _ n _ ?_ rfl (.inl ?_))
    · exact { Amends.refl (s.slot n) with state := .inr ⟨by tauto, .inr rfl⟩ }
    · rw [State.slot_freeRuns]; obtain h | h := h <;> simp [h]
  unfold State.sealFrame
  split
  · exact (hseal (.inl ‹_›)).same (by simp) (by simp) (by simp)
  · exact (hseal (.inr ‹_›)).same (by simp) (by simp) (by simp)
  · exact .refl s

/-- A discarded prefetch (R118). -/
theorem moves_discardPrefetch (s : State) (n : Fin 8) (hv : (s.slot n).state ≠ .vacant) :
    Moves s (s.discardPrefetch n) := by
  unfold State.discardPrefetch
  split
  · exact (moves_unlockSlot s n (.inl hv)).same (by simp) (by simp) (by simp)
  · exact .refl s

/-- The record of a slot after its prefetch was discarded (R118). -/
theorem discardPrefetch_state (s : State) (n m : Fin 8) : ((s.discardPrefetch n).slot m).state = (s.slot m).state := by
  unfold State.discardPrefetch
  split
  · simp only [State.slot_of_clearFeeder, State.unlockSlot, State.slot_setSlot]
    split <;> simp_all
  · rfl

theorem moves_withdrawSlot (s : State) (n : Fin 8) : Moves s (s.withdrawSlot n).1 := by
  have hgone (h : (s.slot n).state = .opened ∨ (s.slot n).state = .filling ∨ (s.slot n).state = .ready) :
      Moves s (((s.discardPrefetch n).leaveQueue n).vacate n) := by
    refine (moves_discardPrefetch s n ?_).trans (Move.withdrawn n ?_ rfl rfl (by simp)).moves
    · obtain h | h | h := h <;> simp [h]
    · rwa [discardPrefetch_state]
  unfold State.withdrawSlot
  split
  · exact hgone (.inl ‹_›)
  · exact hgone (.inr (.inl ‹_›))
  · exact hgone (.inr (.inr ‹_›))
  · exact moves_abortFrame s _
  · exact .refl s

theorem moves_releaseSlot (s : State) (n : Fin 8) : Moves s (s.releaseSlot n).1 := by
  unfold State.releaseSlot
  split
  · exact (Move.released n (.inl ‹_›) rfl rfl (by simp)).moves
  · exact (Move.released n (.inr ‹_›) rfl rfl (by simp)).moves
  · exact .refl s

theorem moves_slotCommand {effect : State → Fin 8 → State × CmdOutcome} (h : ∀ s n, Moves s (effect s n).1) (s : State)
    (w : Word) : Moves s (slotCommand effect s w).1 := by
  unfold slotCommand
  split
  · exact .refl s
  · exact h s _

theorem moves_reloadTable (s : State) (w : Word) : Moves s (s.reloadTable w).1 := by
  unfold State.reloadTable
  repeat' split
  all_goals exact .of_same (by simp [State.startReload]) (by simp [State.startReload]) (by simp [State.startReload])

theorem moves_setHalt (s : State) (b : Bool) : Moves s (s.setHalt b) :=
  moves_setEngine s _ rfl rfl fun h => ⟨h, id⟩

/-- Entry to WAITING, outside an exposure (R106). -/
theorem moves_enterWaiting (s : State) (h : s.expo = false) : Moves s s.enterWaiting :=
  moves_setEngine s _ rfl (by rw [h]; rfl) (by simp)

theorem moves_runEngine (s : State) : Moves s s.runEngine := by
  unfold State.runEngine
  split
  · exact moves_enterWaiting s (by simp [State.expo, *])
  · exact moves_setHalt s false

theorem moves_haltEngine (s : State) : Moves s s.haltEngine := by
  unfold State.haltEngine
  split
  · exact moves_enterStopped s (.inr (.inl (by simp [State.expo, *])))
  · exact moves_setHalt s true
  · exact moves_setHalt s true
  · exact moves_setHalt s true
  · exact .refl s

theorem moves_abortEngine (s : State) : Moves s s.abortEngine := by
  unfold State.abortEngine
  split
  · exact moves_abortFrame s _
  · exact moves_abortFrame s _
  · exact moves_enterStopped s (.inr (.inl (by simp [State.expo, *])))
  · exact moves_enterStopped s (.inr (.inl (by simp [State.expo, *])))
  · exact .refl s

theorem moves_gateFalls (s : State) : Moves s s.gateFalls := by
  unfold State.gateFalls
  split
  · exact moves_abortFrame s _
  · exact moves_abortFrame s _
  · split
    · exact moves_enterStopped s (.inr (.inl (by simp [State.expo, *])))
    · exact moves_enterWaiting s (by simp [State.expo, *])
  · exact .refl s
  · exact .refl s

/-! ## The moves of a step -/

theorem moves_setNow (s : State) (u : Tick) : Moves s (s.setNow u) := .of_same rfl rfl rfl

theorem moves_recordCommand (s : State) (x y : Byte) (o : CmdOutcome) : Moves s (s.recordCommand x y o) :=
  .of_same (by simp) (by simp) (by simp)

theorem moves_after {s t : State} {dt : Nat} {body : State → Result} (h : s.after dt body = .next t)
    (hb : ∀ u, body u = .next t → Moves u t) : Moves s t :=
  (moves_setNow s _).trans (hb _ (State.after_next h).2)

theorem moves_atEnd {s t : State} {x : Option Timer} {body : State → Result} (h : s.atEnd x body = .next t)
    (hb : ∀ u, body u = .next t → Moves u t) : Moves s t := by
  obtain ⟨y, -, -, hy⟩ := State.atEnd_next h
  exact (moves_setNow s _).trans (hb _ hy)

theorem moves_place {s t : State} {dt : Nat} {body : State → Beat → BeatKind → Option State}
    (h : s.place dt body = .next t) (hb : ∀ u b, body u b (u.classify b) = some t → Moves u t) : Moves s t := by
  obtain ⟨-, b, n, hold, rest, -, -, -, ht⟩ := State.place_next h
  have htaken : Moves s (s.setNow (s.now + dt)).dropBeat := .of_same (by simp) (by simp) (by simp)
  exact htaken.trans (hb _ b ht)

theorem moves_storeBeat (s : State) (b : Beat) : Moves s (s.storeBeat b) := .of_same (by simp) (by simp) (by simp)

theorem moves_runCommand {s t : State} {dt : Nat} {c : Cmd} {effect : State → Word → State × CmdOutcome}
    (h : s.runCommand dt c effect = .next t) (he : ∀ u w, Moves u (effect u w).1) : Moves s t := by
  refine moves_place h fun u b hu => ?_
  split at hu
  · split at hu
    · cases hu
      exact ((moves_storeBeat u b).trans (he _ _)).trans (moves_recordCommand _ _ _ _)
    · cases hu
  · cases hu

/-- No beat of the control region is a picture word (R39). -/
theorem controlKind_ne_picture (o : Nat) (b : Beat) (n : Fin 8) : controlKind o b ≠ .picture n := by
  unfold controlKind commandKind
  repeat' split
  all_goals nofun

/-- A beat classified as a picture word lies in the region of its slot (R39). -/
theorem located_of_classify {s : State} {b : Beat} {n : Fin 8} (h : s.classify b = .picture n) :
    ((s.slot n).locate b.addr).isSome = true := by
  unfold State.classify at h
  split at h
  · cases h
  · split at h
    · exact absurd h (controlKind_ne_picture _ _ _)
    · split at h
      · rename_i m hm
        cases h
        exact List.find?_some (p := fun n => ((s.slot n).locate b.addr).isSome) hm
      · cases h

theorem moves_placePictureWord {s t : State} {dt : Nat} {arisen : List Damage}
    (h : execPlacePictureWord dt arisen s = .next t) : Moves s t := by
  refine moves_place h fun u b hu => ?_
  split at hu
  · rename_i n hk
    cases hu
    have harise : Moves u (u.arise arisen) := .of_same (by simp) (by simp) (by simp)
    exact harise.trans (moves_pictureBeat _ n b (by simpa using located_of_classify hk))
  · cases hu

theorem moves_tableWord (s : State) (u : TableUnit) (o : Nat) (b : Beat) : Moves s (s.tableWord u o b) := by
  simp only [State.tableWord]
  repeat' split
  all_goals exact .of_same (by simp [State.disturb]) (by simp [State.disturb]) (by simp [State.disturb])

theorem fetchReady_feederSlot {s : State} {n : Fin 8} {b : Fin 2} (h : s.fetchReady = some (n, b)) :
    s.feederSlot = some n := by
  unfold State.fetchReady at h
  split at h
  · split at h
    · cases h; assumption
    · cases h
  · cases h

/-- The feeder's slot is the eligible head or the current slot (R115). -/
theorem feederSlot_held {s : State} {n : Fin 8} (h : s.feederSlot = some n) :
    s.slotEligible n = true ∨ s.engine.slot = some n := by
  unfold State.feederSlot State.eligibleHead at h
  split at h
  · split at h
    · exact .inl (Option.filter_eq_some_iff.1 h).2
    · cases h
  · exact .inr h
  · exact .inr h
  · cases h

theorem not_vacant_of_eligible {s : State} {n : Fin 8} (h : s.slotEligible n = true) : (s.slot n).state ≠ .vacant := by
  unfold State.slotEligible at h
  split at h <;> simp_all

/-- A fetch begins: the fetch line of its slot moves (R115). -/
theorem moves_beginFetch {s : State} {n : Fin 8} {b : Fin 2} (h : s.fetchReady = some (n, b)) :
    Moves s (s.beginFetch n b) := by
  have hn := (feederSlot_held (fetchReady_feederSlot h)).imp_left not_vacant_of_eligible
  let u := s.setBank b { s.bank b with state := .filling, tag := some (n, s.feeder.target) }
  have hbank : Moves s u := .of_same rfl rfl rfl
  have hline : Moves u (u.setSlot n { u.slot n with fetchLine := s.feeder.target }) :=
    moves_setSlot u n _ { Amends.refl (u.slot n) with } rfl hn
  exact (hbank.trans hline).same rfl rfl rfl

theorem moves_pixelClock (s : State) : Moves s s.pixelClock := by
  have hcount : Moves s s.countClock := .of_same rfl rfl rfl
  have houtput (u : State) (r g b : Half) : Moves u (u.output r g b) := .of_same rfl rfl rfl
  unfold State.pixelClock
  split
  · rename_i px _
    have hcheck (l) : Moves s.countClock (s.countClock.checkReads l) := .of_same (by simp) (by simp) (by simp)
    simp only [State.sendPixel]
    split
    · exact ((hcount.trans (hcheck _)).trans (moves_markSpoiled _)).trans (houtput _ _ _ _)
    · exact (hcount.trans (hcheck _)).trans (houtput _ _ _ _)
  · exact hcount.trans (houtput _ _ _ _)

/-! ## The moves of the link, the store and the resets -/

theorem moves_setPins (s : State) (x : Pins) : Moves s (s.setPins x) := .of_same rfl rfl rfl
theorem moves_setLink (s : State) (x : LinkPort) : Moves s (s.setLink x) := .of_same rfl rfl rfl
theorem moves_setQueue (s : State) (x : List Beat) : Moves s (s.setQueue x) := .of_same rfl rfl rfl
theorem moves_setSc (s : State) (x : StoreController) : Moves s (s.setSc x) := .of_same rfl rfl rfl
theorem moves_setControl (s : State) (x : ControlCapture) : Moves s (s.setControl x) := .of_same rfl rfl rfl
theorem moves_setScan (s : State) (x : ScanUnit) : Moves s (s.setScan x) := .of_same rfl rfl rfl
theorem moves_setEvents (s : State) (x : EventUnit) : Moves s (s.setEvents x) := .of_same rfl rfl rfl
theorem moves_setPending (s : State) (x : List Instr) : Moves s (s.setPending x) := .of_same rfl rfl rfl
theorem moves_resample (s : State) : Moves s s.resample := .of_same (by simp) (by simp) (by simp)
theorem moves_setMonitor (s : State) (x : Monitor) : Moves s (s.setMonitor x) := .of_same rfl rfl rfl

theorem moves_arbitrate (s : State) : Moves s s.arbitrate := .of_same (by simp) (by simp) (by simp)

theorem moves_endUnit (s : State) : Moves s s.endUnit := .of_same (by simp) (by simp) (by simp)

theorem moves_raiseIf (s : State) (b : Bool) (i : Source) : Moves s (s.raiseIf b i) :=
  .of_same (by simp) (by simp) (by simp)

theorem moves_admitNow (s : State) : Moves s s.admitNow := by
  unfold State.admitNow
  repeat' split
  all_goals exact .of_same rfl rfl rfl

theorem moves_openTxn (s : State) (w : Word) : Moves s (s.openTxn w) := by
  have hcount : Moves s (if (s.headerTxn w).outOfRange then s.countOutOfRange else s) := by
    split
    · exact .of_same rfl rfl rfl
    · exact .refl s
  exact ((hcount.trans (moves_setLink _ _)).trans (moves_arbitrate _)).trans (moves_admitNow _)

theorem moves_enqueueBeat (s : State) (t : Txn) (w : Word) (en : Enables) : Moves s (s.enqueueBeat t w en) :=
  ((moves_setLink s _).trans (moves_setQueue _ _)).trans (moves_arbitrate _)

theorem moves_deliver (s : State) (t : Txn) (w : Word) (l : List Word) (g : Option (Nat × List Word)) :
    Moves s (s.deliver t w l g) :=
  (moves_setLink s _).trans (moves_arbitrate _)

theorem moves_fillBank (s : State) (b : Fin 2) (pos len addr : Nat) : Moves s (s.fillBank b pos len addr) :=
  .of_same rfl rfl rfl

theorem moves_fillBuffer (s : State) (l : List Nat) : Moves s (s.fillBuffer l) := by
  unfold State.fillBuffer
  split <;> exact .of_same rfl rfl rfl

theorem moves_advanceFetch (s : State) (f : Fetch) (len : Nat) : Moves s (s.advanceFetch f len) := by
  simp only [State.advanceFetch]
  split <;> exact .of_same rfl rfl rfl

theorem moves_reloadWords (s : State) (u : TableUnit) (first len : Nat) : Moves s (s.reloadWords u first len) := by
  unfold State.reloadWords
  induction List.range len generalizing s with
  | nil => exact .refl s
  | cons j l ih =>
    refine Moves.trans ?_ (ih _)
    show Moves s (s.reloadWord u (first + j))
    unfold State.reloadWord
    split
    · exact .of_same (by simp) (by simp) (by simp)
    · exact .refl s

theorem moves_advanceReload (s : State) (u : TableUnit) (len : Nat) : Moves s (s.advanceReload u len) := by
  simp only [State.advanceReload]
  split
  · exact .of_same (by simp [State.endReload]) (by simp [State.endReload]) (by simp [State.endReload])
  · exact .of_same rfl rfl rfl

theorem moves_bridgeReset (s : State) : Moves s s.bridgeReset := by
  refine (Move.reset ?_ ?_ ?_).moves <;>
    simp [State.bridgeReset, State.resetEvents, State.setMonitorState, State.resetScan, State.resetControl,
      State.resetEngine, State.resetSlots]

/-! ## Every step is a chain of moves -/

theorem moves_linkHeader {s t : State} {dt : Nat} {w w' : Word} (h : execLinkHeader dt w w' s = .next t) :
    Moves s t := by
  refine moves_after h fun u hu => ?_
  dsimp only at hu
  repeat' split at hu
  all_goals cases hu
  · exact .refl _
  · exact (moves_setPins _ _).trans (moves_setLink _ _)
  · exact ((moves_setPins _ _).trans (moves_setLink _ _)).trans (moves_openTxn _ _)

theorem moves_writeBeat {s t : State} {dt : Nat} {w : Word} {en : Enables} (h : execWriteBeat dt w en s = .next t) :
    Moves s t := by
  refine moves_after h fun u hu => ?_
  repeat' split at hu
  all_goals cases hu
  · exact .refl _
  · exact moves_setLink _ _
  · exact moves_enqueueBeat _ _ _ _
  · exact (moves_setLink _ _).trans (moves_raiseIf _ _ _)

theorem moves_readBeat {s t : State} {dt : Nat} (h : execReadBeat dt s = .next t) : Moves s t := by
  refine moves_after h fun u hu => ?_
  dsimp only at hu
  repeat' split at hu
  all_goals cases hu
  all_goals exact moves_deliver _ _ _ _ _

theorem moves_readSegmentDone {s t : State} {dt : Nat} (h : execReadSegmentDone dt s = .next t) : Moves s t := by
  refine moves_after h fun u hu => ?_
  repeat' split at hu
  all_goals cases hu
  · exact (moves_fillBuffer _ _).trans (moves_endUnit _)
  · exact moves_endUnit _

theorem moves_feederSegmentDone {s t : State} {dt : Nat} (h : execFeederSegmentDone dt s = .next t) : Moves s t := by
  refine moves_after h fun u hu => ?_
  repeat' split at hu
  all_goals cases hu
  · exact ((moves_fillBank _ _ _ _ _).trans (moves_advanceFetch _ _ _)).trans (moves_endUnit _)
  · exact moves_endUnit _

theorem moves_reloadSegmentDone {s t : State} {dt : Nat} (h : execReloadSegmentDone dt s = .next t) : Moves s t := by
  refine moves_after h fun u hu => ?_
  repeat' split at hu
  all_goals cases hu
  · exact ((moves_reloadWords _ _ _ _).trans (moves_advanceReload _ _ _)).trans (moves_endUnit _)
  · exact moves_endUnit _

@[simp] theorem mapUnit_size (s : State) (f : GrantUnit → GrantUnit) : (s.mapUnit f).sc.size = s.sc.size := rfl

/-- What acceptance makes of the slots and their coverage depends on the slots and their coverage (R16). -/
theorem acceptSlot_congr {s u : State} (hs : u.slots = s.slots) (hf : u.fill = s.fill) (n : Fin 8) (d : Descriptor) :
    (u.acceptSlot n d).slots = (s.acceptSlot n d).slots ∧ (u.acceptSlot n d).fill = (s.acceptSlot n d).fill := by
  unfold State.acceptSlot
  cases d.stock <;>
    simp [State.joinQueue, State.addUser, State.setSlot, State.setSlots, State.setCover, State.setFill, hs, hf]

/-- Acceptance in a state with the slots, coverage, engine, Control Capture and store size of `s`. -/
theorem described_of_same {s u t : State} {n : Fin 8} {d : Descriptor} (hq : s.queue ≠ [])
    (hd : u.describeRefusal n d = none) (hs : u.slots = s.slots) (hf : u.fill = s.fill) (he : t.engine = s.engine)
    (hc : u.control = s.control) (hz : u.sc.size = s.sc.size) (hts : t.slots = (u.acceptSlot n d).slots)
    (htf : t.fill = (u.acceptSlot n d).fill) : Described s t n d where
  queued := hq
  accepted := (describeRefusal_congr hs hz hc n d).symm.trans hd
  slots := hts.trans (acceptSlot_congr hs hf n d).1
  fill := htf.trans (acceptSlot_congr hs hf n d).2
  engine := he

/-- DESCRIBE leaves the slot side as it was, or accepts a descriptor (R11). -/
theorem describe_moves {s t : State} {dt : Nat} (h : execDescribe dt s = .next t) : SlotSide s t := by
  unfold execDescribe State.runCommand at h
  obtain ⟨-, b, left, hold, rest, -, hqueue, -, ht⟩ := State.place_next h
  split at ht
  case h_2 => cases ht
  split at ht
  case isFalse => cases ht
  cases ht
  generalize hu : (s.setNow (s.now + dt)).dropBeat.storeBeat b = u
  have hsame : u.slots = s.slots ∧ u.fill = s.fill ∧ u.engine = s.engine ∧ u.control = s.control
      ∧ u.sc.size = s.sc.size := by
    subst hu; simp [State.dropBeat]
  obtain ⟨hslots, hfill, hengine, hcontrol, hsize⟩ := hsame
  unfold slotCommand
  split
  · exact .moves ((Moves.of_same hslots hfill hengine).same (by simp) (by simp) (by simp))
  · rename_i n _
    obtain hsame | ⟨d, hd, haccept⟩ := describeSlot_or u n
    · rw [hsame]
      exact .moves ((Moves.of_same hslots hfill hengine).same (by simp) (by simp) (by simp))
    · rw [haccept]
      exact .described n d (described_of_same (by simp [hqueue]) hd hslots hfill
        (by simp [State.acceptSlot, State.joinQueue, hengine]) hcontrol hsize (by simp) (by simp))

/-- Every command but DESCRIBE that answers a next state makes a chain of moves of the slot side. -/
theorem exec_moves_of_ne {s t : State} (i : Instr) (hi : ∀ dt, i ≠ .describe dt) (h : exec i s = .next t) :
    Moves s t := by
  unfold exec at h
  cases i with
  | powerOn => cases h; exact (Move.reset (by simp; rfl) (by simp; rfl) (by simp; rfl)).moves
  | rstAssert => exact moves_after h fun u hu => by cases hu; exact moves_bridgeReset u
  | rstRelease =>
    refine moves_after h fun u hu => ?_
    dsimp only at hu
    split at hu
    · cases hu; exact ((moves_setPins _ _).trans (moves_setSc _ _)).trans (moves_arbitrate _)
    · cases hu
  | linkHeader => exact moves_linkHeader h
  | readAdmit | writeAdmit =>
    refine moves_after h fun u hu => ?_
    repeat' split at hu
    all_goals cases hu
    exact moves_setLink _ _
  | writeBeat => exact moves_writeBeat h
  | readBeat => exact moves_readBeat h
  | lselRise =>
    exact moves_after h fun u hu => by
      cases hu; exact ((moves_setPins _ _).trans (moves_setLink _ _)).trans (moves_setSc _ _)
  | storeInitEnd | refreshDue =>
    exact moves_atEnd h fun u hu => by
      cases hu; exact ((moves_setSc _ _).trans (moves_setSc _ _)).trans (moves_arbitrate _)
  | refreshDone =>
    refine moves_after h fun u hu => ?_
    split at hu <;> cases hu
    exact (moves_setSc _ _).trans (moves_endUnit _)
  | readSegmentDone => exact moves_readSegmentDone h
  | placementUnitEnd =>
    refine moves_after h fun u hu => ?_
    repeat' split at hu
    all_goals cases hu
    exact moves_endUnit _
  | feederSegmentDone => exact moves_feederSegmentDone h
  | reloadSegmentDone => exact moves_reloadSegmentDone h
  | noEnableBeat | statusPageWrite =>
    refine moves_place h fun u b hu => ?_
    split at hu <;> cases hu
    exact .refl _
  | storePlainWord =>
    refine moves_place h fun u b hu => ?_
    split at hu <;> cases hu
    exact moves_storeBeat u b
  | placePictureWord => exact moves_placePictureWord h
  | tableWordWrite =>
    refine moves_place h fun u b hu => ?_
    split at hu <;> cases hu
    exact (moves_storeBeat u b).trans (moves_tableWord _ _ _ _)
  | stagingWrite =>
    refine moves_place h fun u b hu => ?_
    split at hu <;> cases hu
    all_goals exact (moves_storeBeat u b).trans (moves_setControl _ _)
  | eventSettingsWrite =>
    refine moves_place h fun u b hu => ?_
    split at hu <;> cases hu
    exact ((moves_storeBeat u b).trans (moves_setControl _ _)).trans (moves_resample _)
  | auxFunctionWrite =>
    refine moves_place h fun u b hu => ?_
    split at hu <;> cases hu
    exact (moves_storeBeat u b).trans (moves_setControl _ _)
  | malformedCommand | unknownCommand =>
    refine moves_place h fun u b hu => ?_
    split at hu <;> cases hu
    exact (moves_storeBeat u b).trans (moves_recordCommand _ _ _ _)
  | describe dt => exact absurd rfl (hi dt)
  | sealSlot => exact moves_runCommand h (moves_slotCommand moves_sealFrame)
  | withdraw => exact moves_runCommand h (moves_slotCommand moves_withdrawSlot)
  | release => exact moves_runCommand h (moves_slotCommand moves_releaseSlot)
  | reload => exact moves_runCommand h moves_reloadTable
  | run => exact moves_runCommand h fun u _ => moves_runEngine u
  | halt => exact moves_runCommand h fun u _ => moves_haltEngine u
  | abort => exact moves_runCommand h fun u _ => moves_abortEngine u
  | scanApply =>
    refine moves_runCommand h fun u _ => ?_
    unfold State.scanApplied
    split
    · exact .refl u
    · exact .refl u
    · exact .of_same (by simp [State.applyScan, State.clearScanStats]) (by simp [State.applyScan, State.clearScanStats])
        (by simp [State.applyScan, State.clearScanStats])
  | clearScanStats => exact moves_runCommand h fun u _ => moves_setScan _ _
  | clearEvents => exact moves_runCommand h fun u _ => (moves_setEvents _ _).trans (moves_resample _)
  | monitorStep =>
    refine moves_runCommand h fun u _ => ?_
    unfold State.stepMonitor
    repeat' split
    all_goals exact .of_same rfl rfl rfl
  | monitorStop => exact moves_runCommand h fun u _ => moves_setMonitor _ _
  | sos =>
    refine moves_after h fun u hu => ?_
    cases hu
    repeat' split
    · exact .refl u
    · exact moves_setScan _ _
    · exact moves_acceptSos u
  | home =>
    refine moves_after h fun u hu => ?_
    cases hu
    split
    · exact .refl u
    · exact moves_takeHome u
  | silenceExpiry => exact moves_atEnd h fun u hu => by cases hu; exact moves_fallSilent u
  | fetchBegin =>
    refine moves_after h fun u hu => ?_
    split at hu <;> cases hu
    exact (moves_beginFetch ‹_›).trans (moves_arbitrate _)
  | pixelDrive dt arisen =>
    refine moves_after h fun u hu => ?_
    cases hu
    have harise : Moves u (u.arise arisen) := .of_same (by simp) (by simp) (by simp)
    exact harise.trans (moves_pixelClock _)
  | gateFall =>
    refine moves_after h fun u hu => ?_
    cases hu
    exact (moves_setPins _ _).trans (moves_gateFalls _)
  | gateRise => exact moves_after h fun u hu => by cases hu; exact moves_setPins _ _
  | interlockOpen =>
    refine moves_after h fun u hu => ?_
    cases hu
    exact (Moves.of_same (by simp [State.zeroDrives]) (by simp [State.zeroDrives]) (by simp [State.zeroDrives])).trans
      (moves_abortFrame _ _)
  | interlockClose =>
    exact moves_after h fun u hu => by cases hu; exact .of_same (by simp) (by simp) (by simp)
  | gateReleaseExpiry =>
    obtain ⟨y, hy, -, hu⟩ := State.atEnd_next h
    cases hu
    have hraise : Moves s ((s.setNow y.ends).raise .gateStuck) := .of_same (by simp) (by simp) (by simp)
    exact hraise.trans (moves_enterStopped _ (.inr (.inr (by simp [hy]))))
  | donePulseEnd =>
    exact moves_atEnd h fun u hu => by cases hu; exact moves_setEngine u _ rfl rfl fun h => ⟨h, id⟩
  | pulseStretchEnd | sweepPulseEnd | frameStartPulseEnd | activityExpiry | activityBlinkToggle =>
    exact moves_atEnd h fun u hu => by cases hu; exact moves_setEvents _ _

/-- Every step is a chain of moves of the slot side, or accepts a descriptor. -/
theorem step_moves {s t : State} (h : step s = .next t) : SlotSide s t := by
  unfold step at h
  split at h
  · cases h; exact .moves (.refl s)
  · rename_i i rest _
    by_cases hi : ∀ dt, i ≠ .describe dt
    · exact .moves ((moves_setPending s _).trans (exec_moves_of_ne i hi h))
    · push Not at hi
      obtain ⟨dt, rfl⟩ := hi
      cases describe_moves h with
      | moves hm => exact .moves ((moves_setPending s _).trans hm)
      | described n d hd =>
        exact .described n d (described_of_same (u := s.setPending rest) hd.queued hd.accepted rfl rfl hd.engine rfl rfl
          hd.slots hd.fill)

end Sys2Proof.Safety
end

section
/-! The Exposure Queue, the user counts and the engine agree with the slots along the moves (R7, R21, R22). -/

namespace Sys2Proof.Safety

open Machine

/-! ## Queue, user counts and engine agree with the slots -/

/-- `QueueMatchesSlots` with its parts named, and the two user counts as one. -/
structure QueueFacts (s : State) : Prop where
  nodup : s.slots.queue.Nodup
  mem : ∀ n, n ∈ s.slots.queue ↔ (s.slot n).state.queued = true
  users : ∀ y, s.users y = usersCounted s y
  exposing : ∀ n, (s.slot n).state = .exposing ↔ s.engine.slot = some n
  expo : s.engine.slot.isSome = true ↔ s.expo = true
  head : ∀ n, s.engine.slot = some n → s.head = some n
  timer : s.engine.gateTimer.isSome = true → s.engine.state = .closing

theorem queueMatches_iff {s : State} : QueueMatchesSlots s ↔ QueueFacts s := by
  constructor
  · rintro ⟨h1, h2, h3, h4, h5, h6, h7, h8⟩
    exact ⟨h1, h2, fun y => by cases y <;> assumption, h5, h6, h7, h8⟩
  · rintro ⟨h1, h2, h3, h4, h5, h6, h7⟩
    exact ⟨h1, h2, h3 .a, h3 .b, h4, h5, h6, h7⟩

/-- Slots counted by two tests that agree off slot `n`. -/
theorem countP_finRange_change {p q : Fin 8 → Bool} (n : Fin 8) (h : ∀ m, m ≠ n → p m = q m) :
    (List.finRange 8).countP p + (if q n then 1 else 0) = (List.finRange 8).countP q + (if p n then 1 else 0) := by
  have hperm : (List.finRange 8).Perm (n :: (List.finRange 8).erase n) := List.perm_cons_erase (List.mem_finRange n)
  have hrest : ((List.finRange 8).erase n).countP p = ((List.finRange 8).erase n).countP q :=
    List.countP_congr fun m hm => by
      rw [h m ((List.Nodup.mem_erase_iff (List.nodup_finRange 8)).1 hm).1]
  rw [hperm.countP_eq p, hperm.countP_eq q, List.countP_cons, List.countP_cons, hrest]
  omega

/-- The users of a set after one record was replaced. -/
theorem usersCounted_change {s t : State} (n : Fin 8) (h : ∀ m, m ≠ n → t.slot m = s.slot m) (y : StockSet) :
    usersCounted t y + (if (s.slot n).state.queued && (s.slot n).stock == y then 1 else 0)
      = usersCounted s y + (if (t.slot n).state.queued && (t.slot n).stock == y then 1 else 0) :=
  countP_finRange_change (p := fun n => (t.slot n).state.queued && (t.slot n).stock == y)
    (q := fun n => (s.slot n).state.queued && (s.slot n).stock == y) n fun m hm => by simp only [h m hm]

/-- A record keeps its place in the queue and its set. -/
theorem usersCounted_congr {s t : State} (h : ∀ n, (t.slot n).state.queued = (s.slot n).state.queued
    ∧ (t.slot n).stock = (s.slot n).stock) (y : StockSet) : usersCounted t y = usersCounted s y :=
  List.countP_congr fun n _ => by rw [(h n).1, (h n).2]

/-- Outside an exposure the engine has no slot (R105). -/
theorem QueueFacts.slot_none {s : State} (h : QueueFacts s) (he : s.expo = false) : s.engine.slot = none := by
  cases hs : s.engine.slot with
  | none => rfl
  | some n => simp [h.expo.1 (by simp [hs])] at he

theorem QueueFacts.expo_of_closing {s : State} (hc : s.engine.state = .closing) : s.expo = false := by
  simp [State.expo, hc]

/-- The engine goes on, the slots keep their places in the queue and their sets, and EXPOSING stays where it was. -/
theorem QueueFacts.goes_on {s t : State} (h : QueueFacts s) (hqueue : t.slots.queue = s.slots.queue)
    (husers : ∀ y, t.users y = s.users y)
    (hslots : ∀ n, (t.slot n).state.queued = (s.slot n).state.queued ∧ (t.slot n).stock = (s.slot n).stock)
    (hexp : ∀ n, (t.slot n).state = .exposing ↔ (s.slot n).state = .exposing) (he : EngineGoesOn s t) :
    QueueFacts t := by
  have hclosing : s.engine.gateTimer.isSome = true → s.expo = false := fun hg => QueueFacts.expo_of_closing (h.timer hg)
  have hslot : t.engine.slot = s.engine.slot ∧ t.expo = s.expo := by
    obtain hsame | ⟨hout, hnone, hexpo⟩ := he.slot
    · exact hsame
    · have hs : s.engine.slot = none := hout.elim id fun ho => h.slot_none (ho.elim id hclosing)
      refine ⟨by rw [hnone, hs], ?_⟩
      have : ¬ s.expo = true := fun hx => by simpa [hs] using h.expo.2 hx
      simp [hexpo, this]
  refine ⟨hqueue ▸ h.nodup, fun n => ?_, fun y => ?_, fun n => ?_, ?_, fun n hn => ?_, fun hg => ?_⟩
  · rw [hqueue, h.mem, (hslots n).1]
  · rw [husers, h.users, usersCounted_congr hslots]
  · rw [hexp, h.exposing, hslot.1]
  · rw [hslot.1, hslot.2, h.expo]
  · rw [State.head, hqueue]; exact h.head n (hslot.1 ▸ hn)
  · obtain ⟨h1, h2⟩ := he.timer hg
    exact h2 (h.timer h1)

/-- Amending keeps a record's place in the queue. -/
theorem Amends.queued {x y : Slot} (h : Amends x y) :
    y.state.queued = x.state.queued ∧ (y.state = .exposing ↔ x.state = .exposing) := by
  obtain he | ⟨hx, hy⟩ := h.state
  · simp [he]
  · obtain hx | hx | hx := hx <;> obtain hy | hy := hy <;> simp [hx, hy, SlotState.queued]

theorem QueueFacts.amend {s t : State} (h : QueueFacts s) {n : Fin 8} {x : Slot}
    (hs : t.slots = (s.setSlot n x).slots) (he : t.engine = s.engine) (hx : Amends (s.slot n) x) : QueueFacts t := by
  have hslot (m : Fin 8) : t.slot m = if m = n then x else s.slot m := by rw [slot_congr hs, State.slot_setSlot]
  refine h.goes_on (by rw [hs]; rfl) (fun y => by rw [users_congr hs, State.users_setSlot]) (fun m => ?_) (fun m => ?_)
    (engineGoesOn_of_eq he)
  · rw [hslot]; split
    · subst m; exact ⟨hx.queued.1, hx.stock⟩
    · exact ⟨rfl, rfl⟩
  · rw [hslot]; split
    · subst m; exact hx.queued.2
    · rfl

/-- A slot leaves the queue, for a state that is not queued. -/
theorem QueueFacts.leave {s t : State} (h : QueueFacts s) {n : Fin 8} (hn : (s.slot n).state.queued = true)
    (hqueue : t.slots.queue = s.slots.queue.filter (fun m => m != n))
    (husers : ∀ y, t.users y = if y = (s.slot n).stock then s.users y - 1 else s.users y)
    (hother : ∀ m, m ≠ n → t.slot m = s.slot m) (hout : (t.slot n).state.queued = false) :
    t.slots.queue.Nodup ∧ (∀ m, m ∈ t.slots.queue ↔ (t.slot m).state.queued = true)
      ∧ ∀ y, t.users y = usersCounted t y := by
  refine ⟨hqueue ▸ h.nodup.filter _, fun m => ?_, fun y => ?_⟩
  · rw [hqueue, List.mem_filter, h.mem]
    by_cases hm : m = n
    · subst hm; simp [hout]
    · simp [hm, hother m hm]
  · have hcount := usersCounted_change n hother y
    rw [husers, h.users]
    by_cases hy : y = (s.slot n).stock
    · subst hy; simp [hn, hout] at hcount ⊢; omega
    · simp [hout, hy, Ne.symm hy] at hcount ⊢; omega

/-- The engine is as it was, one slot that was not EXPOSING is replaced by one that is not, and the head stays where a
slot is exposing. -/
theorem QueueFacts.replaced {s t : State} (h : QueueFacts s) {n : Fin 8} (he : t.engine = s.engine)
    (hfacts : t.slots.queue.Nodup ∧ (∀ m, m ∈ t.slots.queue ↔ (t.slot m).state.queued = true)
      ∧ ∀ y, t.users y = usersCounted t y)
    (hother : ∀ m, m ≠ n → t.slot m = s.slot m) (hold : (s.slot n).state ≠ .exposing)
    (hnew : (t.slot n).state ≠ .exposing) (hhead : ∀ m, m ≠ n → s.head = some m → t.head = some m) : QueueFacts t := by
  obtain ⟨h1, h2, h3⟩ := hfacts
  refine ⟨h1, h2, h3, fun m => ?_, ?_, fun m hm => hhead m ?_ ?_, fun hg => ?_⟩
  · rw [he, ← h.exposing]
    by_cases hm : m = n
    · subst hm; simp [hold, hnew]
    · rw [hother m hm]
  · rw [he, h.expo]; simp [State.expo, he]
  · rintro rfl; exact hold ((h.exposing m).2 (he ▸ hm))
  · exact h.head m (he ▸ hm)
  · rw [he] at hg ⊢; exact h.timer hg

/-- The head of the queue stays when another slot leaves. -/
theorem head_filter {s t : State} {n m : Fin 8} (hqueue : t.slots.queue = s.slots.queue.filter (fun m => m != n))
    (hm : m ≠ n) (hh : s.head = some m) : t.head = some m := by
  unfold State.head at hh ⊢
  rw [hqueue]
  cases hq : s.slots.queue with
  | nil => simp [hq] at hh
  | cons a l => simp [hq] at hh; subst hh; simp [hm]

/-- What acceptance does to the slots and their coverage (R16). -/
theorem acceptSlot_slots (s : State) (n : Fin 8) (d : Descriptor) :
    (∀ m, (s.acceptSlot n d).slot m = if m = n then d.toSlot else s.slot m)
      ∧ (s.acceptSlot n d).slots.queue = s.slots.queue ++ [n]
      ∧ (∀ y, (s.acceptSlot n d).users y = if y = d.stock then s.users y + 1 else s.users y)
      ∧ (∀ m, (s.acceptSlot n d).cover m = if m = n then ⟨0, []⟩ else s.cover m)
      ∧ (s.acceptSlot n d).fill.free = s.fill.free := by
  have hjoin (u : State) (y : StockSet) : (u.joinQueue n).users y = u.users y := by cases y <;> rfl
  have hcover (u : State) (m : Fin 8) : (u.joinQueue n).cover m = u.cover m := rfl
  have hslot (u : State) (m : Fin 8) : (u.joinQueue n).slot m = u.slot m := rfl
  unfold State.acceptSlot
  refine ⟨fun m => ?_, ?_, fun y => ?_, fun m => ?_, ?_⟩
  · rw [State.slot_addUser, hslot, State.slot_of_setCover, State.slot_setSlot]
  · simp [State.joinQueue]
  · rw [State.users_addUser, hjoin, State.users_of_setCover, State.users_setSlot]
  · rw [State.cover_of_addUser, hcover, State.cover_setCover, State.cover_of_setSlot]
  · simp [State.joinQueue]

/-- A slot that becomes VACANT: its record and its coverage are cleared (R1, R10). -/
theorem vacate_slots (s : State) (n : Fin 8) :
    (∀ m, (s.vacate n).slot m = if m = n then Slot.cleared else s.slot m)
      ∧ (s.vacate n).slots.queue = s.slots.queue ∧ (∀ y, (s.vacate n).users y = s.users y)
      ∧ (∀ m, (s.vacate n).cover m = if m = n then ⟨0, []⟩ else s.cover m)
      ∧ (s.vacate n).fill.free = s.fill.free := by
  unfold State.vacate
  refine ⟨fun m => ?_, by simp, fun y => ?_, fun m => ?_, by simp⟩
  · rw [State.slot_of_setCover, State.slot_setSlot]
  · rw [State.users_of_setCover, State.users_setSlot]
  · rw [State.cover_setCover, State.cover_of_setSlot]

/-- A withdrawn slot: out of the queue and its set's users, its runs in the pool, its record and coverage cleared
(R10, R18). -/
theorem withdraw_slots (s : State) (n : Fin 8) :
    (∀ m, ((s.leaveQueue n).vacate n).slot m = if m = n then Slot.cleared else s.slot m)
      ∧ ((s.leaveQueue n).vacate n).slots.queue = s.slots.queue.filter (fun m => m != n)
      ∧ (∀ y, ((s.leaveQueue n).vacate n).users y = if y = (s.slot n).stock then s.users y - 1 else s.users y)
      ∧ (∀ m, ((s.leaveQueue n).vacate n).cover m = if m = n then ⟨0, []⟩ else s.cover m)
      ∧ ((s.leaveQueue n).vacate n).fill.free = s.fill.free + (s.cover n).runs.length := by
  obtain ⟨hv1, hv2, hv3, hv4, hv5⟩ := vacate_slots (s.leaveQueue n) n
  obtain ⟨hl1, hl2, hl3, hl4, hl5⟩ := s.leaveQueue_slots n
  refine ⟨fun m => by rw [hv1, hl1], by rw [hv2, hl2], fun y => by rw [hv3, hl3], fun m => ?_, by rw [hv5, hl5]⟩
  rw [hv4, hl4]
  split <;> rfl

/-- An accepted slot was VACANT (R11). -/
theorem vacant_of_accepted {s : State} {n : Fin 8} {d : Descriptor} (h : s.describeRefusal n d = none) :
    (s.slot n).state = .vacant := by
  unfold State.describeRefusal at h
  split at h
  · cases h
  · simp_all

theorem QueueFacts.described {s t : State} (h : QueueFacts s) {n : Fin 8} {d : Descriptor}
    (hdescribed : Described s t n d) : QueueFacts t := by
  obtain ⟨-, hd, hs, -, he⟩ := hdescribed
  obtain ⟨ha1, ha2, ha3, -⟩ := acceptSlot_slots s n d
  have hv := vacant_of_accepted hd
  have hslot (m : Fin 8) : t.slot m = if m = n then d.toSlot else s.slot m := by rw [slot_congr hs, ha1]
  have hn : n ∉ s.slots.queue := by simp [h.mem, hv, SlotState.queued]
  have hother (m : Fin 8) (hm : m ≠ n) : t.slot m = s.slot m := by rw [hslot, if_neg hm]
  have hopen : (t.slot n).state = .opened ∧ (t.slot n).stock = d.stock := by rw [hslot, if_pos rfl]; exact ⟨rfl, rfl⟩
  have hqueue : t.slots.queue = s.slots.queue ++ [n] := by rw [hs, ha2]
  refine h.replaced he ⟨?_, fun m => ?_, fun y => ?_⟩ hother (by simp [hv]) (by simp [hopen]) fun m hm hh => ?_
  · rw [hqueue]
    exact List.nodup_append.2 ⟨h.nodup, by simp, by simpa using fun a ha => ne_of_mem_of_not_mem ha hn⟩
  · rw [hqueue, List.mem_append, h.mem, List.mem_singleton]
    by_cases hm : m = n
    · subst hm; simp [hopen, SlotState.queued]
    · simp [hm, hother m hm]
  · have hcount := usersCounted_change n hother y
    rw [users_congr hs, ha3, h.users]
    by_cases hy : y = d.stock
    · subst hy; simp [hv, hopen, SlotState.queued] at hcount ⊢; omega
    · simp [hv, hopen, hy, Ne.symm hy, SlotState.queued] at hcount ⊢; omega
  · unfold State.head at hh ⊢
    rw [hqueue, List.head?_append, hh]; rfl

theorem QueueFacts.withdrawn {s t : State} (h : QueueFacts s) {n : Fin 8}
    (hx : (s.slot n).state = .opened ∨ (s.slot n).state = .filling ∨ (s.slot n).state = .ready)
    (hs : t.slots = ((s.leaveQueue n).vacate n).slots) (he : t.engine = s.engine) : QueueFacts t := by
  obtain ⟨hw1, hw2, hw3, -⟩ := withdraw_slots s n
  have hother (m : Fin 8) (hm : m ≠ n) : t.slot m = s.slot m := by rw [slot_congr hs, hw1, if_neg hm]
  have hn : t.slot n = Slot.cleared := by rw [slot_congr hs, hw1, if_pos rfl]
  have hqueue : t.slots.queue = s.slots.queue.filter (fun m => m != n) := by rw [hs, hw2]
  have hq : (s.slot n).state.queued = true ∧ (s.slot n).state ≠ .exposing := by
    obtain hx | hx | hx := hx <;> simp [hx, SlotState.queued]
  exact h.replaced he (h.leave hq.1 hqueue (fun y => by rw [users_congr hs, hw3]) hother (by rw [hn]; rfl)) hother hq.2
    (by simp [hn, Slot.cleared]) fun m hm hh => head_filter hqueue hm hh

theorem QueueFacts.released {s t : State} (h : QueueFacts s) {n : Fin 8}
    (hx : (s.slot n).state = .exposed ∨ (s.slot n).state = .faulted) (hs : t.slots = (s.vacate n).slots)
    (he : t.engine = s.engine) : QueueFacts t := by
  obtain ⟨hv1, hv2, hv3, -⟩ := vacate_slots s n
  have hother (m : Fin 8) (hm : m ≠ n) : t.slot m = s.slot m := by rw [slot_congr hs, hv1, if_neg hm]
  have hn : t.slot n = Slot.cleared := by rw [slot_congr hs, hv1, if_pos rfl]
  have hqueue : t.slots.queue = s.slots.queue := by rw [hs, hv2]
  have hq : (s.slot n).state.queued = false ∧ (s.slot n).state ≠ .exposing := by
    obtain hx | hx := hx <;> simp [hx, SlotState.queued]
  have hcleared : (t.slot n).state.queued = false := by rw [hn]; rfl
  refine h.replaced he ⟨hqueue ▸ h.nodup, fun m => ?_, fun y => ?_⟩ hother hq.2 (by simp [hn, Slot.cleared])
    fun m _ hh => by rw [State.head, hqueue]; exact hh
  · rw [hqueue, h.mem]
    by_cases hm : m = n
    · subst hm; simp [hcleared, hq]
    · rw [hother m hm]
  · have hcount := usersCounted_change n hother y
    rw [users_congr hs, hv3, h.users]
    simp [hcleared, hq] at hcount
    exact hcount.symm

theorem QueueFacts.started {s t : State} (h : QueueFacts s) {n : Fin 8} (hw : s.engine.state = .waiting)
    (hh : s.head = some n) (hs : t.slots = (s.setSlot n { s.slot n with state := .exposing }).slots)
    (he : t.engine.slot = some n ∧ t.expo = true ∧ t.engine.gateTimer = s.engine.gateTimer) : QueueFacts t := by
  obtain ⟨hslot, hexpo, htimer⟩ := he
  have hidle : s.engine.slot = none := h.slot_none (by simp [State.expo, hw])
  have hq : (s.slot n).state.queued = true := (h.mem n).1 (List.mem_of_head? hh)
  have hone (m : Fin 8) : t.slot m = if m = n then { s.slot n with state := .exposing } else s.slot m := by
    rw [slot_congr hs, State.slot_setSlot]
  have hkept (m : Fin 8) : (t.slot m).state.queued = (s.slot m).state.queued ∧ (t.slot m).stock = (s.slot m).stock := by
    rw [hone]; split
    · subst m; exact ⟨by rw [hq]; rfl, rfl⟩
    · exact ⟨rfl, rfl⟩
  have hqueue : t.slots.queue = s.slots.queue := by rw [hs]; rfl
  refine ⟨hqueue ▸ h.nodup, fun m => by rw [hqueue, h.mem, (hkept m).1], fun y => ?_, fun m => ?_, by simp [hslot, hexpo],
    fun m hm => ?_, fun hg => ?_⟩
  · rw [users_congr hs, State.users_setSlot, h.users, usersCounted_congr hkept]
  · rw [hone, hslot]
    by_cases hm : m = n
    · simp [hm]
    · simp [hm, Ne.symm hm, h.exposing, hidle]
  · rw [State.head, hqueue]; rw [hslot] at hm; cases hm; exact hh
  · rw [htimer] at hg
    exact absurd (h.timer hg) (by simp [hw])

theorem QueueFacts.departed {s t : State} (h : QueueFacts s) {n : Fin 8} (hn : s.engine.slot = some n)
    (hq : LeftQueue s t n) (hx : (t.slot n).state = .exposed ∨ (t.slot n).state = .faulted)
    (he : t.engine.slot = none ∧ t.expo = false ∧ (t.engine.gateTimer.isSome = true → t.engine.state = .closing)) :
    QueueFacts t := by
  obtain ⟨hqueue, husers, -, -, hother⟩ := hq
  obtain ⟨hslot, hexpo, htimer⟩ := he
  have hexp := (h.exposing n).2 hn
  have hout : (t.slot n).state.queued = false ∧ (t.slot n).state ≠ .exposing := by
    obtain hx | hx := hx <;> simp [hx, SlotState.queued]
  obtain ⟨h1, h2, h3⟩ := h.leave (by simp [hexp, SlotState.queued]) hqueue husers (fun m hm => (hother m hm).1) hout.1
  refine ⟨h1, h2, h3, fun m => ?_, by simp [hslot, hexpo], fun m hm => by simp [hslot] at hm, htimer⟩
  by_cases hm : m = n
  · subst hm; simp [hout, hslot]
  · simp [(hother m hm).1, h.exposing, hn, hslot, Ne.symm hm]

/-- A reset leaves every slot VACANT and the engine stopped. -/
theorem QueueFacts.reset {t : State} (hs : t.slots = SlotTable.reset) (he : t.engine = Engine.reset) :
    QueueFacts t := by
  have hslot (n : Fin 8) : t.slot n = Slot.cleared := by simp [State.slot, hs, SlotTable.reset]
  refine ⟨by simp [hs, SlotTable.reset], fun n => ?_, fun y => ?_, fun n => ?_, ?_, fun n hn => ?_, fun hg => ?_⟩
  · simp [hs, hslot, SlotTable.reset, Slot.cleared, SlotState.queued]
  · have hcount : usersCounted t y = 0 := by simp [usersCounted, hslot, Slot.cleared, SlotState.queued]
    rw [hcount]
    cases y <;> simp [State.users, hs, SlotTable.reset]
  · simp [hslot, he, Slot.cleared, Engine.reset]
  · simp [he, State.expo, Engine.reset]
  · simp [he, Engine.reset] at hn
  · simp [he, Engine.reset] at hg

/-- Every move keeps the queue, the user counts and the engine in agreement with the slots. -/
theorem queueFacts_move {s t : State} (h : QueueFacts s) (hm : Move s t) : QueueFacts t := by
  cases hm with
  | engine hs hf he =>
    exact h.goes_on (by rw [hs]) (users_congr hs) (fun n => by simp [slot_congr hs]) (fun n => by simp [slot_congr hs]) he
  | amend n x hs hf he hn hx hl => exact h.amend hs he hx
  | freed n hs hf he | tracked n _ _ _ hs hf he =>
    exact h.goes_on (by rw [hs]) (users_congr hs) (fun n => by simp [slot_congr hs]) (fun n => by simp [slot_congr hs])
      (engineGoesOn_of_eq he)
  | withdrawn n hx hs hf he => exact h.withdrawn hx hs he
  | released n hx hs hf he => exact h.released hx hs he
  | started n hw hh hn hs hf he => exact h.started hw hh hs he
  | departed n hn hq hx hg he => exact h.departed hn hq hx he
  | reset hs hf he => exact .reset hs he

theorem queueFacts_moves {s t : State} (h : QueueFacts s) (hm : Moves s t) : QueueFacts t := by
  induction hm with
  | refl => exact h
  | tail _ hstep ih => exact queueFacts_move ih hstep

theorem queueFacts_step {s t : State} (h : QueueFacts s) (hstep : step s = .next t) : QueueFacts t := by
  cases step_moves hstep with
  | moves hm => exact queueFacts_moves h hm
  | described n d hd => exact h.described hd

/-- Settles O51: every step is a chain of moves or accepts a descriptor, and each of these keeps the queue, the user
counts and the engine in agreement with the slots. -/
theorem queueKeepsMatchingSlots : Obligations.QueueKeepsMatchingSlots := by
  unfold Obligations.QueueKeepsMatchingSlots
  intro s t h hstep
  exact queueMatches_iff.2 (queueFacts_step (queueMatches_iff.1 h) hstep)

end Sys2Proof.Safety
end

section
/-! Coverage: the run lists of R46 under each case of R48, and the invariant of coverage along the moves. -/

namespace Sys2Proof.Safety

open Machine

/-! ## Run lists (R46, R50 to R53) -/

variable {hi lo i : Nat} {runs : List Run}

theorem runsBetween_mem (h : runsBetween hi lo runs) {r : Run} (hr : r ∈ runs) :
    lo < r.first ∧ r.first < r.stop ∧ r.stop ≤ hi := by
  induction runs generalizing lo with
  | nil => cases hr
  | cons a rest ih =>
    obtain ⟨h1, h2, h3, hrest⟩ := h
    rcases List.mem_cons.1 hr with rfl | hr
    · exact ⟨h1, h2, h3⟩
    · have := ih hrest hr
      omega

/-- The bound below may be replaced by any other below the first run. -/
theorem runsBetween_rebase {lo' : Nat} (h : runsBetween hi lo runs) (hlo : ∀ r ∈ runs, lo' < r.first) :
    runsBetween hi lo' runs := by
  cases runs with
  | nil => trivial
  | cons r rest => exact ⟨hlo r (List.mem_cons_self ..), h.2⟩

/-- The cursor, one beyond the bound, absorbs the runs that start at it (R50). -/
theorem absorb_sound (hc : lo + 1 ≤ hi) (h : runsBetween hi lo runs) :
    (absorb (lo + 1) runs).cursor ≤ hi ∧ runsBetween hi (absorb (lo + 1) runs).cursor (absorb (lo + 1) runs).runs
      ∧ (absorb (lo + 1) runs).runs.length ≤ runs.length := by
  induction runs generalizing lo with
  | nil => exact ⟨hc, trivial, le_rfl⟩
  | cons r rest ih =>
    obtain ⟨h1, h2, h3, hrest⟩ := h
    unfold absorb
    split
    · obtain ⟨k, hk⟩ : ∃ k, r.stop = k + 1 := ⟨r.stop - 1, by omega⟩
      have hr : runsBetween hi k rest :=
        runsBetween_rebase hrest fun r' hr' => by have := runsBetween_mem hrest hr'; omega
      obtain ⟨i1, i2, i3⟩ := ih (hk ▸ h3) hr
      rw [hk]
      exact ⟨i1, i2, by simp; omega⟩
    · exact ⟨hc, ⟨by dsimp only; omega, h2, h3, hrest⟩, le_rfl⟩

/-- An index outside every run lies below a run or at or beyond its end. -/
theorem outside_of_not_inSomeRun (h : inSomeRun runs i = false) {r : Run} (hr : r ∈ runs) :
    i < r.first ∨ r.stop ≤ i := by
  unfold inSomeRun at h
  have := List.any_eq_false.1 h r hr
  simp at this
  omega

theorem endsAt_false (h : endsAt runs i = false) {r : Run} (hr : r ∈ runs) : r.stop ≠ i := by
  simpa using List.any_eq_false.1 h r hr

theorem startsAbove_false (h : startsAbove runs i = false) {r : Run} (hr : r ∈ runs) : r.first ≠ i + 1 := by
  simpa using List.any_eq_false.1 h r hr

/-- Runs that the index does not touch stay. -/
theorem extendRuns_untouched (h : ∀ r ∈ runs, r.stop ≠ i ∧ r.first ≠ i + 1) : extendRuns i runs = runs := by
  unfold extendRuns
  refine (List.map_congr_left fun r hr => ?_).trans (List.map_id _)
  obtain ⟨h1, h2⟩ := h r hr
  simp [h1, h2]

/-- An index touches one run from outside, and the run grows (R51). -/
theorem extendRuns_sound (h : runsBetween hi lo runs) (hlo : lo < i) (hhi : i < hi) (hin : inSomeRun runs i = false)
    (hone : (endsAt runs i && startsAbove runs i) = false) : runsBetween hi lo (extendRuns i runs) := by
  induction runs generalizing lo with
  | nil => exact h
  | cons r rest ih =>
    obtain ⟨h1, h2, h3, hrest⟩ := h
    have habove (r' : Run) (hr' : r' ∈ rest) : r.stop < r'.first ∧ r'.first < r'.stop :=
      ⟨(runsBetween_mem hrest hr').1, (runsBetween_mem hrest hr').2.1⟩
    have hcons : extendRuns i (r :: rest)
        = (if r.stop = i then ⟨r.first, i + 1⟩ else if r.first = i + 1 then ⟨i, r.stop⟩ else r) :: extendRuns i rest := rfl
    have hrestIn : inSomeRun rest i = false := by simp_all [inSomeRun]
    rw [hcons]
    rcases outside_of_not_inSomeRun hin (List.mem_cons_self ..) with hbelow | hbeyond
    · rw [extendRuns_untouched fun r' hr' => by have := habove r' hr'; omega, if_neg (by omega)]
      split
      · exact ⟨hlo, by dsimp only; omega, h3, hrest⟩
      · exact ⟨h1, h2, h3, hrest⟩
    · by_cases hend : r.stop = i
      · have hstart : startsAbove rest i = false := by
          have hends : endsAt (r :: rest) i = true := by simp [endsAt, hend]
          rw [hends, Bool.true_and] at hone
          simp_all [startsAbove]
        have hfree (r' : Run) (hr' : r' ∈ rest) : r'.stop ≠ i ∧ r'.first ≠ i + 1 :=
          ⟨by have := habove r' hr'; omega, startsAbove_false hstart hr'⟩
        rw [extendRuns_untouched hfree, if_pos hend]
        refine ⟨h1, by dsimp only; omega, hhi, runsBetween_rebase hrest fun r' hr' => ?_⟩
        have := habove r' hr'
        have := (hfree r' hr').2
        dsimp only
        omega
      · rw [if_neg hend, if_neg (by omega)]
        refine ⟨h1, h2, h3, ih hrest (by omega) hrestIn ?_⟩
        simp only [endsAt, startsAbove, List.any_cons, Bool.and_eq_false_iff, Bool.or_eq_false_iff] at hone ⊢
        tauto

/-- The runs below and above an index become one (R52). -/
theorem mergeRuns_sound (h : runsBetween hi lo runs) (hends : endsAt runs i = true) (hstarts : startsAbove runs i = true) :
    runsBetween hi lo (mergeRuns i runs) ∧ (mergeRuns i runs).length + 1 = runs.length := by
  unfold endsAt at hends
  unfold startsAbove at hstarts
  rw [List.any_eq_true] at hends hstarts
  obtain ⟨r, hr, hre⟩ := hends
  obtain ⟨r', hr', hrs⟩ := hstarts
  rw [beq_iff_eq] at hre hrs
  induction runs generalizing lo with
  | nil => cases hr
  | cons a rest ih =>
    cases rest with
    | nil =>
      have hbounds := runsBetween_mem h hr
      simp only [List.mem_singleton] at hr hr'
      subst hr hr'
      omega
    | cons b rest =>
      obtain ⟨h1, h2, h3, h4, h5, h6, h7⟩ := h
      have hrest : runsBetween hi a.stop (b :: rest) := ⟨h4, h5, h6, h7⟩
      unfold mergeRuns
      split
      · exact ⟨⟨h1, by dsimp only; omega, h6, h7⟩, rfl⟩
      · rename_i hno
        have hr'b : r' ∈ b :: rest := by
          rcases List.mem_cons.1 hr' with rfl | hm
          · rcases List.mem_cons.1 hr with rfl | hm
            · omega
            · have := runsBetween_mem hrest hm; omega
          · exact hm
        have hrb : r ∈ b :: rest := by
          rcases List.mem_cons.1 hr with rfl | hm
          · rcases List.mem_cons.1 hr'b with rfl | hm'
            · exact absurd ⟨hre, hrs⟩ hno
            · have := runsBetween_mem h7 hm'; omega
          · exact hm
        obtain ⟨i1, i2⟩ := ih hrest hrb hr'b
        exact ⟨⟨h1, h2, h3, i1⟩, by simp only [List.length_cons] at i2 ⊢; omega⟩

/-- A new run of one index (R53). -/
theorem insertRun_sound (h : runsBetween hi lo runs) (hlo : lo < i) (hhi : i < hi) (hin : inSomeRun runs i = false)
    (hends : endsAt runs i = false) (hstarts : startsAbove runs i = false) :
    runsBetween hi lo (insertRun i runs) ∧ (insertRun i runs).length = runs.length + 1 := by
  induction runs generalizing lo with
  | nil => exact ⟨⟨hlo, by dsimp only; omega, hhi, trivial⟩, rfl⟩
  | cons r rest ih =>
    obtain ⟨h1, h2, h3, hrest⟩ := h
    have hr : r ∈ r :: rest := List.mem_cons_self ..
    have hends' := endsAt_false hends hr
    have hstarts' := startsAbove_false hstarts hr
    unfold insertRun
    split
    · exact ⟨⟨hlo, by dsimp only; omega, hhi, by dsimp only; omega, h2, h3, hrest⟩, rfl⟩
    · have hbeyond := (outside_of_not_inSomeRun hin hr).resolve_left ‹_›
      obtain ⟨i1, i2⟩ := ih hrest (by omega) (by simp_all [inSomeRun]) (by simp_all [endsAt]) (by simp_all [startsAbove])
      exact ⟨⟨h1, h2, h3, i1⟩, by simp [i2]⟩

end Sys2Proof.Safety
end

section
/-! The coverage records along the moves of the slot side (R46, R47). -/

namespace Sys2Proof.Safety

open Machine

/-- What R46 says of a slot's record and its coverage. -/
structure SlotSound (x : Slot) (c : Coverage) : Prop where
  cursor : c.cursor ≤ x.width * x.height
  runs : runsBetween (x.width * x.height) c.cursor c.runs
  vacant : x.state = .vacant → x = Slot.cleared
  dims : x.state ≠ .vacant → 0 < x.width ∧ 0 < x.height ∧ x.width ≤ x.pitch
  unqueued : x.state.queued = false → c.runs = []
  lost : x.lost = true → c.runs = []

/-- `CoverageSound` slot by slot. -/
structure CoverageFacts (s : State) : Prop where
  sound : ∀ n, SlotSound (s.slot n) (s.cover n)
  pool : s.fill.free + runsHeld s = 48

theorem coverageSound_iff {s : State} : CoverageSound s ↔ CoverageFacts s := by
  constructor
  · rintro ⟨h1, h2, h3, h4, h5, h6⟩
    exact ⟨fun n => ⟨(h1 n).1, (h1 n).2, h2 n, h3 n, h4 n, h5 n⟩, h6⟩
  · rintro ⟨h, h6⟩
    exact ⟨fun n => ⟨(h n).cursor, (h n).runs⟩, fun n => (h n).vacant, fun n => (h n).dims, fun n => (h n).unqueued,
      fun n => (h n).lost, h6⟩

/-- The runs held when one coverage record is replaced. -/
theorem runsHeld_change {s t : State} (n : Fin 8) (h : ∀ m, m ≠ n → t.cover m = s.cover m) :
    runsHeld t + (s.cover n).runs.length = runsHeld s + (t.cover n).runs.length := by
  have hperm : (List.finRange 8).Perm (n :: (List.finRange 8).erase n) := List.perm_cons_erase (List.mem_finRange n)
  have hrest : ((List.finRange 8).erase n).map (fun m => (t.cover m).runs.length)
      = ((List.finRange 8).erase n).map (fun m => (s.cover m).runs.length) :=
    List.map_congr_left fun m hm => by
      rw [h m ((List.Nodup.mem_erase_iff (List.nodup_finRange 8)).1 hm).1]
  have hsum (u : State) : runsHeld u = (u.cover n).runs.length
      + (((List.finRange 8).erase n).map (fun m => (u.cover m).runs.length)).sum := by
    rw [runsHeld, (hperm.map _).sum_eq, List.map_cons, List.sum_cons]
  rw [hsum t, hsum s, hrest]
  omega

/-- One slot changes, to a sound record, and the pool takes or gives the difference of its runs. -/
theorem CoverageFacts.change {s t : State} (h : CoverageFacts s) (n : Fin 8)
    (hother : ∀ m, m ≠ n → t.slot m = s.slot m ∧ t.cover m = s.cover m) (hn : SlotSound (t.slot n) (t.cover n))
    (hfree : t.fill.free + (t.cover n).runs.length = s.fill.free + (s.cover n).runs.length) : CoverageFacts t where
  sound m := by
    by_cases hm : m = n
    · exact hm ▸ hn
    · rw [(hother m hm).1, (hother m hm).2]; exact h.sound m
  pool := by
    have := runsHeld_change n fun m hm => (hother m hm).2
    have := h.pool
    omega

/-- Slots and coverage are as they were. -/
theorem CoverageFacts.same {s t : State} (h : CoverageFacts s) (hs : t.slots = s.slots) (hf : t.fill = s.fill) :
    CoverageFacts t :=
  h.change 0 (fun m _ => ⟨slot_congr hs m, cover_congr hf m⟩) (by rw [slot_congr hs, cover_congr hf]; exact h.sound 0)
    (by rw [hf, cover_congr hf])

/-- A record that gave up its runs (R10). -/
theorem SlotSound.withoutRuns {x : Slot} {c : Coverage} (h : SlotSound x c) : SlotSound x { c with runs := [] } :=
  ⟨h.cursor, trivial, h.vacant, h.dims, fun _ => rfl, fun _ => rfl⟩

/-- The record of a VACANT slot (R1). -/
theorem slotSound_cleared : SlotSound Slot.cleared ⟨0, []⟩ :=
  ⟨Nat.zero_le _, trivial, fun _ => rfl, fun h => absurd rfl h, fun _ => rfl, fun _ => rfl⟩

theorem SlotSound.amend {x y : Slot} {c : Coverage} (h : SlotSound x c) (hxy : Amends x y) (hv : x.state ≠ .vacant)
    (hl : y.lost = true → c.runs = []) : SlotSound y c := by
  have hvy : y.state ≠ .vacant := by
    obtain he | ⟨-, hy | hy⟩ := hxy.state
    · rwa [he]
    · simp [hy]
    · simp [hy]
  refine ⟨?_, ?_, fun hc => absurd hc hvy, fun _ => ?_, fun hq => h.unqueued (by rw [← hxy.queued.1, hq]), hl⟩
  · rw [hxy.width, hxy.height]; exact h.cursor
  · rw [hxy.width, hxy.height]; exact h.runs
  · rw [hxy.width, hxy.height, hxy.pitch]; exact h.dims hv

/-- The record of an accepted descriptor (R12, R16). -/
theorem slotSound_described {d : Descriptor} (h : FieldsInRange d) : SlotSound d.toSlot ⟨0, []⟩ := by
  obtain ⟨hw, hh, hp, -⟩ := h
  refine ⟨Nat.zero_le _, trivial, fun hc => by simp [Descriptor.toSlot] at hc, fun _ => ?_, fun _ => rfl, fun _ => rfl⟩
  simp only [Descriptor.toSlot]
  omega

/-- An accepted descriptor has every field in its range (R11, R12). -/
theorem fieldsInRange_of_accepted {s : State} {n : Fin 8} {d : Descriptor} (h : s.describeRefusal n d = none) :
    FieldsInRange d := by
  unfold State.describeRefusal at h
  split_ifs at h with h1 h2
  exact (inRange_iff d).1 (by simpa using h2)

/-! ## Fill tracking (R48 to R54) -/

/-- The image index of a picture word is below W·H (R2). -/
theorem imageIndex_lt {x : Slot} {a : Nat} (h : (x.locate a).isSome = true)
    (hs : x.state ≠ .vacant → 0 < x.width ∧ 0 < x.height ∧ x.width ≤ x.pitch) : x.imageIndex a < x.width * x.height := by
  obtain ⟨⟨l, c⟩, hlc⟩ := Option.isSome_iff_exists.1 h
  obtain ⟨-, -, hl, hc⟩ := picture_of_locate hs hlc
  rw [Slot.imageIndex, hlc]
  have : (l + 1) * x.width ≤ x.height * x.width := Nat.mul_le_mul_right _ hl
  rw [Nat.add_mul, Nat.mul_comm x.height] at this
  dsimp only
  omega

/-- The coverage record the Fill Tracker leaves (R49 to R54). -/
def tracked (c : Coverage) (lost : Bool) (free i : Nat) : Coverage :=
  match fillCase c lost free i with
  | .rewrite | .untracked => c
  | .advance => absorb (c.cursor + 1) c.runs
  | .merge => { c with runs := mergeRuns i c.runs }
  | .extend => { c with runs := extendRuns i c.runs }
  | .newRun => { c with runs := insertRun i c.runs }
  | .lost => { c with runs := [] }

/-- The free entries the Fill Tracker leaves (R50, R52, R53, R54). -/
def freeAfter (c : Coverage) (lost : Bool) (free i : Nat) : Nat :=
  match fillCase c lost free i with
  | .rewrite | .untracked | .extend => free
  | .advance => free + (c.runs.length - (absorb (c.cursor + 1) c.runs).runs.length)
  | .merge => free + 1
  | .newRun => free - 1
  | .lost => free + c.runs.length

theorem completeSlot_fill (s : State) (n : Fin 8) : (s.completeSlot n).fill = s.fill := by
  simp only [State.completeSlot]; split <;> simp

theorem advanceCursor_fill (s : State) (n : Fin 8) : (s.advanceCursor n).fill
    = { cover := s.fill.cover.set n (absorb ((s.cover n).cursor + 1) (s.cover n).runs)
        free := s.fill.free
          + ((s.cover n).runs.length - (absorb ((s.cover n).cursor + 1) (s.cover n).runs).runs.length) } := by
  simp only [State.advanceCursor]
  split
  · rw [completeSlot_fill]; rfl
  · rfl

/-- What the Fill Tracker leaves in its block (R48). -/
theorem recordFill_fill (s : State) (n : Fin 8) (i : Nat) :
    (∀ m, (s.recordFill n i).cover m
        = if m = n then tracked (s.cover n) (s.slot n).lost s.fill.free i else s.cover m)
      ∧ (s.recordFill n i).fill.free = freeAfter (s.cover n) (s.slot n).lost s.fill.free i := by
  have hkept (m : Fin 8) : s.cover m = if m = n then s.cover n else s.cover m := by split <;> simp [*]
  cases hc : fillCase (s.cover n) (s.slot n).lost s.fill.free i with
  | rewrite | untracked =>
    simp only [State.recordFill, tracked, freeAfter, hc]
    exact ⟨hkept, by simp⟩
  | advance =>
    have hf := advanceCursor_fill s n
    simp only [State.recordFill, tracked, freeAfter, hc]
    exact ⟨fun m => (cover_congr (s := s.setFill _) hf m).trans (s.cover_setFill n m _ _), by rw [hf]⟩
  | merge | newRun =>
    simp only [State.recordFill, tracked, freeAfter, hc]
    exact ⟨fun m => s.cover_setFill n m _ _, rfl⟩
  | extend =>
    simp only [State.recordFill, tracked, freeAfter, hc]
    exact ⟨fun m => s.cover_setCover n m _, rfl⟩
  | lost =>
    simp only [State.recordFill, tracked, freeAfter, hc]
    exact ⟨fun m => by rw [State.cover_of_raise, State.setSlot_cover, State.cover_freeRuns], rfl⟩

/-- The premises of the cases of R48 that change runs beyond the cursor. -/
structure BeyondCursor (c : Coverage) (lost : Bool) (i : Nat) : Prop where
  beyond : c.cursor < i
  kept : lost = false
  outside : inSomeRun c.runs i = false

/-- Which premises the case of R48 stands for. -/
theorem fillCase_spec (c : Coverage) (lost : Bool) (free i : Nat) :
    match fillCase c lost free i with
    | .rewrite | .untracked => True
    | .advance => i = c.cursor
    | .merge => BeyondCursor c lost i ∧ endsAt c.runs i = true ∧ startsAbove c.runs i = true
    | .extend => BeyondCursor c lost i ∧ (endsAt c.runs i && startsAbove c.runs i) = false
    | .newRun => BeyondCursor c lost i ∧ endsAt c.runs i = false ∧ startsAbove c.runs i = false ∧ free ≠ 0
    | .lost => True := by
  unfold fillCase
  by_cases h1 : i < c.cursor
  · simp [h1]
  by_cases h2 : i = c.cursor
  · simp [h2]
  cases h3 : lost
  case true => simp [h1, h2]
  cases h4 : inSomeRun c.runs i
  case true => simp [h1, h2]
  have hb : BeyondCursor c false i := ⟨by omega, rfl, h4⟩
  cases h5 : endsAt c.runs i <;> cases h6 : startsAbove c.runs i <;> simp [h1, h2, hb]
  by_cases h7 : free = 0 <;> simp [h7]

/-- The Fill Tracker keeps a queued slot's coverage sound, and its runs and the free entries in sum (R46, R47). -/
theorem SlotSound.tracked {x : Slot} {c : Coverage} {free i : Nat} (h : SlotSound x c) (hq : x.state.queued = true)
    (hi : i < x.width * x.height) : SlotSound x (tracked c x.lost free i)
      ∧ freeAfter c x.lost free i + (tracked c x.lost free i).runs.length = free + c.runs.length := by
  have hunq {r : List Run} : x.state.queued = false → r = [] := fun hn => by simp [hq] at hn
  have hspec := fillCase_spec c x.lost free i
  have hwith (r : List Run) (hr : runsBetween (x.width * x.height) c.cursor r) (hl : x.lost = false) :
      SlotSound x { c with runs := r } :=
    ⟨h.cursor, hr, h.vacant, h.dims, hunq, fun hc => by simp [hl] at hc⟩
  unfold Safety.tracked freeAfter
  cases hc : fillCase c x.lost free i <;> simp only [hc] at hspec ⊢
  case rewrite | untracked => exact ⟨h, trivial⟩
  case advance =>
    obtain ⟨h1, h2, h3⟩ := absorb_sound (lo := c.cursor) (by omega) h.runs
    refine ⟨⟨h1, h2, h.vacant, h.dims, hunq, fun hl => ?_⟩, by omega⟩
    exact List.eq_nil_of_length_eq_zero (Nat.le_zero.1 (by simpa [h.lost hl] using h3))
  case merge =>
    obtain ⟨hb, he, hs⟩ := hspec
    obtain ⟨h1, h2⟩ := mergeRuns_sound h.runs he hs
    exact ⟨hwith _ h1 hb.kept, by omega⟩
  case extend =>
    obtain ⟨hb, hone⟩ := hspec
    exact ⟨hwith _ (extendRuns_sound h.runs hb.beyond hi hb.outside hone) hb.kept, by simp [extendRuns]⟩
  case newRun =>
    obtain ⟨hb, he, hs, hf⟩ := hspec
    obtain ⟨h1, h2⟩ := insertRun_sound h.runs hb.beyond hi hb.outside he hs
    exact ⟨hwith _ h1 hb.kept, by omega⟩
  case lost => exact ⟨h.withoutRuns, by simp⟩

/-! ## The moves -/

theorem CoverageFacts.reset {t : State} (hs : t.slots = SlotTable.reset) (hf : t.fill = FillTracker.reset) :
    CoverageFacts t := by
  have hslot (n : Fin 8) : t.slot n = Slot.cleared := by simp [State.slot, hs, SlotTable.reset]
  have hcover (n : Fin 8) : t.cover n = ⟨0, []⟩ := by simp [State.cover, hf, FillTracker.reset]
  exact ⟨fun n => by rw [hslot, hcover]; exact slotSound_cleared, by simp [runsHeld, hcover, hf, FillTracker.reset, Config.poolEntries]⟩

/-- The exposing slot leaves the queue: its runs are back in the pool (R8, R9). -/
theorem CoverageFacts.departed {s t : State} (h : CoverageFacts s) {n : Fin 8} (hv : (s.slot n).state ≠ .vacant)
    (hq : LeftQueue s t n) (hx : (t.slot n).state = .exposed ∨ (t.slot n).state = .faulted)
    (hg : (t.slot n).base = (s.slot n).base ∧ (t.slot n).width = (s.slot n).width
      ∧ (t.slot n).height = (s.slot n).height ∧ (t.slot n).pitch = (s.slot n).pitch) : CoverageFacts t := by
  obtain ⟨-, -, hcover, hfree, hother⟩ := hq
  obtain ⟨-, hw, hh, hp⟩ := hg
  have hvt : (t.slot n).state ≠ .vacant := by obtain hx | hx := hx <;> simp [hx]
  refine h.change n hother ?_ (by simp [hcover, hfree])
  rw [hcover]
  refine ⟨?_, trivial, fun hc => absurd hc hvt, fun _ => ?_, fun _ => rfl, fun _ => rfl⟩
  · rw [hw, hh]; exact (h.sound n).cursor
  · rw [hw, hh, hp]; exact (h.sound n).dims hv

/-- A VACANT slot held no runs, and takes a fresh coverage record (R16, R60). -/
theorem CoverageFacts.described {s t : State} (h : CoverageFacts s) {n : Fin 8} {d : Descriptor}
    (hdescribed : Described s t n d) : CoverageFacts t := by
  obtain ⟨-, hd, hs, hf, -⟩ := hdescribed
  obtain ⟨ha1, -, -, ha4, ha5⟩ := acceptSlot_slots s n d
  have hruns : (s.cover n).runs = [] := (h.sound n).unqueued (by rw [vacant_of_accepted hd]; rfl)
  have hslot (m : Fin 8) := (slot_congr hs m).trans (ha1 m)
  have hcover (m : Fin 8) := (cover_congr hf m).trans (ha4 m)
  refine h.change n (fun m hm => ⟨by rw [hslot, if_neg hm], by rw [hcover, if_neg hm]⟩) ?_
    (by rw [hf, ha5, hcover, if_pos rfl, hruns])
  rw [hslot, if_pos rfl, hcover, if_pos rfl]
  exact slotSound_described (fieldsInRange_of_accepted hd)

/-- Every move keeps the coverage records sound. -/
theorem coverageFacts_move {s t : State} (hq : QueueFacts s) (h : CoverageFacts s) (hm : Move s t) :
    CoverageFacts t := by
  have hexposing {n : Fin 8} (hn : s.engine.slot = some n) : (s.slot n).state ≠ .vacant := by
    simp [(hq.exposing n).2 hn]
  cases hm with
  | engine hs hf he => exact h.same hs hf
  | amend n x hs hf he hn hx hl =>
    have hslot (m : Fin 8) : t.slot m = if m = n then x else s.slot m := by rw [slot_congr hs, State.slot_setSlot]
    refine h.change n (fun m hm => ⟨by rw [hslot, if_neg hm], cover_congr hf m⟩) ?_ (by rw [hf, cover_congr hf])
    rw [hslot, if_pos rfl, cover_congr hf]
    exact (h.sound n).amend hx (hn.elim id hexposing) fun hlx => (hl hlx).elim (h.sound n).lost id
  | freed n hs hf he =>
    have hcover (m : Fin 8) := (cover_congr hf m).trans (s.cover_freeRuns n m)
    refine h.change n (fun m hm => ⟨slot_congr hs m, by rw [hcover, if_neg hm]⟩) ?_ (by rw [hf, hcover]; simp)
    rw [slot_congr hs, hcover, if_pos rfl]
    exact (h.sound n).withoutRuns
  | tracked n a hqueued ha hs hf he =>
    obtain ⟨hc, hfree⟩ := recordFill_fill s n ((s.slot n).imageIndex a)
    have hcover (m : Fin 8) := (cover_congr hf m).trans (hc m)
    obtain ⟨h1, h2⟩ := (h.sound n).tracked (free := s.fill.free) hqueued (imageIndex_lt ha (h.sound n).dims)
    refine h.change n (fun m hm => ⟨slot_congr hs m, by rw [hcover, if_neg hm]⟩) ?_ ?_
    · rw [slot_congr hs, hcover, if_pos rfl]; exact h1
    · rw [hf, hfree, hcover, if_pos rfl]; exact h2
  | withdrawn n hx hs hf he =>
    obtain ⟨hw1, -, -, hw4, hw5⟩ := withdraw_slots s n
    have hslot (m : Fin 8) := (slot_congr hs m).trans (hw1 m)
    have hcover (m : Fin 8) := (cover_congr hf m).trans (hw4 m)
    refine h.change n (fun m hm => ⟨by rw [hslot, if_neg hm], by rw [hcover, if_neg hm]⟩) ?_
      (by rw [hf, hw5, hcover, if_pos rfl]; rfl)
    rw [hslot, if_pos rfl, hcover, if_pos rfl]
    exact slotSound_cleared
  | released n hx hs hf he =>
    obtain ⟨hv1, -, -, hv4, hv5⟩ := vacate_slots s n
    have hruns : (s.cover n).runs = [] :=
      (h.sound n).unqueued (by obtain hx | hx := hx <;> simp [hx, SlotState.queued])
    have hslot (m : Fin 8) := (slot_congr hs m).trans (hv1 m)
    have hcover (m : Fin 8) := (cover_congr hf m).trans (hv4 m)
    refine h.change n (fun m hm => ⟨by rw [hslot, if_neg hm], by rw [hcover, if_neg hm]⟩) ?_
      (by rw [hf, hv5, hcover, if_pos rfl, hruns])
    rw [hslot, if_pos rfl, hcover, if_pos rfl]
    exact slotSound_cleared
  | started n hw hh hn hs hf he =>
    have hqueued : (s.slot n).state.queued = true := (hq.mem n).1 (List.mem_of_head? hh)
    have hv : (s.slot n).state ≠ .vacant := fun hc => by simp [hc, SlotState.queued] at hqueued
    have hslot (m : Fin 8) : t.slot m = if m = n then { s.slot n with state := .exposing } else s.slot m := by
      rw [slot_congr hs, State.slot_setSlot]
    refine h.change n (fun m hm => ⟨by rw [hslot, if_neg hm], cover_congr hf m⟩) ?_ (by rw [hf, cover_congr hf])
    rw [hslot, if_pos rfl, cover_congr hf]
    have hn := h.sound n
    exact ⟨hn.cursor, hn.runs, by simp, fun _ => hn.dims hv, by simp [SlotState.queued], hn.lost⟩
  | departed n hn hl hx hg he => exact h.departed (hexposing hn) hl hx hg
  | reset hs hf he => exact .reset hs hf

theorem coverageFacts_moves {s t : State} (hq : QueueFacts s) (h : CoverageFacts s) (hm : Moves s t) :
    CoverageFacts t := by
  induction hm with
  | refl => exact h
  | tail hsteps hstep ih => exact coverageFacts_move (queueFacts_moves hq hsteps) ih hstep

/-- Settles O53: every step is a chain of moves or accepts a descriptor, and each of these keeps the coverage records
sound and the run entries at 48. -/
theorem coverageStaysSound : Obligations.CoverageStaysSound := by
  unfold Obligations.CoverageStaysSound
  intro s t hq h hstep
  rw [coverageSound_iff] at h ⊢
  cases step_moves hstep with
  | moves hm => exact coverageFacts_moves (queueMatches_iff.1 hq) h hm
  | described n d hd => exact h.described hd

end Sys2Proof.Safety
end

section
/-! What a step keeps of the store's size, of RST and of an idle link: everything, but at power-on and at the two edges
of RST (R45, R150). -/

namespace Sys2Proof.Safety

open Machine

variable (s : State)

/-! ## The size of the store through the operations that touch its controller -/

@[simp] theorem abandonFetch_size : s.abandonFetch.sc.size = s.sc.size := rfl

@[simp] theorem releaseBank_size (b : Fin 2) : (s.releaseBank b).sc.size = s.sc.size := by
  simp only [State.releaseBank]
  split <;> simp

@[simp] theorem releaseBelow_size (l : Nat) (b : Fin 2) : (s.releaseBelow l b).sc.size = s.sc.size := by
  unfold State.releaseBelow
  split <;> simp

@[simp] theorem clearFeeder_size : s.clearFeeder.sc.size = s.sc.size := by simp [State.clearFeeder]

@[simp] theorem discardPrefetch_size (n : Fin 8) : (s.discardPrefetch n).sc.size = s.sc.size := by
  unfold State.discardPrefetch
  split <;> simp [State.unlockSlot]

@[simp] theorem enterStopped_size : s.enterStopped.sc.size = s.sc.size := by simp [State.enterStopped]

@[simp] theorem abortFrame_size (c : FaultCause) : (s.abortFrame c).sc.size = s.sc.size := by
  simp only [State.abortFrame]
  split
  · split <;> simp
  · rfl

@[simp] theorem chooseBank_size (n : Fin 8) (l : Nat) : (s.chooseBank n l).sc.size = s.sc.size := by
  simp only [State.chooseBank]
  split <;> simp

@[simp] theorem imageSweep_size (n : Fin 8) (l : Nat) (first out : Bool) :
    (s.imageSweep n l first out).sc.size = s.sc.size := by
  cases first <;> cases out <;> simp [State.imageSweep]

@[simp] theorem beginSweep_size (n : Fin 8) (out : Bool) : (s.beginSweep n out).sc.size = s.sc.size := by
  simp only [State.beginSweep]
  split <;> simp

@[simp] theorem startFrame_size (n : Fin 8) (out : Bool) : (s.startFrame n out).sc.size = s.sc.size := by
  simp [State.startFrame]

@[simp] theorem endFrame_size (n : Fin 8) : (s.endFrame n).sc.size = s.sc.size := by simp [State.endFrame]

@[simp] theorem nextSweep_size (n : Fin 8) (out : Bool) : (s.nextSweep n out).sc.size = s.sc.size := by
  simp only [State.nextSweep]
  split <;> simp

@[simp] theorem takePulse_size (out : Bool) : (s.takePulse out).sc.size = s.sc.size := by
  unfold State.takePulse
  repeat' split
  all_goals simp

@[simp] theorem slip_size : s.slip.sc.size = s.sc.size := by simp [State.slip]

@[simp] theorem loseLock_size : s.loseLock.sc.size = s.sc.size := by simp [State.loseLock]

@[simp] theorem applyJudgement_size (j : Judgement) : (s.applyJudgement j).sc.size = s.sc.size := by
  simp only [State.applyJudgement]
  repeat' split
  all_goals simp

@[simp] theorem arbitrate_size : s.arbitrate.sc.size = s.sc.size := by rw [State.arbitrate_sc]

@[simp] theorem endUnit_size : s.endUnit.sc.size = s.sc.size := by simp [State.endUnit]

/-! ## The relation and its steps -/

/-- The store keeps its size and RST its level, and a link that is idle in a reset stays idle. -/
structure LinkKept (s t : State) : Prop where
  size : t.sc.size = s.sc.size
  rst : t.pins.rst = s.pins.rst
  idle : s.pins.rst = true → s.queue = [] ∧ s.link.txn = none → t.queue = [] ∧ t.link.txn = none

variable {s}
variable {t : State}

theorem LinkKept.of_same (hz : t.sc.size = s.sc.size) (hp : t.pins.rst = s.pins.rst) (hq : t.queue = s.queue)
    (hl : t.link.txn = s.link.txn) : LinkKept s t :=
  ⟨hz, hp, fun _ hi => by rw [hq, hl]; exact hi⟩

theorem LinkKept.refl (s : State) : LinkKept s s := .of_same rfl rfl rfl rfl

theorem LinkKept.trans {u : State} (h : LinkKept s t) (h' : LinkKept t u) : LinkKept s u where
  size := h'.size.trans h.size
  rst := h'.rst.trans h.rst
  idle hr hi := h'.idle (h.rst.trans hr) (h.idle hr hi)

/-- The grant decision opens no transaction (R156). -/
theorem linkKept_arbitrate (s : State) : LinkKept s s.arbitrate where
  size := by simp
  rst := by simp
  idle _ hi := by
    refine ⟨by simpa using hi.1, ?_⟩
    unfold State.arbitrate State.grantTo State.readGranted
    repeat' split
    all_goals simp_all

theorem linkKept_setSc (s : State) (x : StoreController) (hx : x.size = s.sc.size) : LinkKept s (s.setSc x) :=
  .of_same hx rfl rfl rfl

theorem linkKept_setNow (s : State) (u : Tick) : LinkKept s (s.setNow u) := .of_same rfl rfl rfl rfl

theorem linkKept_storeBeat (s : State) (b : Beat) : LinkKept s (s.storeBeat b) :=
  .of_same (by simp) (by simp) (by simp) (by simp)

theorem linkKept_recordCommand (s : State) (x y : Byte) (o : CmdOutcome) : LinkKept s (s.recordCommand x y o) :=
  .of_same (by simp) (by simp) (by simp) (by simp)

theorem linkKept_endUnit (s : State) : LinkKept s s.endUnit := by
  unfold State.endUnit
  exact (linkKept_setSc s { s.sc with grant := none } rfl).trans (linkKept_arbitrate _)

theorem linkKept_after {dt : Nat} {body : State → Result} (h : s.after dt body = .next t)
    (hb : ∀ u, body u = .next t → LinkKept u t) : LinkKept s t :=
  (linkKept_setNow s _).trans (hb _ (State.after_next h).2)

theorem linkKept_atEnd {x : Option Timer} {body : State → Result} (h : s.atEnd x body = .next t)
    (hb : ∀ u, body u = .next t → LinkKept u t) : LinkKept s t := by
  obtain ⟨y, -, -, hy⟩ := State.atEnd_next h
  exact (linkKept_setNow s _).trans (hb _ hy)

/-- A placement takes a beat from the queue and leaves the link as its body does. -/
theorem linkKept_place {dt : Nat} {body : State → Beat → BeatKind → Option State} (h : s.place dt body = .next t)
    (hb : ∀ u b, body u b (u.classify b) = some t → LinkKept u t) : LinkKept s t := by
  obtain ⟨-, b, n, hold, rest, -, -, -, ht⟩ := State.place_next h
  refine LinkKept.trans ⟨?_, ?_, fun _ hi => ?_⟩ (hb _ b ht)
  · simp [State.dropBeat]
  · simp
  · simpa [State.dropBeat, State.setNow, State.setQueue, hi.1] using hi.2

theorem linkKept_runCommand {dt : Nat} {c : Cmd} {effect : State → Word → State × CmdOutcome}
    (h : s.runCommand dt c effect = .next t) (he : ∀ u w, LinkKept u (effect u w).1) : LinkKept s t := by
  refine linkKept_place h fun u b hu => ?_
  split at hu
  · split at hu
    · cases hu
      exact ((linkKept_storeBeat u b).trans (he _ _)).trans (linkKept_recordCommand _ _ _ _)
    · cases hu
  · cases hu

theorem linkKept_slotCommand {effect : State → Fin 8 → State × CmdOutcome} (h : ∀ s n, LinkKept s (effect s n).1)
    (s : State) (w : Word) : LinkKept s (slotCommand effect s w).1 := by
  unfold slotCommand
  split
  · exact .refl s
  · exact h s _

/-! ## The link's own rows -/

/-- While RST is held a header opens no transaction (R45). -/
theorem linkKept_linkHeader {dt : Nat} {w w' : Word} (h : execLinkHeader dt w w' s = .next t) : LinkKept s t := by
  refine linkKept_after h fun u hu => ?_
  dsimp only at hu
  split at hu
  · split at hu <;> cases hu
    exact .refl _
  · split at hu <;> cases hu
    · exact .of_same rfl rfl rfl rfl
    · rename_i hrst
      have hopen (v : State) : (v.openTxn w).sc.size = v.sc.size ∧ (v.openTxn w).pins = v.pins := by
        simp only [State.openTxn, State.admitNow, State.countOutOfRange]
        repeat' split
        all_goals simp [State.setTxn]
      refine ⟨(hopen _).1, by rw [(hopen _).2]; rfl, fun hr => absurd hr hrst⟩

/-- Admission needs a transaction (R29). -/
theorem linkKept_readAdmit {dt : Nat} (h : execReadAdmit dt s = .next t) : LinkKept s t := by
  refine linkKept_after h fun u hu => ?_
  repeat' split at hu
  all_goals cases hu
  exact ⟨rfl, rfl, fun _ hidle => by simp_all⟩

theorem linkKept_writeAdmit {dt : Nat} (h : execWriteAdmit dt s = .next t) : LinkKept s t := by
  refine linkKept_after h fun u hu => ?_
  repeat' split at hu
  all_goals cases hu
  exact ⟨rfl, rfl, fun _ hidle => by simp_all⟩

/-- Beats need a transaction (R31, R36). -/
theorem linkKept_writeBeat {dt : Nat} {w : Word} {en : Enables} (h : execWriteBeat dt w en s = .next t) :
    LinkKept s t := by
  refine linkKept_after h fun u hu => ?_
  split at hu
  · split at hu <;> cases hu
    exact .refl _
  · rename_i x hx
    have hopen (hz : t.sc.size = u.sc.size) (hp : t.pins.rst = u.pins.rst) : LinkKept u t :=
      ⟨hz, hp, fun _ hidle => by simp [hx] at hidle⟩
    repeat' split at hu
    all_goals cases hu
    · exact hopen rfl rfl
    · exact hopen (by simp [State.enqueueBeat, State.setTxn]) (by simp [State.enqueueBeat, State.setTxn])
    · exact hopen (by simp [State.overrunBeat]) (by simp [State.overrunBeat])

theorem linkKept_readBeat {dt : Nat} (h : execReadBeat dt s = .next t) : LinkKept s t := by
  refine linkKept_after h fun u hu => ?_
  dsimp only at hu
  split at hu
  · cases hu
  · rename_i x hx
    have hopen (hz : t.sc.size = u.sc.size) (hp : t.pins.rst = u.pins.rst) : LinkKept u t :=
      ⟨hz, hp, fun _ hidle => by simp [hx] at hidle⟩
    repeat' split at hu
    all_goals cases hu
    all_goals exact hopen (by simp [State.deliver]) (by simp [State.deliver])

/-- The words of a read segment go to an open transaction (R30). -/
theorem linkKept_readSegmentDone {dt : Nat} (h : execReadSegmentDone dt s = .next t) : LinkKept s t := by
  refine linkKept_after h fun u hu => ?_
  repeat' split at hu
  all_goals cases hu
  · refine LinkKept.trans ⟨?_, ?_, fun _ hidle => ?_⟩ (linkKept_endUnit _)
    · unfold State.fillBuffer; split <;> rfl
    · unfold State.fillBuffer; split <;> rfl
    · unfold State.fillBuffer; split <;> simp_all
  · exact linkKept_endUnit _

end Sys2Proof.Safety
end

section
/-! No command but power-on and the edges of RST changes the size of the store or RST, or wakes an idle link. -/

namespace Sys2Proof.Safety

open Machine

variable {s t : State}

theorem LinkKept.arbitrate (h : LinkKept s t) : LinkKept s t.arbitrate := h.trans (linkKept_arbitrate t)

theorem LinkKept.endUnit (h : LinkKept s t) : LinkKept s t.endUnit := h.trans (linkKept_endUnit t)

/-! ## The operations of the blocks -/

theorem linkKept_raise (s : State) (i : Source) : LinkKept s (s.raise i) :=
  .of_same (by simp) (by simp) (by simp) (by simp)

theorem linkKept_abortFrame (s : State) (c : FaultCause) : LinkKept s (s.abortFrame c) :=
  .of_same (by simp) (by simp) (by simp) (by simp)

theorem linkKept_setGate (s : State) (x : Bool) : LinkKept s (s.setGate x) := .of_same rfl rfl rfl rfl

theorem linkKept_setInterlock (s : State) (x : Bool) : LinkKept s (s.setInterlock x) := by
  rw [setInterlock_eq]
  exact .of_same rfl rfl rfl rfl

theorem linkKept_enterStopped (s : State) : LinkKept s s.enterStopped :=
  .of_same (by simp) (by simp) (by simp) (by simp)

theorem linkKept_describeSlot (s : State) (n : Fin 8) : LinkKept s (s.describeSlot n).1 := by
  obtain h | ⟨d, -, h⟩ := describeSlot_or s n
  · rw [h]; exact .refl s
  · rw [h]
    refine .of_same ?_ ?_ ?_ ?_ <;> simp [State.acceptSlot, State.joinQueue]

theorem linkKept_sealFrame (s : State) (n : Fin 8) : LinkKept s (s.sealFrame n).1 := by
  unfold State.sealFrame
  split
  · exact .of_same (by simp) (by simp) (by simp) (by simp)
  · exact .of_same (by simp) (by simp) (by simp) (by simp)
  · exact .refl s

theorem linkKept_withdrawSlot (s : State) (n : Fin 8) : LinkKept s (s.withdrawSlot n).1 := by
  have hgone : LinkKept s (((s.discardPrefetch n).leaveQueue n).vacate n) :=
    .of_same (by simp) (by simp) (by simp) (by simp)
  unfold State.withdrawSlot
  split
  · exact hgone
  · exact hgone
  · exact hgone
  · exact linkKept_abortFrame s _
  · exact .refl s

theorem linkKept_releaseSlot (s : State) (n : Fin 8) : LinkKept s (s.releaseSlot n).1 := by
  unfold State.releaseSlot
  split
  · exact .of_same (by simp) (by simp) (by simp) (by simp)
  · exact .of_same (by simp) (by simp) (by simp) (by simp)
  · exact .refl s

theorem linkKept_reloadTable (s : State) (w : Word) : LinkKept s (s.reloadTable w).1 := by
  unfold State.reloadTable
  repeat' split
  all_goals refine .of_same ?_ ?_ ?_ ?_ <;> simp [State.startReload]

theorem linkKept_runEngine (s : State) : LinkKept s s.runEngine := by
  unfold State.runEngine
  split
  · exact .of_same (by simp) (by simp) (by simp) (by simp)
  · exact .of_same rfl rfl rfl rfl

theorem linkKept_haltEngine (s : State) : LinkKept s s.haltEngine := by
  unfold State.haltEngine
  split
  · exact linkKept_enterStopped s
  all_goals exact .of_same rfl rfl rfl rfl

theorem linkKept_abortEngine (s : State) : LinkKept s s.abortEngine := by
  unfold State.abortEngine
  split
  · exact linkKept_abortFrame s _
  · exact linkKept_abortFrame s _
  · exact linkKept_enterStopped s
  · exact linkKept_enterStopped s
  · exact .refl s

theorem linkKept_scanApplied (s : State) : LinkKept s s.scanApplied.1 := by
  unfold State.scanApplied
  split
  · exact .refl s
  · exact .refl s
  · refine .of_same ?_ ?_ ?_ ?_ <;> simp [State.applyScan, State.clearScanStats]

theorem linkKept_stepMonitor (s : State) : LinkKept s s.stepMonitor := by
  unfold State.stepMonitor
  repeat' split
  all_goals exact .of_same rfl rfl rfl rfl

/-- A picture word placed (R41, R42). -/
theorem linkKept_pictureBeat (s : State) (n : Fin 8) (b : Beat) : LinkKept s (s.pictureBeat n b) := by
  simp only [State.pictureBeat]
  split
  · exact linkKept_raise s _
  · split
    · refine .of_same ?_ ?_ ?_ ?_ <;> simp [State.dropPartial]
    · refine .of_same ?_ ?_ ?_ ?_ <;>
        simp [State.convertBeat, State.startFilling, State.markSuspect, apply_ite State.sc, apply_ite State.pins,
          apply_ite State.queue, apply_ite State.link]

theorem linkKept_tableWord (s : State) (u : TableUnit) (o : Nat) (b : Beat) : LinkKept s (s.tableWord u o b) := by
  simp only [State.tableWord]
  repeat' split
  all_goals refine .of_same ?_ ?_ ?_ ?_ <;> simp [State.disturb]

/-- An accepted SOS (R90, R93). -/
theorem linkKept_acceptSos (s : State) : LinkKept s s.acceptSos := by
  simp only [State.acceptSos, State.countFacet]
  repeat' split
  all_goals refine .of_same ?_ ?_ ?_ ?_ <;> simp

theorem linkKept_takeHome (s : State) : LinkKept s s.takeHome := by
  unfold State.takeHome
  repeat' split
  all_goals refine .of_same ?_ ?_ ?_ ?_ <;> simp [State.primeFacets]

theorem linkKept_fallSilent (s : State) : LinkKept s s.fallSilent := by
  simp only [State.fallSilent]
  split
  all_goals refine .of_same ?_ ?_ ?_ ?_ <;> simp

theorem linkKept_pixelClock (s : State) : LinkKept s s.pixelClock := by
  have houtput (u : State) (r g b : Half) : LinkKept u (u.output r g b) := .of_same rfl rfl rfl rfl
  have hcount : LinkKept s s.countClock := .of_same rfl rfl rfl rfl
  unfold State.pixelClock
  split
  · have hread (l) : LinkKept s.countClock (s.countClock.checkReads l) :=
      .of_same (by simp) (by simp) (by simp) (by simp)
    have hspoil (u : State) : LinkKept u u.markSpoiled := .of_same (by simp) (by simp) (by simp) (by simp)
    simp only [State.sendPixel]
    split
    · exact ((hcount.trans (hread _)).trans (hspoil _)).trans (houtput _ _ _ _)
    · exact (hcount.trans (hread _)).trans (houtput _ _ _ _)
  · exact hcount.trans (houtput _ _ _ _)

theorem linkKept_gateFalls (s : State) : LinkKept s s.gateFalls := by
  unfold State.gateFalls
  repeat' split
  all_goals refine .of_same ?_ ?_ ?_ ?_ <;> simp

theorem linkKept_reloadWords (s : State) (u : TableUnit) (first len : Nat) :
    LinkKept s (s.reloadWords u first len) := by
  unfold State.reloadWords
  induction List.range len generalizing s with
  | nil => exact .refl s
  | cons j rest ih =>
    refine LinkKept.trans ?_ (ih _)
    dsimp only [State.reloadWord]
    split
    · exact .of_same (by simp) (by simp) (by simp) (by simp)
    · exact .refl s

/-! ## The rows of the store controller -/

theorem linkKept_feederSegmentDone {dt : Nat} (h : execFeederSegmentDone dt s = .next t) : LinkKept s t := by
  have hfetch (u : State) (f : Fetch) (len : Nat) : LinkKept u (u.advanceFetch f len) := by
    simp only [State.advanceFetch]
    split <;> exact .of_same rfl rfl rfl rfl
  have hfill (u : State) (b : Fin 2) (pos len addr : Nat) : LinkKept u (u.fillBank b pos len addr) :=
    .of_same rfl rfl rfl rfl
  refine linkKept_after h fun u hu => ?_
  repeat' split at hu
  all_goals cases hu
  · exact ((hfill _ _ _ _ _).trans (hfetch _ _ _)).trans (linkKept_endUnit _)
  · exact linkKept_endUnit _

theorem linkKept_reloadSegmentDone {dt : Nat} (h : execReloadSegmentDone dt s = .next t) : LinkKept s t := by
  have hadvance (u : State) (x : TableUnit) (len : Nat) : LinkKept u (u.advanceReload x len) := by
    simp only [State.advanceReload]
    split
    · refine .of_same ?_ ?_ ?_ ?_ <;> simp [State.endReload]
    · exact .of_same rfl rfl rfl rfl
  refine linkKept_after h fun u hu => ?_
  repeat' split at hu
  all_goals cases hu
  · exact ((linkKept_reloadWords _ _ _ _).trans (hadvance _ _ _)).trans (linkKept_endUnit _)
  · exact linkKept_endUnit _

/-! ## Every command but three -/

/-- The commands that may change the size of the store, RST and the link of a part in reset (R45, R150). -/
def edgeOfReset : Instr → Bool
  | .powerOn .. | .rstAssert .. | .rstRelease .. => true
  | _ => false

theorem exec_linkKept (i : Instr) (hi : edgeOfReset i = false) (h : exec i s = .next t) : LinkKept s t := by
  unfold exec at h
  cases i with
  | powerOn | rstAssert | rstRelease => cases hi
  | linkHeader => exact linkKept_linkHeader h
  | readAdmit => exact linkKept_readAdmit h
  | writeAdmit => exact linkKept_writeAdmit h
  | writeBeat => exact linkKept_writeBeat h
  | readBeat => exact linkKept_readBeat h
  | lselRise => exact linkKept_after h fun u hu => by cases hu; exact ⟨rfl, rfl, fun _ hidle => ⟨hidle.1, rfl⟩⟩
  | storeInitEnd | refreshDue =>
    exact linkKept_atEnd h fun u hu => by
      cases hu
      exact .arbitrate (.of_same rfl rfl rfl rfl)
  | refreshDone =>
    refine linkKept_after h fun u hu => ?_
    split at hu <;> cases hu
    exact .endUnit (.of_same rfl rfl rfl rfl)
  | readSegmentDone => exact linkKept_readSegmentDone h
  | placementUnitEnd =>
    refine linkKept_after h fun u hu => ?_
    repeat' split at hu
    all_goals cases hu
    exact linkKept_endUnit _
  | feederSegmentDone => exact linkKept_feederSegmentDone h
  | reloadSegmentDone => exact linkKept_reloadSegmentDone h
  | noEnableBeat | statusPageWrite =>
    refine linkKept_place h fun u b hu => ?_
    split at hu <;> cases hu
    exact .refl _
  | storePlainWord =>
    refine linkKept_place h fun u b hu => ?_
    split at hu <;> cases hu
    exact linkKept_storeBeat u b
  | placePictureWord =>
    refine linkKept_place h fun u b hu => ?_
    split at hu <;> cases hu
    exact LinkKept.trans (.of_same (by simp) (by simp) (by simp) (by simp)) (linkKept_pictureBeat _ _ b)
  | tableWordWrite =>
    refine linkKept_place h fun u b hu => ?_
    split at hu <;> cases hu
    exact (linkKept_storeBeat u b).trans (linkKept_tableWord _ _ _ _)
  | eventSettingsWrite =>
    refine linkKept_place h fun u b hu => ?_
    split at hu <;> cases hu
    refine (linkKept_storeBeat u b).trans (.of_same ?_ ?_ ?_ ?_) <;> simp [State.setEventWord]
  | stagingWrite | auxFunctionWrite =>
    refine linkKept_place h fun u b hu => ?_
    split at hu <;> cases hu
    all_goals exact (linkKept_storeBeat u b).trans (.of_same rfl rfl rfl rfl)
  | malformedCommand | unknownCommand =>
    refine linkKept_place h fun u b hu => ?_
    split at hu <;> cases hu
    exact (linkKept_storeBeat u b).trans (linkKept_recordCommand _ _ _ _)
  | describe => exact linkKept_runCommand h (linkKept_slotCommand linkKept_describeSlot)
  | sealSlot => exact linkKept_runCommand h (linkKept_slotCommand linkKept_sealFrame)
  | withdraw => exact linkKept_runCommand h (linkKept_slotCommand linkKept_withdrawSlot)
  | release => exact linkKept_runCommand h (linkKept_slotCommand linkKept_releaseSlot)
  | reload => exact linkKept_runCommand h linkKept_reloadTable
  | run => exact linkKept_runCommand h fun u _ => linkKept_runEngine u
  | halt => exact linkKept_runCommand h fun u _ => linkKept_haltEngine u
  | abort => exact linkKept_runCommand h fun u _ => linkKept_abortEngine u
  | scanApply => exact linkKept_runCommand h fun u _ => linkKept_scanApplied u
  | clearScanStats | monitorStop => exact linkKept_runCommand h fun u _ => .of_same rfl rfl rfl rfl
  | clearEvents =>
    refine linkKept_runCommand h fun u _ => ?_
    refine .of_same ?_ ?_ ?_ ?_ <;> simp [State.clearSticky]
  | monitorStep => exact linkKept_runCommand h fun u _ => linkKept_stepMonitor u
  | sos =>
    refine linkKept_after h fun u hu => ?_
    cases hu
    repeat' split
    · exact .refl u
    · exact .of_same rfl rfl rfl rfl
    · exact linkKept_acceptSos u
  | home =>
    refine linkKept_after h fun u hu => ?_
    cases hu
    split
    · exact .refl u
    · exact linkKept_takeHome u
  | silenceExpiry => exact linkKept_atEnd h fun u hu => by cases hu; exact linkKept_fallSilent u
  | fetchBegin =>
    refine linkKept_after h fun u hu => ?_
    split at hu <;> cases hu
    exact .arbitrate (.of_same rfl rfl rfl rfl)
  | pixelDrive dt arisen =>
    refine linkKept_after h fun u hu => ?_
    cases hu
    have harise : LinkKept u (u.arise arisen) := .of_same (by simp) (by simp) (by simp) (by simp)
    exact harise.trans (linkKept_pixelClock _)
  | gateFall =>
    refine linkKept_after h fun u hu => ?_
    cases hu
    exact (linkKept_setGate u false).trans (linkKept_gateFalls _)
  | gateRise => exact linkKept_after h fun u hu => by cases hu; exact .of_same rfl rfl rfl rfl
  | interlockOpen =>
    refine linkKept_after h fun u hu => ?_
    cases hu
    have hzero (v : State) : LinkKept v v.zeroDrives := .of_same rfl rfl rfl rfl
    exact ((linkKept_setInterlock u true).trans (hzero _)).trans (linkKept_abortFrame _ _)
  | interlockClose => exact linkKept_after h fun u hu => by cases hu; exact linkKept_setInterlock u false
  | gateReleaseExpiry =>
    refine linkKept_atEnd h fun u hu => ?_
    cases hu
    exact (linkKept_raise u _).trans (linkKept_enterStopped _)
  | donePulseEnd | pulseStretchEnd | sweepPulseEnd | frameStartPulseEnd | activityExpiry | activityBlinkToggle =>
    exact linkKept_atEnd h fun u hu => by cases hu; exact .of_same rfl rfl rfl rfl

end Sys2Proof.Safety
end

section
/-! Regions stay below CB and apart (R14): along the moves of the slot side they only disappear, and an accepted
descriptor's region is checked. -/

namespace Sys2Proof.Safety

open Machine

variable {s t : State}

/-- Every region of `t` is a region of `s`, of the same slot. -/
def RegionsFrom (s t : State) : Prop :=
  ∀ n, (t.slot n).state ≠ .vacant → (s.slot n).state ≠ .vacant ∧ (t.slot n).base = (s.slot n).base
    ∧ (t.slot n).width = (s.slot n).width ∧ (t.slot n).height = (s.slot n).height ∧ (t.slot n).pitch = (s.slot n).pitch

theorem RegionsFrom.trans {u : State} (h : RegionsFrom s t) (h' : RegionsFrom t u) : RegionsFrom s u := by
  intro n hn
  obtain ⟨h1, h2, h3, h4, h5⟩ := h' n hn
  obtain ⟨i1, i2, i3, i4, i5⟩ := h n h1
  exact ⟨i1, h2.trans i2, h3.trans i3, h4.trans i4, h5.trans i5⟩

/-- One slot changes, to a record with the same region or to a VACANT one. -/
theorem regionsFrom_change (n : Fin 8) (hother : ∀ m, m ≠ n → t.slot m = s.slot m)
    (hn : (t.slot n).state ≠ .vacant → (s.slot n).state ≠ .vacant ∧ (t.slot n).base = (s.slot n).base
      ∧ (t.slot n).width = (s.slot n).width ∧ (t.slot n).height = (s.slot n).height
      ∧ (t.slot n).pitch = (s.slot n).pitch) : RegionsFrom s t := by
  intro m hm
  by_cases h : m = n
  · subst h; exact hn hm
  · rw [hother m h] at hm ⊢; exact ⟨hm, rfl, rfl, rfl, rfl⟩

theorem regionsFrom_same (hs : t.slots = s.slots) : RegionsFrom s t :=
  fun n hn => by rw [slot_congr hs] at hn ⊢; exact ⟨hn, rfl, rfl, rfl, rfl⟩

/-- No move makes a region. -/
theorem regionsFrom_move (hq : QueueFacts s) (hm : Move s t) : RegionsFrom s t := by
  have hexposing {n : Fin 8} (hn : s.engine.slot = some n) : (s.slot n).state ≠ .vacant := by
    simp [(hq.exposing n).2 hn]
  cases hm with
  | engine hs | freed n hs | tracked n a _ _ hs => exact regionsFrom_same hs
  | amend n x hs hf he hn hx hl =>
    have hslot (m : Fin 8) : t.slot m = if m = n then x else s.slot m := by rw [slot_congr hs, State.slot_setSlot]
    refine regionsFrom_change n (fun m hm => by rw [hslot, if_neg hm]) fun _ => ?_
    rw [hslot, if_pos rfl]
    exact ⟨hn.elim id hexposing, hx.base, hx.width, hx.height, hx.pitch⟩
  | withdrawn n hx hs hf he =>
    obtain ⟨hslots, -⟩ := withdraw_slots s n
    have hslot (m : Fin 8) := (slot_congr hs m).trans (hslots m)
    exact regionsFrom_change n (fun m hm => by rw [hslot, if_neg hm]) fun hv => by simp [hslot, Slot.cleared] at hv
  | released n hx hs hf he =>
    obtain ⟨hslots, -⟩ := vacate_slots s n
    have hslot (m : Fin 8) := (slot_congr hs m).trans (hslots m)
    exact regionsFrom_change n (fun m hm => by rw [hslot, if_neg hm]) fun hv => by simp [hslot, Slot.cleared] at hv
  | started n hw hh hn hs hf he =>
    have hslot (m : Fin 8) : t.slot m = if m = n then { s.slot n with state := .exposing } else s.slot m := by
      rw [slot_congr hs, State.slot_setSlot]
    have hqueued : (s.slot n).state.queued = true := (hq.mem n).1 (List.mem_of_head? hh)
    refine regionsFrom_change n (fun m hm => by rw [hslot, if_neg hm]) fun _ => ?_
    rw [hslot, if_pos rfl]
    exact ⟨fun hv => by simp [hv, SlotState.queued] at hqueued, rfl, rfl, rfl, rfl⟩
  | departed n hn hl hx hg he =>
    obtain ⟨-, -, -, -, hother⟩ := hl
    exact regionsFrom_change n (fun m hm => (hother m hm).1) fun _ => ⟨hexposing hn, hg⟩
  | reset hs hf he =>
    intro n hn
    simp [State.slot, hs, SlotTable.reset, Slot.cleared] at hn

theorem regionsFrom_moves (hq : QueueFacts s) (hm : Moves s t) : RegionsFrom s t := by
  induction hm with
  | refl => exact regionsFrom_same rfl
  | tail hsteps hstep ih => exact ih.trans (regionsFrom_move (queueFacts_moves hq hsteps) hstep)

/-- The end of a region follows from its shape (R2). -/
theorem last_congr {x y : Slot} (hb : y.base = x.base) (hw : y.width = x.width) (hh : y.height = x.height)
    (hp : y.pitch = x.pitch) : y.last = x.last := by
  simp only [Slot.last, hb, hw, hh, hp]

/-- The regions of a state with no new region, in a store of the same size, while RST keeps its level. -/
theorem regionsDisjoint_of_from (h : RegionsDisjoint s) (hr : RegionsFrom s t) (hl : LinkKept s t) :
    RegionsDisjoint t := by
  obtain ⟨hbelow, hapart, hreset⟩ := h
  have hlast (n : Fin 8) (hn : (t.slot n).state ≠ .vacant) : (t.slot n).last = (s.slot n).last := by
    obtain ⟨-, hb, hw, hh, hp⟩ := hr n hn
    exact last_congr hb hw hh hp
  refine ⟨fun n hn => ?_, fun n m hnm hn hm => ?_, fun hrst => ?_⟩
  · obtain ⟨hv, hb, hw, hh, hp⟩ := hr n hn
    rw [hlast n hn, hw, hh, hp, State.controlBase, State.storeWords, hl.size]
    exact hbelow n hv
  · rw [hlast n hn, hlast m hm, (hr n hn).2.1, (hr m hm).2.1]
    exact hapart n m hnm (hr n hn).1 (hr m hm).1
  · rw [hl.rst] at hrst
    obtain ⟨hqueue, htxn, hvacant⟩ := hreset hrst
    obtain ⟨hqueue', htxn'⟩ := hl.idle hrst ⟨hqueue, htxn⟩
    exact ⟨hqueue', htxn', fun n => by by_contra hn; exact (hr n hn).1 (hvacant n)⟩

/-- With no slot in use and RST low, or its effects in place, there is nothing to say of regions. -/
theorem regionsDisjoint_of_vacant (hv : ∀ n, (t.slot n).state = .vacant)
    (hl : t.pins.rst = true → t.queue = [] ∧ t.link.txn = none) : RegionsDisjoint t :=
  ⟨fun n hn => absurd (hv n) hn, fun n _ _ hn => absurd (hv n) hn, fun hr => ⟨(hl hr).1, (hl hr).2, hv⟩⟩

/-- An accepted region is below CB and meets no other (R14). -/
theorem fits_of_accepted {n : Fin 8} {d : Descriptor} (h : s.describeRefusal n d = none) :
    d.last < s.controlBase
      ∧ ∀ m, m ≠ n → (s.slot m).state ≠ .vacant → d.last < (s.slot m).base ∨ (s.slot m).last < d.base := by
  unfold State.describeRefusal at h
  split_ifs at h with h1 h2 h3
  simp only [not_or, not_le, State.overlapsOther, Bool.not_eq_true, List.any_eq_false] at h3
  refine ⟨h3.1, fun m hm hv => ?_⟩
  have := h3.2 m (List.mem_finRange m)
  simp [hm, hv] at this
  omega

/-- An accepted descriptor adds a region that was checked (R12, R14). -/
theorem regionsDisjoint_described (h : RegionsDisjoint s) {n : Fin 8} {d : Descriptor} (hd : Described s t n d)
    (hl : LinkKept s t) : RegionsDisjoint t := by
  obtain ⟨hbelow, hapart, hreset⟩ := h
  obtain ⟨hlast, hmeets⟩ := fits_of_accepted hd.accepted
  obtain ⟨hw, hh, hp, -⟩ := fieldsInRange_of_accepted hd.accepted
  have hslot (m : Fin 8) := (slot_congr hd.slots m).trans ((acceptSlot_slots s n d).1 m)
  have hnew : d.toSlot.last = d.last := rfl
  have hbase : t.controlBase = s.controlBase := by rw [State.controlBase, State.storeWords, hl.size]; rfl
  refine ⟨fun m hm => ?_, fun m k hmk hm hk => ?_, fun hr => ?_⟩
  · rw [hbase, hslot]
    by_cases hmn : m = n
    · rw [if_pos hmn, hnew]
      dsimp only [Descriptor.toSlot]
      omega
    · rw [hslot, if_neg hmn] at hm
      rw [if_neg hmn]
      exact hbelow m hm
  · rw [hslot] at hm hk
    rw [hslot, hslot]
    by_cases hmn : m = n
    · have hkn : k ≠ n := fun hkn => hmk (hmn.trans hkn.symm)
      rw [if_neg hkn] at hk
      rw [if_pos hmn, if_neg hkn]
      exact hmeets k hkn hk
    · rw [if_neg hmn] at hm
      rw [if_neg hmn]
      by_cases hkn : k = n
      · rw [if_pos hkn]
        exact (hmeets m hmn hm).symm
      · rw [if_neg hkn] at hk
        rw [if_neg hkn]
        exact hapart m k hmk hm hk
  · rw [hl.rst] at hr
    exact absurd (hreset hr).1 hd.queued

/-! ## Power-on and RST -/

/-- A part that was powered up has no frame (R1, R25). -/
theorem regionsDisjoint_powerUp (s : State) (straps : Straps) (gate interlock lselLow : Bool) :
    RegionsDisjoint (s.powerUp straps gate interlock lselLow).resample := by
  refine regionsDisjoint_of_vacant (fun n => ?_) fun hr => ?_
  · rw [slot_congr (s := s.powerUp straps gate interlock lselLow) (by simp)]
    simp [State.slot, State.powerUp, State.reset, SlotTable.reset, Slot.cleared]
  · simp [State.powerUp] at hr

/-- A reset bridge has no frame, no beat and no transaction (R25, R45). -/
theorem regionsDisjoint_bridgeReset (s : State) : RegionsDisjoint s.bridgeReset := by
  refine regionsDisjoint_of_vacant (fun n => ?_) fun _ => ?_
  · simp [State.slot, State.bridgeReset, State.resetEvents, State.setMonitorState, State.resetScan, State.resetControl,
      State.resetEngine, State.resetSlots, SlotTable.reset, Slot.cleared]
  · simp [State.bridgeReset, State.resetEvents, State.setMonitorState, State.resetScan, State.resetControl,
      State.resetEngine, State.resetSlots, State.resetLink, LinkPort.reset]

theorem regionsDisjoint_assert {dt : Nat} (hstep : execRstAssert dt s = .next t) : RegionsDisjoint t := by
  obtain ⟨-, hu⟩ := State.after_next hstep
  cases hu
  exact regionsDisjoint_bridgeReset _

/-- While RST was held there was no frame; the store may take another size at its release (R150). -/
theorem regionsDisjoint_release {dt : Nat} {straps : Straps} {lselLow : Bool} (h : RegionsDisjoint s)
    (hstep : execRstRelease dt straps lselLow s = .next t) : RegionsDisjoint t := by
  obtain ⟨-, -, hreset⟩ := h
  obtain ⟨-, hu⟩ := State.after_next hstep
  dsimp only at hu
  split at hu <;> cases hu
  obtain ⟨-, -, hvacant⟩ := hreset ‹_›
  refine regionsDisjoint_of_vacant (fun n => ?_) fun hr => ?_
  · rw [slot_congr (s := s) (by simp)]; exact hvacant n
  · simp at hr

/-- Settles O52: no chain of moves makes a region, an accepted one was checked against CB and the others, and the size
of the store and RST change only where no slot is in use. -/
theorem regionsStayDisjoint : Obligations.RegionsStayDisjoint := by
  unfold Obligations.RegionsStayDisjoint
  intro s t hq h hstep
  have hside := step_moves hstep
  unfold step at hstep
  split at hstep
  · cases hstep; exact h
  · rename_i i rest _
    have hqueue := queueMatches_iff.1 hq
    by_cases hi : edgeOfReset i = false
    · have hpending : LinkKept s (s.setPending rest) := .of_same rfl rfl rfl rfl
      have hlink : LinkKept s t := hpending.trans (exec_linkKept i hi hstep)
      cases hside with
      | moves hm => exact regionsDisjoint_of_from h (regionsFrom_moves hqueue hm) hlink
      | described n d hd => exact regionsDisjoint_described h hd hlink
    · have h' : RegionsDisjoint (s.setPending rest) := h
      cases i with
      | powerOn => cases hstep; exact regionsDisjoint_powerUp _ _ _ _ _
      | rstAssert => exact regionsDisjoint_assert hstep
      | rstRelease => exact regionsDisjoint_release h' hstep
      | _ => exact absurd rfl hi

end Sys2Proof.Safety
end

section
/-! DESCRIBE, refused and accepted (R11 to R16). -/

namespace Sys2Proof.Safety

open Machine

/-- A field that ends with the word. -/
theorem field_high (w : Word) (lo len : Nat) (h : lo + len = 32) : field w lo len = w.toNat / 2 ^ lo := by
  have hw : w.toNat < 2 ^ lo * 2 ^ len := by rw [← pow_add, h]; exact w.isLt
  rw [field, BitVec.extractLsb'_toNat, Nat.shiftRight_eq_div_pow, Nat.mod_eq_of_lt (Nat.div_lt_of_lt_mul hw)]

theorem field_low (w : Word) (len : Nat) : field w 0 len = w.toNat % 2 ^ len := by simp [field]

/-- The fields of a staged descriptor at their bits (section 11.3, R181). -/
theorem ofStaging_eq (w : Vector Word 7) : Descriptor.ofStaging w = {
    frame := w[0], base := w[1].toNat, width := w[2].toNat % 65536, height := w[2].toNat / 65536
    pitch := w[3].toNat % 65536, chase := w[3].toNat / 65536, selector := w[4].toNat % 4, bypass := w[4].getLsbD 8
    rep := w[4].toNat / 65536 % 8, lead := w[4].toNat / 16777216, trimR := (w[5].extractLsb' 0 16).toInt
    trimG := (w[5].extractLsb' 16 16).toInt, trimB := (w[6].extractLsb' 0 16).toInt } := by
  have hrep : field w[4] 16 3 = w[4].toNat / 65536 % 8 := by
    rw [field, BitVec.extractLsb'_toNat, Nat.shiftRight_eq_div_pow]
  simp only [Descriptor.ofStaging, field_low, field_high, hrep, signedField, Nat.reducePow, Nat.reduceAdd]

/-! ## The checks of DESCRIBE (R11) -/

variable {s : State} {n : Fin 8} {d : Descriptor}

/-- The region meets another slot's (R14). -/
theorem overlapsOther_iff : s.overlapsOther n d = true
    ↔ ∃ m, m ≠ n ∧ (s.slot m).state ≠ .vacant ∧ d.base ≤ (s.slot m).last ∧ (s.slot m).base ≤ d.last := by
  simp [State.overlapsOther, and_assoc]

/-- The region is below CB and meets no other slot's (R14). -/
theorem not_overlap_iff : ¬ (s.controlBase ≤ d.last ∨ s.overlapsOther n d = true) ↔ d.last < s.controlBase
    ∧ ∀ m, m ≠ n → (s.slot m).state ≠ .vacant → d.last < (s.slot m).base ∨ (s.slot m).last < d.base := by
  rw [not_or, not_le, overlapsOther_iff]
  refine and_congr_right fun _ => ⟨fun h m hm hv => ?_, ?_⟩
  · by_contra hc
    exact h ⟨m, hm, hv, by omega, by omega⟩
  · rintro h ⟨m, hm, hv, h1, h2⟩
    have := h m hm hv
    omega

theorem describeRefusal_busy (h : (s.slot n).state ≠ .vacant) : s.describeRefusal n d = some .busy := by
  simp [State.describeRefusal, h]

theorem describeRefusal_range (hv : (s.slot n).state = .vacant) (h : ¬ FieldsInRange d) :
    s.describeRefusal n d = some .range := by
  rw [← inRange_iff] at h
  simp [State.describeRefusal, hv, h]

/-- Past the first two checks. -/
theorem describeRefusal_inRange (hv : (s.slot n).state = .vacant) (h : FieldsInRange d) :
    s.describeRefusal n d = if s.controlBase ≤ d.last ∨ s.overlapsOther n d = true then some .overlap
      else if s.tableState d.stock.table ≠ .valid then some .table else none := by
  rw [← inRange_iff] at h
  simp [State.describeRefusal, hv, h]

/-- The table state a selector in range names (R15). -/
theorem stock_table (d : Descriptor) : d.stock.table = if d.selector = 0 then .stockA else .stockB := by
  unfold Descriptor.stock
  split <;> rfl

/-! ## The command -/

variable {dt left target : Nat} {b : Beat} {hold : Timer} {rest : List Beat}

/-- The checks run on the slots, tables and store that the command's beat found. -/
theorem describeRefusal_taken : (taken s dt b left hold rest).describeRefusal n d = s.describeRefusal n d :=
  describeRefusal_congr rfl rfl rfl n d

/-- A DESCRIBE with a slot number, refused by one of its checks. -/
theorem describe_refused {o : CmdOutcome} (h : Commanding s dt b left hold rest 0x01 n.val)
    (hr : s.describeRefusal n (Descriptor.ofStaging s.control.staging[n]) = some o) :
    ∃ t, exec (.describe dt) s = .next t ∧ Commanded s t dt b left hold rest o [] [] ∧ ReloadKept s t := by
  refine ⟨_, run_eq' h rfl ?_, refused_of o⟩
  rw [slot_cmd h _ _ n rfl]
  simp only [State.describeSlot, taken_control, describeRefusal_taken, hr]

/-- Settles O25: each clause fixes the first check that fails, and so the refusal the model computes. -/
theorem describeRefusesInOrder : Obligations.DescribeRefusesInOrder := by
  unfold Obligations.DescribeRefusesInOrder
  refine ⟨ofStaging_eq, fun _ => ⟨rfl, rfl⟩, fun dt s b left hold rest target o h hclause => ?_⟩
  obtain ⟨hrange, rfl⟩ | ⟨n, d, last, rfl, hd, hlast, hclause⟩ := hclause
  · exact ⟨_, run_eq' h rfl (slot_range h _ _ hrange), refused_of _⟩
  · have hdl : d.last = last := hlast.symm
    refine describe_refused h (hd ▸ ?_)
    obtain ⟨hv, rfl⟩ | ⟨hv, hf, rfl⟩ | ⟨hv, hf, rfl, hover⟩ | ⟨hv, hf, hbelow, hapart, htable, rfl⟩ := hclause
    · exact describeRefusal_busy hv
    · exact describeRefusal_range hv hf
    · rw [describeRefusal_inRange hv hf, if_pos]
      rwa [overlapsOther_iff, hdl]
    · rw [describeRefusal_inRange hv hf, if_neg, if_pos]
      · rwa [stock_table]
      · rw [not_overlap_iff, hdl]
        exact ⟨hbelow, hapart⟩

end Sys2Proof.Safety
end

section
/-! DESCRIBE accepted, SEAL and RELEASE (R11 to R17, R20). -/

namespace Sys2Proof.Safety

open Machine

variable {s : State} {n : Fin 8} {d : Descriptor} {dt left target : Nat} {b : Beat} {hold : Timer} {rest : List Beat}

/-- Only the slots, their coverage and the Event Unit differ. -/
def SlotsOnly (s t : State) : Prop := t = { s with slots := t.slots, fill := t.fill, events := t.events }

/-- A command whose effect is on the slots and their coverage, and on the sources it raises. -/
theorem commanded_slots {r : State} {l : List Source} (o : CmdOutcome)
    (h : SlotsOnly (taken s dt b left hold rest) r)
    (hr : Raised l s r) :
    Commanded s (r.recordCommand (b.data.extractLsb' 0 8) (b.data.extractLsb' 8 8) o) dt b left hold rest o l
      [.slots, .fill]
      ∧ ReloadKept s (r.recordCommand (b.data.extractLsb' 0 8) (b.data.extractLsb' 8 8) o) := by
  rw [SlotsOnly] at h
  rw [h] at hr ⊢
  refine commanded_of (keeps_of ?_ ?_ ?_ ?_ ?_ ?_ ?_ ?_ ?_ ?_ ?_ ?_ ?_ ?_ ?_ ?_) rfl rfl rfl rfl (fun _ => rfl) rfl hr
  all_goals simp [State.storeByte]

/-! ## DESCRIBE accepted -/

/-- Acceptance touches the slots and their coverage alone, and raises nothing (R16). -/
theorem acceptSlot_slotsOnly (s : State) (n : Fin 8) (d : Descriptor) :
    SlotsOnly s (s.acceptSlot n d) ∧ (s.acceptSlot n d).events = s.events := by
  unfold State.acceptSlot
  cases d.stock <;> exact ⟨rfl, rfl⟩

/-- A trim is clamped where it lies outside −128 to 127 (R13). -/
theorem clampTrim_ne (x : Int) : clampTrim x ≠ x ↔ x < -128 ∨ 127 < x := by
  unfold clampTrim clampInt
  omega

theorem trimsClamped_iff (d : Descriptor) : d.trimsClamped = true ↔ d.trimR < -128 ∨ 127 < d.trimR ∨ d.trimG < -128
    ∨ 127 < d.trimG ∨ d.trimB < -128 ∨ 127 < d.trimB := by
  simp only [Descriptor.trimsClamped, Bool.or_eq_true, bne_iff_ne, clampTrim_ne]
  tauto

/-- An accepted DESCRIBE (R16). -/
theorem describe_accepted (h : Commanding s dt b left hold rest 0x01 n.val) (hd : d = Descriptor.ofStaging s.control.staging[n])
    (hr : s.describeRefusal n d = none) : ∃ t, exec (.describe dt) s = .next t
      ∧ Commanded s t dt b left hold rest (if d.trimsClamped then .doneClamped else .done) [] [.slots, .fill]
      ∧ ReloadKept s t ∧ OtherSlotsKept n s t ∧ t.slot n = d.toSlot ∧ t.cover n = ⟨0, []⟩ ∧ t.fill.free = s.fill.free
      ∧ t.slots.queue = s.slots.queue ++ [n] ∧ ∀ y, t.users y = if y = d.stock then s.users y + 1 else s.users y := by
  obtain ⟨hslot, hqueue, husers, hcover, hfree⟩ := acceptSlot_slots (taken s dt b left hold rest) n d
  obtain ⟨honly, hevents⟩ := acceptSlot_slotsOnly (taken s dt b left hold rest) n d
  obtain ⟨hcommanded, hreload⟩ := commanded_slots (if d.trimsClamped then .doneClamped else .done) honly (raised_nil hevents)
  refine ⟨_, run_eq' h rfl ?_, hcommanded, hreload, fun m hm => ?_, ?_, ?_, ?_, ?_, fun y => ?_⟩
  · rw [slot_cmd h _ _ n rfl]
    simp only [State.describeSlot, taken_control, ← hd, describeRefusal_taken, hr]
  · simp [hslot, hcover, hm]
  · simp [hslot]
  · simp [hcover]
  · simp [hfree]
  · simp [hqueue]
  · simp [husers]

/-- Settles O26: the premises are the checks of DESCRIBE passed, and the record named is the one acceptance writes. -/
theorem describeAcceptsTheStagedFrame : Obligations.DescribeAcceptsTheStagedFrame := by
  unfold Obligations.DescribeAcceptsTheStagedFrame
  intro dt s b left hold rest n x w tr tg tb h hw htr htg htb hx hv hrange hbelow hapart htable
  generalize hd : Descriptor.ofStaging w = d
  have hfields := hd.symm.trans (ofStaging_eq w)
  have hclamped : d.trimsClamped = decide (tr < -128 ∨ 127 < tr ∨ tg < -128 ∨ 127 < tg ∨ tb < -128 ∨ 127 < tb) := by
    rw [Bool.eq_iff_iff, trimsClamped_iff, decide_eq_true_iff, hfields, htr, htg, htb]
  have hslot : d.toSlot = x := by
    rw [hx, Descriptor.toSlot, hclamped]
    subst hfields htr htg htb
    rfl
  have hinRange : FieldsInRange d := by
    subst hx hfields
    simp only [FieldsInRange] at hrange ⊢
    omega
  have hstock : x.stock = d.stock := by rw [← hslot]; rfl
  have hlast : d.last = x.base + (x.height - 1) * x.pitch + x.width - 1 := by rw [← hslot]; rfl
  have hbase : x.base = d.base := by rw [← hslot]; rfl
  have hnone : s.describeRefusal n d = none := by
    rw [describeRefusal_inRange hv hinRange, if_neg, if_neg]
    · rw [not_not, ← hstock]
      cases hs : x.stock <;> (rw [hs] at htable; exact htable)
    · rw [not_overlap_iff, hlast, ← hbase]
      exact ⟨hbelow, hapart⟩
  have hdone := describe_accepted h (by rw [← hd, hw]) hnone
  rwa [hslot, ← hstock, show d.trimsClamped = x.trimClamped by rw [hclamped, hx]] at hdone

/-! ## SEAL and RELEASE -/

/-- A slot command refused for its target or by its slot's state (R147). -/
theorem slotCommand_refused {op : Nat} {c : Cmd} {effect : State → Fin 8 → State × CmdOutcome} {o : CmdOutcome}
    (h : Commanding s dt b left hold rest op target) (hc : Cmd.ofOpcode op = some c)
    (hr : 7 < target ∧ o = .range ∨ ∃ n : Fin 8, target = n.val
      ∧ effect (taken s dt b left hold rest) n = (taken s dt b left hold rest, o)) :
    ∃ t, s.runCommand dt c (slotCommand effect) = .next t ∧ Commanded s t dt b left hold rest o [] []
      ∧ ReloadKept s t := by
  refine ⟨_, run_eq' h hc ?_, refused_of o⟩
  obtain ⟨hrange, rfl⟩ | ⟨n, hn, heffect⟩ := hr
  · exact slot_range h _ _ hrange
  · rw [slot_cmd h _ _ n hn, heffect]

/-- The record of a sealed slot (R17, R59). -/
def sealed (s : State) (n : Fin 8) : State :=
  ((s.freeRuns n).setSlot n { s.slot n with state := .ready, sealed := true }).raise .slotReady

theorem sealFrame_accepted (h : (s.slot n).state = .opened ∨ (s.slot n).state = .filling) :
    s.sealFrame n = (sealed s n, .done) := by
  unfold State.sealFrame
  obtain h | h := h <;> rw [h] <;> rfl

theorem sealFrame_refused (ho : (s.slot n).state ≠ .opened) (hf : (s.slot n).state ≠ .filling) :
    s.sealFrame n = (s, .state) := by
  unfold State.sealFrame
  split
  · exact absurd ‹_› ho
  · exact absurd ‹_› hf
  · rfl

theorem releaseSlot_accepted (h : (s.slot n).state = .exposed ∨ (s.slot n).state = .faulted) :
    s.releaseSlot n = (s.vacate n, .done) := by
  unfold State.releaseSlot
  obtain h | h := h <;> rw [h]

theorem releaseSlot_refused (he : (s.slot n).state ≠ .exposed) (hf : (s.slot n).state ≠ .faulted) :
    s.releaseSlot n = (s, .state) := by
  unfold State.releaseSlot
  split
  · exact absurd ‹_› he
  · exact absurd ‹_› hf
  · rfl

/-- SEAL accepted (R17, R59). -/
theorem seal_accepted (h : Commanding s dt b left hold rest 0x02 n.val)
    (hx : (s.slot n).state = .opened ∨ (s.slot n).state = .filling) : ∃ t, exec (.sealSlot dt) s = .next t
      ∧ Commanded s t dt b left hold rest .done [.slotReady] [.slots, .fill] ∧ ReloadKept s t
      ∧ OtherSlotsKept n s t ∧ t.slot n = { s.slot n with state := .ready, sealed := true }
      ∧ t.cover n = { s.cover n with runs := [] } ∧ t.fill.free = s.fill.free + (s.cover n).runs.length
      ∧ t.slots.queue = s.slots.queue ∧ ∀ y, t.users y = s.users y := by
  have honly : SlotsOnly (taken s dt b left hold rest) (sealed (taken s dt b left hold rest) n) := rfl
  have hraised : Raised [.slotReady] s (sealed (taken s dt b left hold rest) n) := raised_cons (raised_nil rfl) _
  obtain ⟨hcommanded, hreload⟩ := commanded_slots .done honly hraised
  refine ⟨_, run_eq' h rfl ?_, hcommanded, hreload, fun m hm => ?_, ?_, ?_, ?_, ?_, fun y => ?_⟩
  · rw [slot_cmd h _ _ n rfl]
    exact sealFrame_accepted hx
  · simp [sealed, State.slot_setSlot, State.cover_freeRuns, hm]
  · simp [sealed]
  · simp [sealed, State.cover_freeRuns]
  · simp [sealed]
  · simp [sealed]
  · simp [sealed]

/-- RELEASE accepted (R1, R20). -/
theorem release_accepted (h : Commanding s dt b left hold rest 0x04 n.val)
    (hx : (s.slot n).state = .exposed ∨ (s.slot n).state = .faulted) : ∃ t, exec (.release dt) s = .next t
      ∧ Commanded s t dt b left hold rest .done [] [.slots, .fill] ∧ ReloadKept s t ∧ OtherSlotsKept n s t
      ∧ t.slot n = Slot.cleared ∧ (t.cover n).cursor = 0 ∧ t.fill.free = s.fill.free
      ∧ t.slots.queue = s.slots.queue ∧ ∀ y, t.users y = s.users y := by
  obtain ⟨hslot, hqueue, husers, hcover, hfree⟩ := vacate_slots (taken s dt b left hold rest) n
  have honly : SlotsOnly (taken s dt b left hold rest) ((taken s dt b left hold rest).vacate n) := rfl
  obtain ⟨hcommanded, hreload⟩ := commanded_slots .done honly (raised_nil rfl)
  refine ⟨_, run_eq' h rfl ?_, hcommanded, hreload, fun m hm => ?_, ?_, ?_, ?_, ?_, fun y => ?_⟩
  · rw [slot_cmd h _ _ n rfl]
    exact releaseSlot_accepted hx
  · simp [hslot, hcover, hm]
  · simp [hslot]
  · simp [hcover]
  · simp [hfree]
  · simp [hqueue]
  · simp [husers]

/-- Settles O27: each command's clauses are the cases of its slot's state. -/
theorem sealAndReleaseMoveTheSlot : Obligations.SealAndReleaseMoveTheSlot := by
  unfold Obligations.SealAndReleaseMoveTheSlot
  refine ⟨fun dt s b left hold rest target h => ⟨fun hrange => ?_, fun n hn => ⟨fun hx => ?_, fun ho hf => ?_⟩⟩,
    fun dt s b left hold rest target h => ⟨fun hrange => ?_, fun n hn => ⟨fun hx => ?_, fun he hf => ?_⟩⟩⟩
  · exact slotCommand_refused h rfl (.inl ⟨hrange, rfl⟩)
  · exact seal_accepted (hn ▸ h) hx
  · exact slotCommand_refused h rfl (.inr ⟨n, hn, sealFrame_refused ho hf⟩)
  · exact slotCommand_refused h rfl (.inl ⟨hrange, rfl⟩)
  · exact release_accepted (hn ▸ h) hx
  · exact slotCommand_refused h rfl (.inr ⟨n, hn, releaseSlot_refused he hf⟩)

end Sys2Proof.Safety
end

section
/-! WITHDRAW (R10, R18, R19, R118). -/

namespace Sys2Proof.Safety

open Machine

variable {s t : State} {n : Fin 8} {dt left target : Nat} {b : Beat} {hold : Timer} {rest : List Beat}

/-! ## A discarded prefetch (R118) -/

/-- A placement unit is no fetch segment, so giving up the fetch leaves it (R120). -/
theorem dropFetch_placement (h : s.sc.grant = some ⟨.placement left, hold⟩) :
    (s.mapUnit GrantUnit.dropFetch).sc = s.sc := by
  have hsame : s.sc.grant.map (fun g => { g with unit := g.unit.dropFetch }) = s.sc.grant := by rw [h]; rfl
  exact congrArg (fun g => { s.sc with grant := g }) hsame

/-- A placement unit holds the store, so no fetch segment does. -/
theorem fetchDisowned_of_placement (h : t.sc.grant = some ⟨.placement left, hold⟩) : FetchDisowned t := by
  intro g hg b pos len addr wanted hu
  rw [h] at hg
  cases hg
  cases hu

/-- A prefetch of slot `n` while the engine waits (R118). -/
def Prefetched (s : State) (n : Fin 8) : Prop := s.engine.state = .waiting ∧ ∃ k, ∃ x ∈ (s.bank k).tag, x.1 = n

/-- The prefetch of a slot is discarded where there is one (R118). -/
theorem discardPrefetch_cases (s : State) (n : Fin 8) :
    Prefetched s n ∧ s.discardPrefetch n = (s.unlockSlot n).clearFeeder ∨ ¬ Prefetched s n ∧ s.discardPrefetch n = s := by
  have hiff : Prefetched s n ↔ s.engine.state = .waiting
      ∧ ([(0 : Fin 2), 1].any fun b => (s.bank b).tag.any (fun t => t.1 == n)) = true := by
    simp [Prefetched, Fin.exists_fin_two, Option.any_eq_true]
  unfold State.discardPrefetch
  split
  · exact .inl ⟨hiff.2 ‹_›, rfl⟩
  · exact .inr ⟨fun hp => ‹¬ _› (hiff.1 hp), rfl⟩

/-- A discarded prefetch changes the fetch line of its slot alone in the Slot Table (R118). -/
theorem discardPrefetch_slots (s : State) (n : Fin 8) : (∀ m, m ≠ n → (s.discardPrefetch n).slot m = s.slot m)
    ∧ ((s.discardPrefetch n).slot n).stock = (s.slot n).stock
    ∧ (s.discardPrefetch n).slots.queue = s.slots.queue ∧ ∀ y, (s.discardPrefetch n).users y = s.users y := by
  obtain ⟨-, h⟩ | ⟨-, h⟩ := discardPrefetch_cases s n
  · have hslots : (s.discardPrefetch n).slots = (s.unlockSlot n).slots := by rw [h]; simp
    refine ⟨fun m hm => ?_, ?_, by rw [hslots]; rfl, fun y => ?_⟩
    · rw [slot_congr hslots, State.unlockSlot, State.slot_setSlot, if_neg hm]
    · rw [slot_congr hslots, State.unlockSlot, State.slot_setSlot, if_pos rfl]
    · rw [users_congr hslots, State.unlockSlot, State.users_setSlot]
  · rw [h]; exact ⟨fun _ _ => rfl, rfl, rfl, fun _ => rfl⟩

/-- Only the slots, their coverage and the Line Feeder change where a placement unit holds the store (R118). -/
theorem discardPrefetch_sc (s : State) (n : Fin 8) (h : s.sc.grant = some ⟨.placement left, hold⟩) :
    (s.discardPrefetch n).sc = s.sc := by
  obtain ⟨-, hd⟩ | ⟨-, hd⟩ := discardPrefetch_cases s n
  · have hg : (s.unlockSlot n).sc.grant = some ⟨.placement left, hold⟩ := h
    rw [hd, clearFeeder_sc, dropFetch_placement hg]
    rfl
  · rw [hd]

/-- What the withdrawal of a frame not yet exposing leaves of the feeder (R118). -/
theorem discardPrefetch_feeder (s : State) (n : Fin 8) :
    (Prefetched s n → FeederCleared s (s.discardPrefetch n)) ∧ (¬ Prefetched s n → (s.discardPrefetch n).feeder = s.feeder) := by
  obtain ⟨hp, h⟩ | ⟨hp, h⟩ := discardPrefetch_cases s n
  · refine ⟨fun _ => ?_, fun hn => absurd hp hn⟩
    rw [h]
    exact feederCleared_congr (clearFeeder_spec (s.unlockSlot n)) rfl rfl (clearFeeder_spec _).2.2.2
  · exact ⟨fun hy => absurd hy hp, fun _ => by rw [h]⟩

/-! ## The command -/

/-- A withdrawn frame (R10, R18). -/
def withdrawn (s : State) (n : Fin 8) : State := ((s.discardPrefetch n).leaveQueue n).vacate n

theorem withdrawSlot_removes (h : (s.slot n).state = .opened ∨ (s.slot n).state = .filling ∨ (s.slot n).state = .ready) :
    s.withdrawSlot n = (withdrawn s n, .done) := by
  unfold State.withdrawSlot
  obtain h | h | h := h <;> rw [h] <;> rfl

theorem withdrawSlot_refused
    (h : (s.slot n).state = .vacant ∨ (s.slot n).state = .exposed ∨ (s.slot n).state = .faulted) :
    s.withdrawSlot n = (s, .state) := by
  unfold State.withdrawSlot
  obtain h | h | h := h <;> rw [h]

theorem withdrawSlot_aborts (h : (s.slot n).state = .exposing) :
    s.withdrawSlot n = (s.abortFrame .withdrawn, .done) := by
  unfold State.withdrawSlot
  rw [h]

/-- WITHDRAW of a frame not yet exposing (R10, R18, R118). -/
theorem withdraw_removes (h : Commanding s dt b left hold rest 0x03 n.val)
    (hx : (s.slot n).state = .opened ∨ (s.slot n).state = .filling ∨ (s.slot n).state = .ready) : ∃ t,
      exec (.withdraw dt) s = .next t
        ∧ Commanded s t dt b left hold rest .done [] [.slots, .fill, .feeder] ∧ ReloadKept s t
        ∧ OtherSlotsKept n s t ∧ t.slot n = Slot.cleared ∧ t.cover n = ⟨0, []⟩
        ∧ t.fill.free = s.fill.free + (s.cover n).runs.length
        ∧ t.slots.queue = s.slots.queue.filter (fun m => m != n)
        ∧ (∀ y, t.users y = if y = (s.slot n).stock then s.users y - 1 else s.users y)
        ∧ (s.engine.state = .waiting → (∃ k, ∃ x ∈ (s.bank k).tag, x.1 = n) → FeederCleared s t)
        ∧ (s.engine.state ≠ .waiting ∨ (∀ k, ∀ x ∈ (s.bank k).tag, x.1 ≠ n) → t.feeder = s.feeder) := by
  have hgrant : (taken s dt b left hold rest).sc.grant = some ⟨.placement left, hold⟩ := rfl
  have heffect : (taken s dt b left hold rest).withdrawSlot n = (withdrawn (taken s dt b left hold rest) n, .done) :=
    withdrawSlot_removes hx
  have hrun := run_eq' h rfl ((slot_cmd h State.withdrawSlot _ n rfl).trans heffect)
  obtain ⟨hdslot, hdstock, hdqueue, hdusers⟩ := discardPrefetch_slots (taken s dt b left hold rest) n
  obtain ⟨hslot, hqueue, husers, hcover, hfree⟩ := withdraw_slots ((taken s dt b left hold rest).discardPrefetch n) n
  obtain ⟨hcleared, hkept⟩ := discardPrefetch_feeder (taken s dt b left hold rest) n
  have hfeeder : (withdrawn (taken s dt b left hold rest) n).feeder
      = ((taken s dt b left hold rest).discardPrefetch n).feeder := by simp [withdrawn]
  have hsc : (withdrawn (taken s dt b left hold rest) n).sc = (taken s dt b left hold rest).sc := by
    simp only [withdrawn, State.vacate_frame, State.leaveQueue_frame, discardPrefetch_sc _ n hgrant]
  have hcommanded : Commanded s ((withdrawn (taken s dt b left hold rest) n).recordCommand (b.data.extractLsb' 0 8)
        (b.data.extractLsb' 8 8) .done) dt b left hold rest .done [] [.slots, .fill, .feeder]
      ∧ ReloadKept s ((withdrawn (taken s dt b left hold rest) n).recordCommand (b.data.extractLsb' 0 8)
        (b.data.extractLsb' 8 8) .done) := by
    refine commanded_of (keeps_of ?_ ?_ ?_ ?_ ?_ ?_ ?_ ?_ ?_ ?_ ?_ ?_ ?_ ?_ ?_ ?_) ?_ hsc ?_ ?_ ?_ ?_ (raised_nil ?_)
    case refine_7 => exact .inr hsc
    all_goals simp [withdrawn]
  refine ⟨_, hrun, hcommanded.1, hcommanded.2, fun m hm => ?_, ?_, ?_, ?_, ?_, fun y => ?_, fun hw hp => ?_, fun hp => ?_⟩
  · simp [withdrawn, hslot, hcover, hm, hdslot]
  · simp [withdrawn, hslot]
  · simp [withdrawn, hcover]
  · simp [withdrawn, hfree]
  · simp [withdrawn, hqueue, hdqueue]
  · simp [withdrawn, husers, hdstock, hdusers]
  · have hheld : (withdrawn (taken s dt b left hold rest) n).sc.grant = some ⟨.placement left, hold⟩ := by rw [hsc]; rfl
    exact feederCleared_congr (hcleared ⟨hw, hp⟩) rfl (by simp [hfeeder])
      (fetchDisowned_of_placement (left := left) (hold := hold) (by simpa using hheld))
  · have hnot : ¬ Prefetched (taken s dt b left hold rest) n := by
      rintro ⟨hw, k, x, hx, hn⟩
      exact hp.elim (fun hp => hp hw) fun hp => hp k x hx hn
    simp [hfeeder, hkept hnot]

/-- `Raised` looks at the Event Unit of its first state alone. -/
theorem raised_from {u : State} {l : List Source} (h : Raised l s t) (he : u.events = s.events) : Raised l u t := by
  obtain ⟨h1, h2, h3, h4, h5⟩ := h
  refine ⟨h1, fun i hi => ?_, by rw [he, h3], by rw [he, h4], by rw [he, h5]⟩
  rw [stuck_congr he, he]
  exact h2 i hi

/-- The sources an abort raises, after the report of the sweep it cuts (R126, R180). -/
theorem Aborted.raised {c : FaultCause} {l : List Source} (h : Aborted s t n c l) :
    Raised (.frameFault :: l) (reported s t.now) t := by
  obtain ⟨-, -, -, -, -, -, hraised⟩ := h
  exact hraised

/-- WITHDRAW of the exposing frame (R9, R19). -/
theorem withdraw_aborts (h : Commanding s dt b left hold rest 0x03 n.val) (hx : (s.slot n).state = .exposing)
    (hs : s.engine.slot = some n) (he : s.expo = true) : ∃ t, exec (.withdraw dt) s = .next t
      ∧ Recorded s t dt b left hold rest .done [.slots, .fill, .engine, .feeder, .drive] ∧ ReloadKept s t
      ∧ Aborted s t n .withdrawn [.commandDone] := by
  have hgrant : (taken s dt b left hold rest).sc.grant = some ⟨.placement left, hold⟩ := rfl
  have heffect : (taken s dt b left hold rest).withdrawSlot n
      = ((taken s dt b left hold rest).abortFrame .withdrawn, .done) := withdrawSlot_aborts hx
  have hrun := run_eq' h rfl ((slot_cmd h State.withdrawSlot _ n rfl).trans heffect)
  obtain ⟨haborted, hkeeps, hnow, hsc, -⟩ := abortFrame_spec (a := taken s dt b left hold rest) (c := .withdrawn) he hs
  rw [dropFetch_placement hgrant] at hsc
  generalize (taken s dt b left hold rest).abortFrame .withdrawn = r at hrun haborted hkeeps hnow hsc
  obtain ⟨hcontrol, hstore, hpower, hqueue⟩ : r.control = s.control
      ∧ (∀ cell, r.storeByte cell = (taken s dt b left hold rest).storeByte cell) ∧ r.powerOns = s.powerOns
      ∧ r.queue = rest :=
    ⟨hkeeps .control (by decide), hkeeps .store (by decide), hkeeps .powerOns (by decide), hkeeps .queue (by decide)⟩
  refine ⟨_, hrun, recorded_of (fun k hk => ?_) hnow hsc hqueue hpower hstore (by rw [hcontrol]), ?_, ?_⟩
  · by_cases hk' : k = .sc
    · subst hk'; exact hsc
    · refine hkeeps k ?_
      simp only [abortBlocks, List.mem_cons, List.not_mem_nil, or_false] at hk ⊢
      tauto
  · constructor <;> simp [State.recordCommand, hcontrol]
  · have hfrom : Raised [.frameFault] (reported s r.now) r := raised_from haborted.raised rfl
    refine aborted_congr haborted rfl rfl rfl rfl (by simp) (by simp) (by simp) (by simp) (by simp) ?_ (.inl (by simp))
    refine raised_mem (raised_from (raised_record hfrom _ _ _) (by simp)) fun i => ?_
    simp only [List.mem_cons, List.not_mem_nil, or_false]
    tauto

/-- Settles O28: the clauses are the cases of the slot's state. -/
theorem withdrawRemovesOrAborts : Obligations.WithdrawRemovesOrAborts := by
  unfold Obligations.WithdrawRemovesOrAborts
  refine fun dt s b left hold rest target h => ⟨fun hrange => ?_, fun n hn => ⟨fun hx => ?_, fun hx => ?_, fun hx => ?_⟩⟩
  · exact slotCommand_refused h rfl (.inl ⟨hrange, rfl⟩)
  · exact slotCommand_refused h rfl (.inr ⟨n, hn, withdrawSlot_refused hx⟩)
  · exact withdraw_removes (hn ▸ h) hx
  · exact withdraw_aborts (hn ▸ h) hx

end Sys2Proof.Safety
end

section
/-! The abort triggers that are no commands (R101, R126 to R128). -/

namespace Sys2Proof.Safety

open Machine

variable {s t u a : State} {n : Fin 8} {c : FaultCause} {l l' : List Source}

/-! ## Sources raised one after the other -/

/-- Sources raised at one tick, in two steps. -/
theorem raised_append (h : Raised l s u) (h' : Raised l' u t) (hn : t.now = u.now) : Raised (l' ++ l) s t := by
  obtain ⟨h1, h2, h3, h4, h5⟩ := h
  obtain ⟨i1, i2, i3, i4, i5⟩ := h'
  refine ⟨fun i hi => ?_, fun i hi => ?_, i3.trans h3, i4.trans h4, i5.trans h5⟩
  · by_cases hl : i ∈ l'
    · exact i1 i hl
    · rw [(i2 i hl).1, (i2 i hl).2, hn]
      exact h1 i ((List.mem_append.1 hi).resolve_left hl)
  · rw [List.mem_append, not_or] at hi
    rw [(i2 i hi.1).1, (i2 i hi.1).2]
    exact h2 i hi.2

/-- What a report makes of the envelope follows from the sweep and the envelope before it (R180). -/
theorem activityAfter_congr (hd : a.drive.sweep = s.drive.sweep) (he : a.events.activity = s.events.activity) (v : Tick) :
    activityAfter a v = activityAfter s v := by
  unfold activityAfter
  rw [hd, he]

/-- Sources raised before the report of a sweep, seen after it. -/
theorem raised_reported (h : Raised l s a) (hd : a.drive.sweep = s.drive.sweep) (v : Tick) :
    Raised l (reported s v) (reported a v) := by
  obtain ⟨h1, h2, h3, h4, h5⟩ := h
  exact ⟨h1, h2, h3, h4, activityAfter_congr hd h5 v⟩

/-- A change of the scanner's state in two states with the same scanner state, settings and events (R102, R173). -/
theorem setScanState_events_congr (hs : a.scan.state = s.scan.state) (he : a.events = s.events)
    (hc : a.control = s.control) (x : ScanState) : (a.setScanState x).events = (s.setScanState x).events := by
  have hmode : a.mode .scanUnlocked = s.mode .scanUnlocked := by unfold State.mode; rw [hc]
  unfold State.setScanState State.levelFrom
  have hunlocked (y : State) : (y.setScan { y.scan with state := x }).raw .scanUnlocked = x.unlocked := rfl
  have hkept (y : State) : (y.setScan { y.scan with state := x }).mode .scanUnlocked = y.mode .scanUnlocked := rfl
  rw [hunlocked, hunlocked, hkept, hkept, hmode, hs]
  split <;> simp [State.stick, he]

/-! ## An abort from a prepared state -/

/-- The exposure of `s` goes on in `a`, with the listed sources raised. -/
structure Prepared (l : List Source) (s a : State) : Prop where
  slots : a.slots = s.slots
  fill : a.fill = s.fill
  feeder : a.feeder = s.feeder
  engine : a.engine = s.engine
  sc : a.sc = s.sc
  sweep : a.drive.sweep = s.drive.sweep
  raised : Raised l s a

theorem mapUnit_sc_congr (h : a.sc = s.sc) (f : GrantUnit → GrantUnit) : (a.mapUnit f).sc = (s.mapUnit f).sc := by
  simp [State.mapUnit, h]

/-- An abort trigger that finds the exposure of `s` aborts it (R126). -/
theorem aborted_of_prepared (h : Prepared l s a) (he : s.expo = true) (hs : s.engine.slot = some n) (c : FaultCause) :
    Aborted s (a.abortFrame c) n c l ∧ (a.abortFrame c).sc = (s.mapUnit GrantUnit.dropFetch).sc := by
  have hexpo : a.expo = true := by unfold State.expo; rw [h.engine]; exact he
  obtain ⟨haborted, -, hnow, hsc, -⟩ := abortFrame_spec (c := c) hexpo (by rw [h.engine]; exact hs)
  refine ⟨aborted_congr haborted h.slots.symm h.fill.symm (by rw [h.feeder]) h.engine.symm rfl rfl rfl rfl rfl ?_ (.inl rfl),
    hsc.trans (mapUnit_sc_congr h.sc _)⟩
  exact raised_append (raised_reported h.raised h.sweep _) haborted.raised hnow

/-- In LEADING and IMAGING EXPO is up (R105). -/
theorem leading_or_imaging (he : s.expo = true) : s.engine.state = .leading ∨ s.engine.state = .imaging := by
  revert he
  unfold State.expo
  cases s.engine.state <;> simp

/-- A stopped engine takes no pulse (R110). -/
theorem takePulse_of_stopped (h : s.engine.state = .stopped) (out : Bool) : s.takePulse out = s := by
  unfold State.takePulse
  rw [h]

theorem Aborted.stopped (h : Aborted s t n c l) : t.engine.state = .stopped := by
  obtain ⟨-, -, -, hengine, -⟩ := h
  rw [hengine]

/-! ## GATE and INTERLOCK (R127 to R129) -/

/-- What an abort keeps, in a state that differs from `s` in the pins, the drives and the events. -/
theorem keeps_abortFrame (h1 : a.pending = s.pending) (h2 : a.powerOns = s.powerOns) (h3 : a.link = s.link)
    (h4 : a.queue = s.queue) (h5 : a.store = s.store) (h6 : a.control = s.control) (h7 : a.scan = s.scan)
    (h8 : a.monitor = s.monitor) (c : FaultCause) : Keeps (.pins :: abortBlocks) s (a.abortFrame c) := by
  refine keeps_of ?_ ?_ ?_ ?_ ?_ ?_ ?_ ?_ ?_ ?_ ?_ ?_ ?_ ?_ ?_ ?_
  case refine_6 => exact .inr fun cell => storeByte_of (by simp [h5]) (by simp [h2]) cell
  all_goals simp [abortBlocks, *]

/-- GATE falls in an exposure (R129). -/
theorem gateFall_aborts {dt : Nat} (he : s.expo = true) (hs : s.engine.slot = some n)
    (hm : s.mayReach (s.now + dt) = true) : ∃ t, exec (.gateFall dt) s = .next t ∧ t.now = s.now + dt
      ∧ Keeps (.pins :: abortBlocks) s t ∧ t.pins = { s.pins with gate := false } ∧ Aborted s t n .gateLost []
      ∧ FetchDropped s t := by
  have hrun : exec (.gateFall dt) s = .next ((s.setNow (s.now + dt)).setGate false).gateFalls :=
    s.after_of_mayReach dt (fun s => .next (s.setGate false).gateFalls) hm
  have hprepared : Prepared [] s ((s.setNow (s.now + dt)).setGate false) := ⟨rfl, rfl, rfl, rfl, rfl, rfl, raised_nil rfl⟩
  have hfalls : ((s.setNow (s.now + dt)).setGate false).gateFalls
      = ((s.setNow (s.now + dt)).setGate false).abortFrame .gateLost := by
    unfold State.gateFalls
    rw [hprepared.engine]
    obtain hx | hx := leading_or_imaging he <;> rw [hx]
  have hpins : ((s.setNow (s.now + dt)).setGate false).pins = { s.pins with gate := false } := rfl
  have hnow : ((s.setNow (s.now + dt)).setGate false).now = s.now + dt := rfl
  have hkeeps := keeps_abortFrame (s := s) (a := (s.setNow (s.now + dt)).setGate false) rfl rfl rfl rfl rfl rfl rfl rfl
    .gateLost
  rw [hfalls] at hrun
  generalize (s.setNow (s.now + dt)).setGate false = a at *
  obtain ⟨haborted, hsc⟩ := aborted_of_prepared hprepared he hs .gateLost
  exact ⟨_, hrun, by simpa using hnow, hkeeps, by simpa using hpins, haborted, fetchDropped_of hsc⟩

/-- INTERLOCK_OPEN follows the input from the state it finds (R173). -/
theorem setInterlock_events_congr (hp : a.pins.interlock = s.pins.interlock) (he : a.events = s.events)
    (hc : a.control = s.control) (x : Bool) : (a.setInterlock x).events = (s.setInterlock x).events := by
  have hmode : a.mode .interlockOpen = s.mode .interlockOpen := by unfold State.mode; rw [hc]
  unfold State.setInterlock State.levelFrom
  have hraw (y : State) : (y.setPins { y.pins with interlock := x }).raw .interlockOpen = x := rfl
  have hkept (y : State) : (y.setPins { y.pins with interlock := x }).mode .interlockOpen = y.mode .interlockOpen := rfl
  rw [hraw, hraw, hkept, hkept, hmode, hp]
  split <;> simp [State.stick, he]

/-- INTERLOCK opens in an exposure (R128). -/
theorem interlockOpen_aborts {dt : Nat} (he : s.expo = true) (hs : s.engine.slot = some n)
    (hm : s.mayReach (s.now + dt) = true) : ∃ t, exec (.interlockOpen dt) s = .next t ∧ t.now = s.now + dt
      ∧ Keeps (.pins :: abortBlocks) s t ∧ t.pins = { s.pins with interlock := true }
      ∧ Aborted (s.setInterlock true) t n .interlock [] ∧ FetchDropped s t := by
  have hrun : exec (.interlockOpen dt) s
      = .next (((s.setNow (s.now + dt)).setInterlock true).zeroDrives.abortFrame .interlock) :=
    s.after_of_mayReach dt (fun s => .next ((s.setInterlock true).zeroDrives.abortFrame .interlock)) hm
  have hevents := setInterlock_events_congr (s := s) (a := s.setNow (s.now + dt)) rfl rfl rfl true
  have hprepared : Prepared [] (s.setInterlock true) ((s.setNow (s.now + dt)).setInterlock true).zeroDrives := by
    constructor
    case raised => exact raised_nil hevents
    all_goals simp [State.zeroDrives]
  have hkeeps : Keeps (.pins :: abortBlocks) s
      (((s.setNow (s.now + dt)).setInterlock true).zeroDrives.abortFrame .interlock) := by
    apply keeps_abortFrame <;> simp [State.zeroDrives]
  have hpins : ((s.setNow (s.now + dt)).setInterlock true).zeroDrives.pins = { s.pins with interlock := true } := by
    rw [setInterlock_eq]; rfl
  have hnow : ((s.setNow (s.now + dt)).setInterlock true).zeroDrives.now = s.now + dt := by simp [State.zeroDrives]
  generalize ((s.setNow (s.now + dt)).setInterlock true).zeroDrives = a at *
  obtain ⟨haborted, hsc⟩ := aborted_of_prepared hprepared (n := n) (by simpa using he) (by simpa using hs) .interlock
  exact ⟨_, hrun, by simpa using hnow, hkeeps, by simpa using hpins, haborted,
    fetchDropped_of (hsc.trans (mapUnit_sc_congr (by simp) _))⟩

end Sys2Proof.Safety
end

section
/-! Aborts that come from the Scan Timing Unit (R92, R95, R99, R101). -/

namespace Sys2Proof.Safety

open Machine

variable {s t u a : State} {n : Fin 8} {c : FaultCause} {l : List Source}

/-- Only the tick and the scan unit differ, and the scanner is in the same state. -/
structure Onward (s u : State) : Prop where
  slots : u.slots = s.slots
  fill : u.fill = s.fill
  feeder : u.feeder = s.feeder
  engine : u.engine = s.engine
  sc : u.sc = s.sc
  drive : u.drive = s.drive
  events : u.events = s.events
  control : u.control = s.control
  scanState : u.scan.state = s.scan.state

theorem Onward.setScan (h : Onward s u) (x : ScanUnit) (hx : x.state = u.scan.state) : Onward s (u.setScan x) :=
  { h with scanState := hx.trans h.scanState }

/-- The scanner takes a state (R102). -/
theorem Onward.prepared (h : Onward s u) (y : ScanState) : Prepared [] (s.setScanState y) (u.setScanState y) := by
  constructor
  case raised => exact raised_nil (setScanState_events_congr h.scanState h.events h.control y)
  all_goals simp [h.slots, h.fill, h.feeder, h.engine, h.sc, h.drive]

/-- Facet counting is given up (R92, R95). -/
theorem Onward.seek (h : Onward s u) : Prepared [] (s.setScanState .seeking) u.seek :=
  (h.setScan { u.scan with facet := 0, homeMark := false, inRun := 0, outRun := 0 } rfl).prepared .seeking

theorem Prepared.raise (h : Prepared l s a) (i : Source) : Prepared (i :: l) s (a.raise i) where
  slots := h.slots
  fill := h.fill
  feeder := h.feeder
  engine := h.engine
  sc := h.sc
  sweep := h.sweep
  raised := raised_cons h.raised i

/-- A change of the scan unit leaves the exposure prepared. -/
theorem Prepared.setScan (h : Prepared l s a) (x : ScanUnit) : Prepared l s (a.setScan x) where
  slots := h.slots
  fill := h.fill
  feeder := h.feeder
  engine := h.engine
  sc := h.sc
  sweep := h.sweep
  raised := raised_congr h.raised rfl rfl

/-- An abort after the scanner took state `y`. -/
theorem aborted_of_scan {y : ScanState} (h : Prepared l (s.setScanState y) a) (he : s.expo = true)
    (hs : s.engine.slot = some n) (c : FaultCause) :
    Aborted (s.setScanState y) (a.abortFrame c) n c l ∧ FetchDropped s (a.abortFrame c) := by
  obtain ⟨haborted, hsc⟩ := aborted_of_prepared h (n := n) (by simpa using he) (by simpa using hs) c
  exact ⟨haborted, fetchDropped_of (hsc.trans (mapUnit_sc_congr (by simp) _))⟩

/-- A slip aborts the frame and raises FACET_SLIP (R95, R101). -/
theorem slip_aborts (h : Onward s u) (he : s.expo = true) (hs : s.engine.slot = some n) :
    Aborted (s.setScanState .seeking) u.slip n .facetSlip [.facetSlip] ∧ FetchDropped s u.slip :=
  aborted_of_scan ((h.seek.setScan { u.seek.scan with slips := satIncr u.seek.scan.slips }).raise .facetSlip) he hs
    .facetSlip

/-- Lock loss aborts the frame (R99, R101). -/
theorem loseLock_aborts (h : Onward s u) (he : s.expo = true) (hs : s.engine.slot = some n) :
    Aborted (s.setScanState .counting) u.loseLock n .scanLost [] ∧ FetchDropped s u.loseLock :=
  aborted_of_scan ((h.setScan { u.scan with inRun := 0, outRun := 0 } rfl).prepared .counting) he hs .scanLost

/-! ## HOME and silence -/

/-- A HOME out of place (R94, R95). -/
theorem home_aborts {dt : Nat} (he : s.expo = true) (hs : s.engine.slot = some n)
    (hm : s.mayReach (s.now + dt) = true) (hr : s.pins.rst = false) (hc : s.scan.state.counts = true)
    (hp : s.scan.facet + 1 ≠ s.scan.live.facets ∨ s.scan.homeMark = true) : ∃ t, exec (.home dt) s = .next t
      ∧ Aborted (s.setScanState .seeking) t n .facetSlip [.facetSlip] ∧ FetchDropped s t := by
  have hrun : exec (.home dt) s
      = .next (if s.pins.rst then s.setNow (s.now + dt) else (s.setNow (s.now + dt)).takeHome) :=
    s.after_of_mayReach dt (fun s => .next (if s.pins.rst then s else s.takeHome)) hm
  have hplace : ¬ (s.scan.facet + 1 = s.scan.live.facets ∧ s.scan.homeMark = false) := by
    rintro ⟨h1, h2⟩
    simp [h1, h2] at hp
  have hslip : (s.setNow (s.now + dt)).takeHome = (s.setNow (s.now + dt)).slip := by
    have hscan : (s.setNow (s.now + dt)).scan = s.scan := rfl
    unfold State.takeHome
    rw [hscan, if_neg hplace]
    cases hx : s.scan.state <;> simp_all [ScanState.counts]
  rw [hr, hslip] at hrun
  exact ⟨_, hrun, slip_aborts (u := s.setNow (s.now + dt)) ⟨rfl, rfl, rfl, rfl, rfl, rfl, rfl, rfl, rfl⟩ he hs⟩

/-- Silence (R92). -/
theorem silence_aborts {t0 : Tick} (he : s.expo = true) (hs : s.engine.slot = some n) (h0 : s.scan.lastSos = some t0)
    (hm : s.mayReach (t0 + 4 * s.scan.live.period) = true) (hc : s.scan.state.counts = true) :
    ∃ t, exec .silenceExpiry s = .next t ∧ Aborted (s.setScanState .seeking) t n .scanLost [] ∧ FetchDropped s t := by
  have htimer : s.silenceTimer = some ⟨t0, 4 * s.scan.live.period⟩ := by simp [State.silenceTimer, h0]
  have hrun : exec .silenceExpiry s = .next (s.setNow (t0 + 4 * s.scan.live.period)).fallSilent := by
    have hrow : exec .silenceExpiry s = s.atEnd s.silenceTimer fun s => .next s.fallSilent := rfl
    rw [hrow, htimer]
    exact s.atEnd_of_mayReach ⟨t0, 4 * s.scan.live.period⟩ (fun s => .next s.fallSilent) hm
  have hsilent (u : State) (hu : u.scan.state.counts = true) :
      u.fallSilent = (u.setScan { u.scan with lastSos := none }).seek.abortFrame .scanLost := by
    unfold State.fallSilent
    exact if_pos hu
  have honward : Onward s (s.setNow (t0 + 4 * s.scan.live.period)) := ⟨rfl, rfl, rfl, rfl, rfl, rfl, rfl, rfl, rfl⟩
  have hcounts : (s.setNow (t0 + 4 * s.scan.live.period)).scan.state.counts = true := hc
  generalize s.setNow (t0 + 4 * s.scan.live.period) = u at *
  rw [hsilent u hcounts] at hrun
  exact ⟨_, hrun, aborted_of_scan (honward.setScan { u.scan with lastSos := none } rfl).seek he hs .scanLost⟩

/-! ## SOS -/

/-- An accepted SOS runs its row (R90). -/
theorem exec_sos {dt : Nat} (h : SosAccepted s dt) : exec (.sos dt) s = .next (s.setNow (s.now + dt)).acceptSos := by
  obtain ⟨hm, hr, hoff, hgate⟩ := h
  have hglitch : (s.setNow (s.now + dt)).isGlitch = false := by
    unfold State.isGlitch State.period
    cases h0 : s.scan.lastSos with
    | none => simp [State.setNow, h0]
    | some t0 =>
      have hlate := hgate t0 (by simp [h0])
      simp only [State.setNow, h0, Option.map_some]
      exact decide_eq_false (Nat.not_lt.2 hlate)
  have hrow : exec (.sos dt) s = .next (
      if s.pins.rst || s.scan.state == .off then s.setNow (s.now + dt)
      else if (s.setNow (s.now + dt)).isGlitch then (s.setNow (s.now + dt)).countGlitch
      else (s.setNow (s.now + dt)).acceptSos) :=
    s.after_of_mayReach dt (fun s => .next (
      if s.pins.rst || s.scan.state == .off then s else if s.isGlitch then s.countGlitch else s.acceptSos)) hm
  simpa [hr, hoff, hglitch] using hrow

/-- The state in which an accepted SOS at tick `u` is judged (R90, R91). -/
def measured (s : State) (u : Tick) : State := (s.setNow u).measure

theorem onward_measured (s : State) (v : Tick) :
    Onward s (measured s v) := ⟨rfl, rfl, rfl, rfl, rfl, rfl, rfl, rfl, rfl⟩

/-- An accepted SOS where facets are counted (R93). -/
theorem acceptSos_counts {v : Tick} (hc : s.scan.state.counts = true) :
    (s.setNow v).acceptSos = (measured s v).countFacet (s.setNow v).period := by
  have hm : (s.setNow v).measure.scan.state.counts = true := hc
  simp only [State.acceptSos, hm, if_true, measured]

/-- HOME missing is the slip of R93. -/
theorem nextFacet_none (h : HomeMissing s.scan) : s.scan.nextFacet = none := by
  obtain ⟨-, hf, hm⟩ := h
  simp [ScanUnit.nextFacet, hf, hm]

/-- With HOME not missing there is a next facet (R93). -/
theorem nextFacet_some (hs : ScanSound s) (hc : s.scan.state.counts = true) (h : ¬ HomeMissing s.scan) :
    ∃ f, s.scan.nextFacet = some f := by
  obtain ⟨-, hf, -⟩ := hs
  have hlt : s.scan.facet < s.scan.live.facets := by
    unfold facetsSound at hf
    cases hx : s.scan.state <;> simp_all [ScanState.counts]
  unfold ScanUnit.nextFacet
  by_cases hnext : s.scan.facet + 1 < s.scan.live.facets
  · exact ⟨_, if_pos hnext⟩
  · have hmark : s.scan.homeMark = true := by
      by_contra hm
      exact h ⟨hc, by omega, by simpa using hm⟩
    exact ⟨0, by rw [if_neg hnext, if_pos hmark]⟩

/-- A slip at an SOS (R93, R95). -/
theorem sos_slips {dt : Nat} (he : s.expo = true) (hs : s.engine.slot = some n) (ha : SosAccepted s dt)
    (hmiss : HomeMissing s.scan) : ∃ t, exec (.sos dt) s = .next t
      ∧ Aborted (s.setScanState .seeking) t n .facetSlip [.facetSlip] ∧ FetchDropped s t := by
  obtain ⟨haborted, hdropped⟩ := slip_aborts (onward_measured s (s.now + dt)) he hs
  have hslip : (s.setNow (s.now + dt)).acceptSos = (measured s (s.now + dt)).slip := by
    rw [acceptSos_counts hmiss.1]
    have hnone : (measured s (s.now + dt)).scan.nextFacet = none := nextFacet_none hmiss
    simp only [State.countFacet, hnone]
    exact takePulse_of_stopped haborted.stopped _
  exact ⟨_, hslip ▸ exec_sos ha, haborted, hdropped⟩

/-- The judgement of a measured period (R97). -/
theorem judge_outOfWindow {v : Tick} (h : OutOfWindow s v) :
    judge s.scan.live.period s.scan.live.window (s.setNow v).period = .outOfWindow := by
  obtain ⟨e, he, hw⟩ := h
  simp only [periodError, Option.mem_def, Option.map_eq_some_iff] at he
  obtain ⟨t0, h0, rfl⟩ := he
  have hp : (s.setNow v).period = some (v - t0) := by simp [State.period, State.setNow, h0]
  rw [hp, judge, if_neg (by omega)]

/-- In LOCKED no period was out of window (R99). -/
theorem outRun_of_locked (hs : ScanSound s) (h : s.scan.state = .locked) : s.scan.outRun = 0 := by
  obtain ⟨-, hf, -⟩ := hs
  simp only [facetsSound, h] at hf
  omega

/-- Out of window at the loss limit, the lock is lost (R99). -/
theorem applyJudgement_loses (hst : s.scan.state = .locked ∧ s.scan.outRun = 0 ∨ s.scan.state = .unsteady)
    (hl : s.scan.outRun + 1 = s.scan.live.lossLimit) : s.applyJudgement .outOfWindow = s.loseLock := by
  obtain ⟨h, h0⟩ | h := hst
  · simp only [State.applyJudgement, h]
    exact if_neg (by omega)
  · simp only [State.applyJudgement, h]
    exact if_pos (by omega)

/-- Lock loss at an SOS (R99, R101). -/
theorem sos_losesLock {dt : Nat} (he : s.expo = true) (hs : s.engine.slot = some n) (ha : SosAccepted s dt)
    (hsound : ScanSound s) (hmiss : ¬ HomeMissing s.scan) (hst : s.scan.state = .locked ∨ s.scan.state = .unsteady)
    (hw : OutOfWindow s (s.now + dt)) (hl : s.scan.outRun + 1 = s.scan.live.lossLimit) :
    ∃ t, exec (.sos dt) s = .next t ∧ t.scan.state = .counting ∧ Aborted (s.setScanState .counting) t n .scanLost []
      ∧ FetchDropped s t := by
  have hc : s.scan.state.counts = true := by obtain h | h := hst <;> rw [h] <;> rfl
  obtain ⟨f, hf⟩ := nextFacet_some hsound hc hmiss
  generalize hu : (measured s (s.now + dt)).setScan { (measured s (s.now + dt)).scan with facet := f, homeMark := false } = u
  have honward : Onward s u := by subst hu; exact ⟨rfl, rfl, rfl, rfl, rfl, rfl, rfl, rfl, rfl⟩
  obtain ⟨haborted, hdropped⟩ := loseLock_aborts honward he hs
  have hrun : s.scan.state = .locked ∧ s.scan.outRun = 0 ∨ s.scan.state = .unsteady :=
    hst.imp_left fun h => ⟨h, outRun_of_locked hsound h⟩
  have hlost : (s.setNow (s.now + dt)).acceptSos = u.loseLock := by
    have hnext : (measured s (s.now + dt)).scan.nextFacet = some f := hf
    have hjudge : judge (measured s (s.now + dt)).scan.live.period (measured s (s.now + dt)).scan.live.window
        (s.setNow (s.now + dt)).period = .outOfWindow := judge_outOfWindow hw
    rw [acceptSos_counts hc]
    simp only [State.countFacet, hnext, hjudge, hu]
    rw [applyJudgement_loses (by subst hu; exact hrun) (by subst hu; exact hl)]
    exact takePulse_of_stopped haborted.stopped _
  have hcounting (w : State) : (w.setScanState .counting).scan.state = .counting := by rw [setScanState_eq]
  exact ⟨_, hlost ▸ exec_sos ha, by simp [State.loseLock, hcounting], haborted, hdropped⟩

/-- Settles O39: each trigger finds the exposure as it was, and aborts it. -/
theorem abortTriggersFaultTheFrame : Obligations.AbortTriggersFaultTheFrame := by
  unfold Obligations.AbortTriggersFaultTheFrame
  exact fun dt s n he hs =>
    ⟨fun hm => ⟨gateFall_aborts he hs hm, interlockOpen_aborts he hs hm, fun hr hc hp => home_aborts he hs hm hr hc hp⟩,
      fun t0 h0 hm hc => silence_aborts he hs h0 hm hc, fun ha _ hmiss => sos_slips he hs ha hmiss,
      fun ha hsound hmiss hst hw hl => sos_losesLock he hs ha hsound hmiss hst hw hl⟩

end Sys2Proof.Safety
end

section
/-! The frame end (R8, R113, R129, R130). -/

namespace Sys2Proof.Safety

open Machine

variable {s t u v w : State} {n : Fin 8}

/-! ## What the Scan Timing Unit hands on -/

/-- A change of the scanner's state, or none, has happened since `s`, with SCAN_UNLOCKED following (R102). -/
structure Judged (s v : State) : Prop where
  slots : v.slots = s.slots
  fill : v.fill = s.fill
  feeder : v.feeder = s.feeder
  engine : v.engine = s.engine
  sc : v.sc = s.sc
  drive : v.drive = s.drive
  live : v.scan.live = s.scan.live
  events : v.events = (scanFollowed s v.scan.state).events

/-- The scanner's state stays. -/
theorem Onward.judged (h : Onward s v) (hl : v.scan.live = s.scan.live) : Judged s v where
  slots := h.slots
  fill := h.fill
  feeder := h.feeder
  engine := h.engine
  sc := h.sc
  drive := h.drive
  live := hl
  events := by rw [scanFollowed, if_pos h.scanState, h.events]

/-- The scanner's state changes. -/
theorem Onward.judged_change (h : Onward s v) (hl : v.scan.live = s.scan.live) {y : ScanState} (hy : y ≠ s.scan.state) :
    Judged s (v.setScanState y) where
  slots := by simp [h.slots]
  fill := by simp [h.fill]
  feeder := by simp [h.feeder]
  engine := by simp [h.engine]
  sc := by simp [h.sc]
  drive := by simp [h.drive]
  live := by rw [setScanState_eq]; exact hl
  events := by
    have hstate : (v.setScanState y).scan.state = y := by rw [setScanState_eq]
    rw [hstate, scanFollowed, if_neg hy]
    exact setScanState_events_congr h.scanState h.events h.control y

/-- Lock loss leaves COUNTING (R99). -/
theorem loseLock_state (s : State) : s.loseLock.scan.state = .counting := by
  have hcounting (w : State) : (w.setScanState .counting).scan.state = .counting := by rw [setScanState_eq]
  simp [State.loseLock, hcounting]

/-- A slip leaves SEEKING (R95). -/
theorem slip_state (s : State) : s.slip.scan.state = .seeking := by
  have hseeking (w : State) : (w.setScanState .seeking).scan.state = .seeking := by rw [setScanState_eq]
  simp [State.slip, State.seek, hseeking]

/-- What a judgement makes of a state: lock loss, or a change of the scan unit that keeps the scanner's state, or one
that takes another state (R98, R99). -/
inductive JudgedInto (w : State) : State → Prop
  | lost : JudgedInto w w.loseLock
  | stays (x : ScanUnit) (hx : x.state = w.scan.state) (hl : x.live = w.scan.live) : JudgedInto w (w.setScan x)
  | changes (x : ScanUnit) (hx : x.state = w.scan.state) (hl : x.live = w.scan.live) (y : ScanState)
      (hy : y ≠ w.scan.state) : JudgedInto w ((w.setScan x).setScanState y)

theorem applyJudgement_into (w : State) (j : Judgement) : JudgedInto w (w.applyJudgement j) := by
  unfold State.applyJudgement
  dsimp only
  split
  case h_1 hs =>
    split
    · exact .changes { w.scan with inRun := w.scan.inRun + 1 } rfl rfl .locked (by simp [hs])
    · exact .stays _ rfl rfl
  case h_2 => exact .stays _ rfl rfl
  case h_3 hs =>
    split
    · exact .changes { w.scan with outRun := 1 } rfl rfl .unsteady (by simp [hs])
    · exact .lost
  case h_4 hs => exact .changes { w.scan with outRun := 0 } rfl rfl .locked (by simp [hs])
  case h_5 =>
    split
    · exact .lost
    · exact .stays _ rfl rfl
  case h_6 => exact .stays w.scan rfl rfl

/-- A judgement that leaves the scanner locked (R98, R99). -/
theorem applyJudgement_judged (h : Onward s w) (hl : w.scan.live = s.scan.live) (j : Judgement)
    (hv : (w.applyJudgement j).scan.state = .locked ∨ (w.applyJudgement j).scan.state = .unsteady) :
    Judged s (w.applyJudgement j) := by
  have hinto := applyJudgement_into w j
  generalize w.applyJudgement j = v at hv hinto ⊢
  cases hinto with
  | lost => simp [loseLock_state] at hv
  | stays x hx hxl => exact (h.setScan x hx).judged (hxl.trans hl)
  | changes x hx hxl y hy => exact (h.setScan x hx).judged_change (hxl.trans hl) (h.scanState ▸ hy)

/-- The engine leaves the scan unit alone (R100). -/
theorem takePulse_scan (s : State) (out : Bool) : (s.takePulse out).scan = s.scan := by simp

/-- An accepted SOS that leaves the scanner locked hands the pulse to the engine (R90, R93, R100). -/
theorem acceptSos_hands_on {v : Tick}
    (ht : (s.setNow v).acceptSos.scan.state = .locked ∨ (s.setNow v).acceptSos.scan.state = .unsteady) :
    ∃ (w : State) (out : Bool), (s.setNow v).acceptSos = w.takePulse out ∧ Judged s w ∧ w.now = v := by
  cases hc : s.scan.state.counts with
  | false =>
    have hm : (s.setNow v).measure.scan.state.counts = false := hc
    have hpulse : (s.setNow v).acceptSos = (measured s v).takePulse false := by
      simp [State.acceptSos, hm, measured]
    exact ⟨_, _, hpulse, (onward_measured s v).judged rfl, rfl⟩
  | true =>
    cases hf : (measured s v).scan.nextFacet with
    | none =>
      have hslip : (s.setNow v).acceptSos = (measured s v).slip.takePulse false := by
        rw [acceptSos_counts hc]
        simp only [State.countFacet, hf]
      rw [hslip, takePulse_scan, slip_state] at ht
      simp at ht
    | some f =>
      let w := (measured s v).setScan { (measured s v).scan with facet := f, homeMark := false }
      let j := judge (measured s v).scan.live.period (measured s v).scan.live.window (s.setNow v).period
      have hpulse : (s.setNow v).acceptSos = (w.applyJudgement j).takePulse (j == .outOfWindow) := by
        rw [acceptSos_counts hc]
        simp only [State.countFacet, hf, w, j]
      rw [hpulse, takePulse_scan] at ht
      have honward : Onward s w := (onward_measured s v).setScan _ rfl
      exact ⟨_, _, hpulse, applyJudgement_judged honward rfl j ht, by simp [w, measured, State.measure]⟩

/-! ## The last sweep and the frame end -/

/-- An image line's last sweep counts as exposed (R125). -/
theorem countExposed_slots (s : State) (n : Fin 8) : (s.countExposed n).slots = (s.setSlot n { s.slot n with
    exposed := (s.slot n).exposed + (if (s.slot n).lead ≤ s.engine.sweep
      ∧ (s.engine.sweep - (s.slot n).lead) % (s.slot n).rep + 1 = (s.slot n).rep then 1 else 0) }).slots := by
  simp only [State.countExposed]
  split
  · rfl
  · exact (congrArg State.slots (setSlot_self s n)).symm

/-- The state at the end of a sweep, before the next begins (R112). -/
def sweepEnded (s : State) (n : Fin 8) : State :=
  (s.reportSweep.countExposed n).setEngine { s.engine with sweep := s.engine.sweep + 1 }

/-- The accepted SOS that would begin sweep S (R113). -/
theorem nextSweep_last {x : Slot} (hx : s.slot n = x) (h : s.engine.sweep + 1 = x.lead + x.height * x.rep) (out : Bool) :
    s.nextSweep n out = (sweepEnded s n).endFrame n := by
  have hengine : (s.reportSweep.countExposed n).engine = s.engine := by simp
  have hsweeps : ((sweepEnded s n).slot n).sweeps = x.lead + x.height * x.rep := by
    have hslot : (sweepEnded s n).slot n = (s.reportSweep.countExposed n).slot n := rfl
    rw [hslot, slot_congr (countExposed_slots _ n), State.slot_setSlot_same, ← hx]
    simp [Slot.sweeps]
  unfold State.nextSweep
  simp only [hengine]
  exact if_pos (hsweeps.symm ▸ h)

/-- In an exposure the engine takes the pulse for its slot (R112). -/
theorem takePulse_exposing (he : s.expo = true) (hs : s.engine.slot = some n) (out : Bool) :
    s.takePulse out = s.nextSweep n out := by
  unfold State.takePulse
  obtain h | h := leading_or_imaging he <;> rw [h] <;> simp only [hs]

/-- The feeder and the store at the frame end (R113, R120). -/
theorem endFrame_feeder (s : State) (n : Fin 8) :
    FeederCleared s (s.endFrame n) ∧ (s.endFrame n).sc = (s.mapUnit GrantUnit.dropFetch).sc := by
  have hsc : (s.endFrame n).sc = (s.mapUnit GrantUnit.dropFetch).sc := by
    simp [State.endFrame, clearFeeder_sc]
    exact mapUnit_sc_congr (by simp) _
  refine ⟨?_, hsc⟩
  have hcleared := clearFeeder_spec ((s.leaveQueue n).setSlot n { (s.leaveQueue n).slot n with state := .exposed })
  exact feederCleared_congr hcleared (by simp) (by simp [State.endFrame]) (fetchDisowned_of hsc)

/-- The frame end raises FRAME_DONE (R113). -/
theorem endFrame_raised (s : State) (n : Fin 8) : Raised [.frameDone] s (s.endFrame n) := by
  unfold State.endFrame
  exact raised_cons (raised_nil (by simp)) _

/-- The blocks an SOS leaves whatever the engine does (R90). -/
theorem acceptSos_keeps (s : State) (v : Tick) :
    Keeps (.scan :: abortBlocks) s (s.setNow v).acceptSos ∧ (s.setNow v).acceptSos.now = v := by
  have hkept (a : State) (out : Bool) (h1 : a.pending = s.pending) (h2 : a.powerOns = s.powerOns) (h3 : a.pins = s.pins)
      (h4 : a.link = s.link) (h5 : a.queue = s.queue) (h6 : a.store = s.store) (h7 : a.control = s.control)
      (h8 : a.monitor = s.monitor) : Keeps (.scan :: abortBlocks) s (a.takePulse out) := by
    refine keeps_of ?_ ?_ ?_ ?_ ?_ ?_ ?_ ?_ ?_ ?_ ?_ ?_ ?_ ?_ ?_ ?_
    case refine_6 => exact .inr fun cell => storeByte_of (by simp [h6]) (by simp [h2]) cell
    all_goals simp [abortBlocks, *]
  simp only [State.acceptSos, State.countFacet]
  split
  · split
    · exact ⟨by apply hkept <;> simp, by simp⟩
    · exact ⟨by apply hkept <;> simp, by simp⟩
  · exact ⟨by apply hkept <;> simp, by simp⟩

/-- A departure seen from a state in which the slot's record differs in other fields than its set. -/
theorem leftQueue_from (h : LeftQueue u t n) (hother : ∀ m, m ≠ n → u.slot m = s.slot m)
    (hstock : (u.slot n).stock = (s.slot n).stock) (hqueue : u.slots.queue = s.slots.queue)
    (husers : ∀ y, u.users y = s.users y) (hf : u.fill = s.fill) : LeftQueue s t n := by
  obtain ⟨h1, h2, h3, h4, h5⟩ := h
  refine ⟨by rw [h1, hqueue], fun y => by rw [h2, hstock, husers], by rw [h3, cover_congr hf], ?_, fun m hm => ?_⟩
  · rw [h4, hf, cover_congr hf]
  · rw [(h5 m hm).1, (h5 m hm).2, hother m hm, cover_congr hf]
    exact ⟨rfl, rfl⟩

/-- SCAN_UNLOCKED leaves the drives and the activity envelope (R102, R180). -/
theorem scanFollowed_kept (s : State) (x : ScanState) :
    (scanFollowed s x).drive = s.drive ∧ (scanFollowed s x).events.activity = s.events.activity := by
  unfold scanFollowed
  split
  · exact ⟨rfl, rfl⟩
  · exact ⟨by simp, by rw [setScanState_events]⟩

/-- The events after a report follow from the events and the sweep (R180). -/
theorem reported_events_congr (he : w.events = u.events) (hd : w.drive = u.drive) (v : Tick) :
    (reported u v).events = (reported w v).events := by
  simp only [reported, he, activityAfter_congr (a := w) (s := u) (by rw [hd]) (by rw [he]) v]

/-- The slots at the end of the last sweep (R125). -/
theorem sweepEnded_slots (h : Judged s w) (n : Fin 8) :
    (∀ m, (sweepEnded w n).slot m = if m = n then { s.slot n with
        exposed := (s.slot n).exposed + (if (s.slot n).lead ≤ s.engine.sweep
          ∧ (s.engine.sweep - (s.slot n).lead) % (s.slot n).rep + 1 = (s.slot n).rep then 1 else 0) } else s.slot m)
      ∧ (sweepEnded w n).slots.queue = s.slots.queue ∧ ∀ y, (sweepEnded w n).users y = s.users y := by
  have hslots : (sweepEnded w n).slots = _ := countExposed_slots w.reportSweep n
  have hreport (m : Fin 8) : w.reportSweep.slot m = s.slot m := slot_congr (by simp [h.slots]) m
  have hengine : w.reportSweep.engine = s.engine := by simp [h.engine]
  refine ⟨fun m => ?_, ?_, fun y => ?_⟩
  · rw [slot_congr hslots, State.slot_setSlot, hreport, hreport, hengine]
  · rw [hslots, State.setSlot_queue]; simp [h.slots]
  · rw [users_congr hslots, State.users_setSlot]
    exact users_congr (by simp [h.slots]) y

/-- Settles O38: the pulse is handed on with the exposure as it was, the sweep counter reaches S, and the engine ends
the frame. -/
theorem sosEndsTheFrame : Obligations.SosEndsTheFrame := by
  unfold Obligations.SosEndsTheFrame
  intro dt s t n x ha ht he hs hx hstate hlast
  rw [exec_sos ha] at ht
  cases ht
  obtain ⟨hkeeps, hnow⟩ := acceptSos_keeps s (s.now + dt)
  obtain ⟨w, out, hpulse, hjudged, hw⟩ := acceptSos_hands_on hstate
  have hwslot : w.slot n = x := (slot_congr hjudged.slots n).trans hx.symm
  have hwe : w.expo = true := by unfold State.expo; rw [hjudged.engine]; exact he
  have hscan : (w.takePulse out).scan = w.scan := takePulse_scan w out
  have hended : w.takePulse out = (sweepEnded w n).endFrame n := by
    rw [takePulse_exposing hwe (by rw [hjudged.engine, hs]), nextSweep_last hwslot (by rw [hjudged.engine, hlast])]
  generalize (s.setNow (s.now + dt)).acceptSos = t at *
  rw [hended] at hpulse hscan
  obtain ⟨hslot, hqueue, husers⟩ := sweepEnded_slots hjudged n
  have hfill : (sweepEnded w n).fill = s.fill := by simp [sweepEnded, hjudged.fill]
  have hfeeder : (sweepEnded w n).feeder = s.feeder := by simp [sweepEnded, hjudged.feeder]
  have hsc : (sweepEnded w n).sc = s.sc := by simp [sweepEnded, hjudged.sc]
  have hevents : (sweepEnded w n).events = (reported w (s.now + dt)).events := by
    simp [sweepEnded, reportSweep_events, hw]
  have hengine : (sweepEnded w n).engine = { s.engine with sweep := x.lead + x.height * x.rep } := by
    simp [sweepEnded, hjudged.engine, hlast]
  have hlive : (sweepEnded w n).scan.live = s.scan.live := by simp [sweepEnded, hjudged.live]
  have hended_now : (sweepEnded w n).now = s.now + dt := by simp [sweepEnded, hw]
  generalize sweepEnded w n = u at *
  subst hpulse
  obtain ⟨hleft, hexposed⟩ := endFrame_slots u n
  obtain ⟨hcleared, hdropped⟩ := endFrame_feeder u n
  have hraised : Raised [.frameDone] (reported (scanFollowed s w.scan.state) (s.now + dt)) (u.endFrame n) := by
    refine raised_from (endFrame_raised u n) ?_
    rw [hevents]
    exact reported_events_congr hjudged.events (by rw [hjudged.drive, (scanFollowed_kept s _).1]) _
  refine ⟨hkeeps, ?_, ?_, ?_, ?_, ?_, ?_, ?_, ?_, ?_, ?_, ?_, ?_⟩
  · rw [hexposed, hslot, if_pos rfl, hx]
  · exact leftQueue_from hleft (fun m hm => by rw [hslot, if_neg hm]) (by rw [hslot, if_pos rfl]) hqueue husers hfill
  · exact feederCleared_congr hcleared (by rw [hfeeder]) rfl (fetchDisowned_of hdropped)
  · exact fetchDropped_of (hdropped.trans (mapUnit_sc_congr hsc _))
  · simp [State.endFrame, State.blankDrive]
  · rw [hnow, hscan]; exact hraised
  · rw [endFrame_engine, hengine, hlive, hnow, hended_now]
  · exact (hraised.1 _ (List.mem_singleton_self _)).1
  · exact (hraised.1 _ (List.mem_singleton_self _)).2
  · obtain ⟨-, -, -, -, hactivity⟩ := hraised
    obtain ⟨hdrive, hkept⟩ := scanFollowed_kept s w.scan.state
    rw [hactivity, hnow]
    exact activityAfter_congr (by rw [hdrive]) hkept _
  · simp [State.expo, endFrame_engine]
  · simp [State.done, endFrame_engine]

end Sys2Proof.Safety
end

section
/-! A picture word converted and stored (R41, R48, R69, R81). -/

namespace Sys2Proof.Safety

open Machine

variable {s t u a : State} {n : Fin 8} {i : Nat}

/-! ## The checked reads of a conversion (R163 to R166) -/

/-- Damage follows from the monitor alone. -/
theorem harmAt_congr (h : a.monitor = s.monitor) (m : Mem) (e : Nat) : a.harmAt m e = s.harmAt m e := by
  unfold State.harmAt; rw [h]

/-- A checked read raises INTEGRITY exactly where it fails (R164, R165). -/
theorem checkRead_raised (s : State) (m : Mem) (e : Nat) :
    Raised (if s.readFails m e then [.integrity] else []) s (s.checkRead m e) := by
  unfold State.checkRead State.readFails
  cases s.harmAt m e with
  | none => exact raised_nil rfl
  | some harm =>
    cases harm with
    | correctable => exact raised_nil rfl
    | uncorrectable bits => exact raised_cons (raised_nil rfl) _

/-- A checked read leaves every failing entry failing, and no other (R165). -/
theorem checkRead_readFails (s : State) (m m' : Mem) (e e' : Nat) :
    (s.checkRead m e).readFails m' e' = s.readFails m' e' := by
  unfold State.checkRead
  cases hh : s.harmAt m e with
  | none => rfl
  | some harm =>
    cases harm with
    | correctable =>
      have hkept : ((s.refreshEntry m e).setRecord m.index ((s.record m.index).addCorr (s.monitor.state == .listening) e)).harmAt m' e'
          = (s.refreshEntry m e).harmAt m' e' := rfl
      unfold State.readFails
      dsimp only
      rw [hkept, State.harmAt_refreshEntry]
      by_cases h : m' = m ∧ e' = e
      · rw [if_pos h, h.1, h.2, hh]
      · rw [if_neg h]
    | uncorrectable bits => rfl

/-- The checks of an operation raise INTEGRITY exactly where some read fails (R81, R163). -/
theorem checkReads_raised (s : State) (reads : List (Mem × Nat)) :
    Raised (if s.anyFails reads then [.integrity] else []) s (s.checkReads reads) := by
  induction reads generalizing s with
  | nil => exact raised_nil rfl
  | cons r rest ih =>
    have hrest : (s.checkRead r.1 r.2).anyFails rest = s.anyFails rest := by
      simp only [State.anyFails, checkRead_readFails]
    have hraised := raised_append (checkRead_raised s r.1 r.2) (ih (s.checkRead r.1 r.2)) (by simp)
    rw [hrest] at hraised
    refine raised_mem hraised fun i => ?_
    have hmem (p q : Bool) : i ∈ (if q then [Source.integrity] else []) ++ (if p then [.integrity] else [])
        ↔ i ∈ if p || q then [Source.integrity] else [] := by
      cases p <;> cases q <;> simp
    exact hmem _ _

/-- What the checks make of the monitor follows from the monitor (R166). -/
theorem checkReads_monitor_congr (h : a.monitor = s.monitor) (reads : List (Mem × Nat)) :
    (a.checkReads reads).monitor = (s.checkReads reads).monitor := by
  induction reads generalizing a s with
  | nil => exact h
  | cons r rest ih =>
    refine ih ?_
    have hrecord (j : Fin 8) : a.record j = s.record j := by unfold State.record; rw [h]
    dsimp only [State.checkRead]
    rw [harmAt_congr h]
    split
    · exact h
    · simp only [hrecord, State.setRecord, State.refreshEntry, State.setMonitor_monitor, h]
    · simp only [hrecord, State.setRecord, State.raise_frame, State.setMonitor_monitor, h]

/-- The checks of reads, and damage that arises, leave the monitor in its state (R167). -/
theorem checkReads_monitor (s : State) (reads : List (Mem × Nat)) :
    (s.checkReads reads).monitor.state = s.monitor.state ∧ (s.checkReads reads).monitor.first = s.monitor.first := by
  induction reads generalizing s with
  | nil => exact ⟨rfl, rfl⟩
  | cons r rest ih =>
    obtain ⟨h1, h2⟩ := ih (s.checkRead r.1 r.2)
    have hone : (s.checkRead r.1 r.2).monitor.state = s.monitor.state
        ∧ (s.checkRead r.1 r.2).monitor.first = s.monitor.first := by
      unfold State.checkRead
      split <;> exact ⟨rfl, rfl⟩
    exact ⟨h1.trans hone.1, h2.trans hone.2⟩

theorem arise_monitor (s : State) (ds : List Damage) :
    (s.arise ds).monitor.state = s.monitor.state ∧ (s.arise ds).monitor.first = s.monitor.first := by
  induction ds generalizing s with
  | nil => exact ⟨rfl, rfl⟩
  | cons d rest ih =>
    obtain ⟨h1, h2⟩ := ih (s.damageEntry d)
    have hone : (s.damageEntry d).monitor.state = s.monitor.state ∧ (s.damageEntry d).monitor.first = s.monitor.first := by
      unfold State.damageEntry
      split <;> exact ⟨rfl, rfl⟩
    exact ⟨h1.trans hone.1, h2.trans hone.2⟩

/-- Damage arises whether the beat is still queued or not (log 8). -/
theorem arise_afterTake (s : State) (v left : Nat) (hold : Timer) (rest : List Beat) (ds : List Damage) :
    (afterTake s v left hold rest).arise ds = afterTake (s.arise ds) v left hold rest := by
  induction ds generalizing s with
  | nil => rfl
  | cons d ds ih =>
    have hone : (afterTake s v left hold rest).damageEntry d = afterTake (s.damageEntry d) v left hold rest := by
      have hharm : (afterTake s v left hold rest).harmAt d.mem d.entry = s.harmAt d.mem d.entry := rfl
      unfold State.damageEntry
      rw [hharm]
      split <;> rfl
    exact (congrArg (State.arise · ds) hone).trans (ih _)

/-! ## What the Fill Tracker makes of a slot record (R48 to R56) -/

/-- Index `i` completes the frame of slot `n` (R56). -/
def Completes (s : State) (n : Fin 8) (i : Nat) : Prop :=
  i = (s.cover n).cursor ∧ (s.slot n).lost = false ∧ ((s.recordFill n i).cover n).cursor = (s.slot n).size

/-- A record after its slot's index fell into a case of R48. -/
def recorded (x : Slot) (k : FillCase) (done : Bool) : Slot :=
  { x with
    state := if done = true ∧ x.state = .filling then .ready else x.state
    complete := x.complete || done
    lost := x.lost || decide (k = .lost)
    rewrites := if k = .rewrite then satIncr x.rewrites else x.rewrites }

/-- The sources the Fill Tracker raises (R54, R56). -/
def fillSources (x : Slot) (k : FillCase) (done : Bool) : List Source :=
  (if done = true ∧ x.state = .filling then [.slotReady] else []) ++ (if k = .lost then [.coverageLost] else [])

theorem fillCase_advance (c : Coverage) (lost : Bool) (free i : Nat) :
    fillCase c lost free i = .advance ↔ i = c.cursor := by
  have hspec := fillCase_spec c lost free i
  constructor
  · intro h; simpa only [h] using hspec
  · rintro rfl; simp [fillCase]

theorem fillCase_lost {c : Coverage} {lost : Bool} {free i : Nat} (h : fillCase c lost free i = .lost) :
    lost = false := by
  unfold fillCase at h
  split_ifs at h
  simpa using ‹¬ lost = true›

/-- The frame is completed only by the index at the cursor (R56). -/
theorem completes_iff (s : State) (n : Fin 8) (i : Nat) : Completes s n i
    ↔ fillCase (s.cover n) (s.slot n).lost s.fill.free i = .advance ∧ (s.slot n).lost = false
      ∧ (absorb ((s.cover n).cursor + 1) (s.cover n).runs).cursor = (s.slot n).size := by
  unfold Completes
  rw [fillCase_advance]
  refine and_congr_right fun hi => ?_
  rw [(recordFill_fill s n i).1 n, if_pos rfl, tracked, (fillCase_advance ..).2 hi]

/-- A case that neither completes, counts a rewrite nor loses coverage leaves the record. -/
theorem recorded_kept (x : Slot) {k : FillCase} (hr : k ≠ .rewrite) (hl : k ≠ .lost) : recorded x k false = x := by
  cases x
  simp [recorded, hr, hl]

theorem fillSources_kept (x : Slot) {k : FillCase} (hl : k ≠ .lost) : fillSources x k false = [] := by
  simp [fillSources, hl]

/-- The advance of a cursor completes the frame, or leaves the Slot Table and the events (R50, R56). -/
theorem advanceCursor_record (s : State) (n : Fin 8) (done : Bool) (hd : done = true ↔ (s.slot n).lost = false
      ∧ (absorb ((s.cover n).cursor + 1) (s.cover n).runs).cursor = (s.slot n).size) :
    (s.advanceCursor n).slots = (s.setSlot n (recorded (s.slot n) .advance done)).slots
      ∧ Raised (fillSources (s.slot n) .advance done) s (s.advanceCursor n) := by
  simp only [State.advanceCursor]
  by_cases hfull : (s.slot n).lost = false
      ∧ (absorb ((s.cover n).cursor + 1) (s.cover n).runs).cursor = (s.slot n).size
  · obtain rfl : done = true := hd.2 hfull
    rw [if_pos hfull.symm]
    unfold State.completeSlot
    by_cases hx : (s.slot n).state = .filling
    · simp only [State.slot_of_setFill, hx, if_true, fillSources, and_self]
      exact ⟨by simp [recorded, hx, State.setSlot], raised_cons (raised_nil rfl) _⟩
    · simp only [State.slot_of_setFill, hx, if_false, fillSources, and_false]
      exact ⟨by simp [recorded, hx, State.setSlot], raised_nil rfl⟩
  · obtain rfl : done = false := by simpa using fun h => hfull (hd.1 h)
    rw [if_neg fun h => hfull h.symm, recorded_kept _ (by decide) (by decide), setSlot_self]
    rw [fillSources_kept _ (by decide)]
    exact ⟨rfl, raised_nil rfl⟩

/-- The record and the events after an index was recorded (R48 to R56). -/
theorem recordFill_record (s : State) (n : Fin 8) (i : Nat) {done : Bool} (hd : done = true ↔ Completes s n i) :
    (s.recordFill n i).slots
        = (s.setSlot n (recorded (s.slot n) (fillCase (s.cover n) (s.slot n).lost s.fill.free i) done)).slots
      ∧ Raised (fillSources (s.slot n) (fillCase (s.cover n) (s.slot n).lost s.fill.free i) done) s (s.recordFill n i) := by
  rw [completes_iff] at hd
  cases hc : fillCase (s.cover n) (s.slot n).lost s.fill.free i with
  | advance =>
    have hrow : s.recordFill n i = s.advanceCursor n := by simp [State.recordFill, hc]
    rw [hrow]
    exact advanceCursor_record s n done (by simpa [hc] using hd)
  | lost =>
    obtain rfl : done = false := by simpa [hc] using hd
    have hrow : s.recordFill n i = ((s.freeRuns n).setSlot n { s.slot n with lost := true }).raise .coverageLost := by
      simp [State.recordFill, hc]
    rw [hrow]
    exact ⟨by simp [recorded, State.setSlot], raised_cons (raised_nil rfl) .coverageLost⟩
  | rewrite =>
    obtain rfl : done = false := by simpa [hc] using hd
    have hrow : s.recordFill n i = s.setSlot n { s.slot n with rewrites := satIncr (s.slot n).rewrites } := by
      simp [State.recordFill, hc]
    rw [hrow]
    rw [fillSources_kept _ (by decide)]
    exact ⟨by simp [recorded], raised_nil rfl⟩
  | untracked | merge | extend | newRun =>
    obtain rfl : done = false := by simpa [hc] using hd
    rw [recorded_kept _ (by decide) (by decide), setSlot_self]
    simp only [State.recordFill, hc]
    rw [fillSources_kept _ (by decide)]
    exact ⟨by simp [State.setCover], raised_nil rfl⟩

end Sys2Proof.Safety
end

section
/-! PLACE_PICTURE_WORD, converted (R41 step 3). -/

namespace Sys2Proof.Safety

open Machine

variable {s t u a : State} {n : Fin 8} {i : Nat} {b : Beat}

/-! ## The Fill Tracker in two states with the same coverage -/

/-- What the Fill Tracker makes of its block follows from it and from LOST (R48). -/
theorem recordFill_fill_congr (hf : u.fill = s.fill) (hl : (u.slot n).lost = (s.slot n).lost) (i : Nat) :
    (u.recordFill n i).fill = (s.recordFill n i).fill := by
  have hcover (m : Fin 8) : u.cover m = s.cover m := cover_congr hf m
  have hcase : fillCase (u.cover n) (u.slot n).lost u.fill.free i = fillCase (s.cover n) (s.slot n).lost s.fill.free i := by
    rw [hcover, hl, hf]
  simp only [State.recordFill, hcase]
  split
  case h_2 => rw [advanceCursor_fill, advanceCursor_fill, hf, hcover]
  all_goals simp [State.setCover, State.freeRuns, hf, hcover]

theorem completes_congr (hf : u.fill = s.fill) (hl : (u.slot n).lost = (s.slot n).lost)
    (hz : (u.slot n).size = (s.slot n).size) (i : Nat) : Completes u n i ↔ Completes s n i := by
  unfold Completes
  rw [cover_congr hf, hl, hz, cover_congr (recordFill_fill_congr hf hl i)]

/-! ## The conversion before its index is recorded -/

/-- A conversion checks its reads, changes the record of its slot, and stores its word (R41). -/
theorem converting_eq (s : State) (n : Fin 8) (b : Beat) : ∃ x y, converting s n b
    = (((s.checkReads (beatReads s n b)).setSlot n x).setSlot n y).storeWord b.addr
        (s.convert (s.slot n).stock (s.slot n).bypass b.data) 0xF#4 := by
  have hmark (u : State) (failed : Bool) : ∃ x, u.markSuspect n failed = u.setSlot n x := by
    unfold State.markSuspect
    split
    · exact ⟨_, rfl⟩
    · exact ⟨_, (setSlot_self u n).symm⟩
  have hstart (u : State) : ∃ x, u.startFilling n = u.setSlot n x := by
    unfold State.startFilling
    split
    · exact ⟨_, rfl⟩
    · exact ⟨_, (setSlot_self u n).symm⟩
  obtain ⟨x, hx⟩ := hmark (s.checkReads (beatReads s n b)) (s.anyFails (beatReads s n b))
  obtain ⟨y, hy⟩ := hstart ((s.checkReads (beatReads s n b)).setSlot n x)
  exact ⟨x, y, by rw [converting, hx, hy]⟩

/-- What a conversion leaves (R41). -/
@[simp] theorem converting_frame (s : State) (n : Fin 8) (b : Beat) :
    (converting s n b).now = s.now ∧ (converting s n b).powerOns = s.powerOns
      ∧ (converting s n b).pending = s.pending ∧ (converting s n b).pins = s.pins ∧ (converting s n b).link = s.link
      ∧ (converting s n b).queue = s.queue ∧ (converting s n b).sc = s.sc ∧ (converting s n b).fill = s.fill
      ∧ (converting s n b).control = s.control ∧ (converting s n b).scan = s.scan
      ∧ (converting s n b).engine = s.engine ∧ (converting s n b).feeder = s.feeder
      ∧ (converting s n b).drive = s.drive := by
  obtain ⟨x, y, h⟩ := converting_eq s n b
  rw [h]
  simp

/-- The slots of a conversion but its own, the queue and the user counts (R5, R81). -/
theorem converting_slots (s : State) (n : Fin 8) (b : Beat) : (∀ m, m ≠ n → (converting s n b).slot m = s.slot m)
    ∧ (converting s n b).slots.queue = s.slots.queue ∧ ∀ y, (converting s n b).users y = s.users y := by
  obtain ⟨x, y, h⟩ := converting_eq s n b
  have hchecked : (s.checkReads (beatReads s n b)).slots = s.slots := by simp
  rw [h]
  refine ⟨fun m hm => ?_, by simp, fun z => ?_⟩
  · simp [State.slot_setSlot, hm, slot_congr hchecked]
  · simp [users_congr hchecked]

/-- The Event Unit and the monitor of a conversion are as its checks leave them (R81, R166). -/
theorem converting_checked (s : State) (n : Fin 8) (b : Beat) :
    Raised (if s.anyFails (beatReads s n b) then [.integrity] else []) s (converting s n b)
      ∧ (converting s n b).monitor = (s.checkReads (beatReads s n b)).monitor := by
  obtain ⟨x, y, h⟩ := converting_eq s n b
  rw [h]
  exact ⟨raised_congr (checkReads_raised s _) (by simp) (by simp), by simp⟩

/-- The store holds the converted word (R41, R78). -/
theorem converting_storeByte (s : State) (n : Fin 8) (b : Beat) (cell : Nat) : (converting s n b).storeByte cell
    = if cell / 4 = b.addr ∧ (0xF#4).getLsbD (cell % 4) = true
      then byteOf (s.convert (s.slot n).stock (s.slot n).bypass b.data) (cell % 4) else s.storeByte cell := by
  obtain ⟨x, y, h⟩ := converting_eq s n b
  have hkept : (((s.checkReads (beatReads s n b)).setSlot n x).setSlot n y).storeByte cell = s.storeByte cell :=
    storeByte_of (by simp) (by simp) cell
  rw [h, State.storeByte_storeWord, hkept]

/-! ## The placement -/

/-- A picture word above its slot's fetch line is not locked (R41 step 1). -/
theorem not_locks {x : Slot} {addr line column : Nat} (h : x.locate addr = some (line, column)) (hl : x.fetchLine < line) :
    x.locks addr = false := by
  simp only [Slot.locks, h]
  exact decide_eq_false (by omega)

/-- A queued slot's unlocked picture word with all enables is converted (R41). -/
theorem pictureBeat_converts {line column : Nat} (hq : (s.slot n).state.queued = true)
    (hloc : (s.slot n).locate b.addr = some (line, column)) (hl : (s.slot n).fetchLine < line) (he : b.enables = 0xF#4) :
    s.pictureBeat n b = (converting s n b).recordFill n (line * (s.slot n).width + column) := by
  simp only [State.pictureBeat, hq, not_locks hloc hl, he]
  rw [if_neg (by simp), if_neg (by simp), convertBeat_eq]
  simp only [Slot.imageIndex, hloc]

/-- The row, with the beat taken and the damage that has arisen (R34, R41, log 8). -/
theorem exec_placePictureWord {dt left line column : Nat} {arisen : List Damage} {hold : Timer} {rest : List Beat}
    (hplace : Placing s dt b left hold rest) (hr : RegionsDisjoint s) (he : b.enables = 0xF#4)
    (hp : IsPicture (s.slot n) b.addr line column) (hq : (s.slot n).state.queued = true)
    (hl : (s.slot n).fetchLine < line) : exec (.placePictureWord dt arisen) s
      = .next ((converting (afterTake (s.arise arisen) (s.now + dt) left hold rest) n b).recordFill n
          (line * (s.slot n).width + column)) := by
  obtain ⟨hbelow, -⟩ := id hr
  obtain ⟨-, -, hpitch, -⟩ := hbelow n hp.1
  have hslot : (afterTake (s.arise arisen) (s.now + dt) left hold rest).slot n = s.slot n := slot_congr (by simp [afterTake]) n
  have hconverts := pictureBeat_converts (s := afterTake (s.arise arisen) (s.now + dt) left hold rest) (b := b)
    (hslot ▸ hq) (hslot ▸ locate_of_picture hpitch hp) (hslot ▸ hl) he
  rw [hslot] at hconverts
  have hrow : exec (.placePictureWord dt arisen) s = execPlacePictureWord dt arisen s := rfl
  rw [hrow, execPlacePictureWord]
  refine place_kind hplace (classify_picture hr (by rw [he]; decide) hp) ?_
  dsimp only
  rw [arise_afterTake, hconverts]

/-- The sources of a placed picture word (R54, R56, R81). -/
def pictureSources (x : Slot) (k : FillCase) (done failed : Bool) : List Source :=
  (if failed then [.integrity] else [])
    ++ (if done = true ∧ (x.state = .opened ∨ x.state = .filling) then [.slotReady] else [])
    ++ (if x.lost = false ∧ (x.lost || decide (k = .lost)) = true then [.coverageLost] else [])

/-- The sources of the checks and of the Fill Tracker are those of the row. -/
theorem mem_pictureSources {x y : Slot} {k : FillCase} {done failed : Bool}
    (hy : y.state = if x.state = .opened then .filling else x.state) (hk : k = .lost → x.lost = false) (i : Source) :
    i ∈ fillSources y k done ++ (if failed then [.integrity] else []) ↔ i ∈ pictureSources x k done failed := by
  have hready : (done = true ∧ y.state = .filling) ↔ done = true ∧ (x.state = .opened ∨ x.state = .filling) := by
    rw [hy]
    split <;> simp_all
  have hlost : k = .lost ↔ x.lost = false ∧ (x.lost || decide (k = .lost)) = true := by
    constructor
    · intro h; simp [h, hk h]
    · rintro ⟨h1, h2⟩; simpa [h1] using h2
  simp only [fillSources, pictureSources, hready, ← hlost, List.mem_append]
  tauto

/-- The record of a converted word's slot (R5, R6, R54, R55, R81). -/
theorem recorded_converting {x y : Slot} {k : FillCase} {done failed : Bool} (hy : y = { x with
      state := if x.state = .opened then .filling else x.state, suspect := x.suspect || failed }) :
    recorded y k done = { x with
      state := if x.state = .opened ∨ x.state = .filling then (if done then .ready else .filling) else x.state
      suspect := x.suspect || failed
      complete := x.complete || done
      lost := (recorded x k done).lost
      rewrites := (recorded x k done).rewrites } := by
  subst hy
  cases hx : x.state <;> cases done <;> simp [recorded]

/-- A placed word's index, recorded after its conversion (R41, R48), seen from the state before. -/
theorem recordFill_from (hfill : u.fill = s.fill) (hother : ∀ m, m ≠ n → u.slot m = s.slot m)
    (hqueue : u.slots.queue = s.slots.queue) (husers : ∀ y, u.users y = s.users y) {done failed : Bool}
    (hd : done = true ↔ Completes s n i) (hown : u.slot n = { s.slot n with
      state := if (s.slot n).state = .opened then .filling else (s.slot n).state
      suspect := (s.slot n).suspect || failed }) :
    OtherSlotsKept n s (u.recordFill n i) ∧ (u.recordFill n i).slots.queue = s.slots.queue
      ∧ (∀ y, (u.recordFill n i).users y = s.users y) ∧ (u.recordFill n i).fill = (s.recordFill n i).fill
      ∧ (u.recordFill n i).slot n = { s.slot n with
          state := if (s.slot n).state = .opened ∨ (s.slot n).state = .filling then (if done then .ready else .filling)
            else (s.slot n).state
          suspect := (s.slot n).suspect || failed
          complete := (s.slot n).complete || done
          lost := ((s.recordFill n i).slot n).lost
          rewrites := ((s.recordFill n i).slot n).rewrites } := by
  have hlost : (u.slot n).lost = (s.slot n).lost := by rw [hown]
  have hsize : (u.slot n).size = (s.slot n).size := by rw [hown]; rfl
  have hcase : fillCase (u.cover n) (u.slot n).lost u.fill.free i = fillCase (s.cover n) (s.slot n).lost s.fill.free i := by
    rw [cover_congr hfill, hlost, hfill]
  obtain ⟨hslots, -⟩ := recordFill_record u n i (hd.trans (completes_congr hfill hlost hsize i).symm)
  obtain ⟨hsslots, -⟩ := recordFill_record s n i hd
  rw [hcase] at hslots
  have hfillEq := recordFill_fill_congr hfill hlost i
  refine ⟨fun m hm => ⟨?_, ?_⟩, ?_, fun y => ?_, hfillEq, ?_⟩
  · rw [slot_congr hslots, State.slot_setSlot, if_neg hm, hother m hm]
  · rw [cover_congr hfillEq, (recordFill_fill s n i).1, if_neg hm]
  · rw [hslots, State.setSlot_queue, hqueue]
  · rw [users_congr hslots, State.users_setSlot, husers]
  · rw [slot_congr hslots, State.slot_setSlot_same, slot_congr hsslots, State.slot_setSlot_same]
    exact recorded_converting hown

/-- The sources of a placed word (R54, R56, R81). -/
theorem recordFill_raised_from (hfill : u.fill = s.fill) {done failed : Bool}
    (hd : done = true ↔ Completes s n i) (hown : u.slot n = { s.slot n with
      state := if (s.slot n).state = .opened then .filling else (s.slot n).state
      suspect := (s.slot n).suspect || failed }) (hr : Raised (if failed then [.integrity] else []) s u) :
    Raised (pictureSources (s.slot n) (fillCase (s.cover n) (s.slot n).lost s.fill.free i) done failed) s
      (u.recordFill n i) := by
  have hlost : (u.slot n).lost = (s.slot n).lost := by rw [hown]
  have hsize : (u.slot n).size = (s.slot n).size := by rw [hown]; rfl
  have hcase : fillCase (u.cover n) (u.slot n).lost u.fill.free i = fillCase (s.cover n) (s.slot n).lost s.fill.free i := by
    rw [cover_congr hfill, hlost, hfill]
  obtain ⟨-, hfilled⟩ := recordFill_record u n i (hd.trans (completes_congr hfill hlost hsize i).symm)
  rw [hcase] at hfilled
  exact raised_mem (raised_append hr hfilled (by simp)) (mem_pictureSources (by rw [hown]) fun h => fillCase_lost h)

/-- Settles O19: the row converts the word with the beat taken and the damage arisen, and the Fill Tracker takes its index
as it would take it in `s`. -/
theorem pictureWordIsConvertedAndStored : Obligations.PictureWordIsConvertedAndStored := by
  unfold Obligations.PictureWordIsConvertedAndStored
  intro dt arisen s b left hold rest n line column x i done failed hplace hr he hx hp hq hl hi hd hfailed
  subst hx hi
  have hrun := exec_placePictureWord (arisen := arisen) hplace hr he hp hq hl
  have hbefore := State.arise_frame s arisen
  obtain ⟨hmstate, hmfirst⟩ := arise_monitor s arisen
  generalize s.arise arisen = s' at *
  obtain ⟨-, hpower, hpending, hpins, hlink, -, hstore, hsc, hslots, hfill, hcontrol, hscan, hengine, hfeeder, hdrive,
    hevents⟩ := hbefore
  generalize ha : afterTake s' (s.now + dt) left hold rest = a at *
  have haslots : a.slots = s.slots := by subst ha; exact hslots
  have hafill : a.fill = s.fill := by subst ha; exact hfill
  have haevents : a.events = s.events := by subst ha; exact hevents
  have hreads : beatReads a n b = s'.conversionReads (s.slot n).stock (s.slot n).bypass b.data := by
    rw [beatReads, slot_congr haslots]; subst ha; rfl
  have hfails : a.anyFails (beatReads a n b) = failed := by rw [hreads, hfailed]; subst ha; rfl
  have hword : a.convert (s.slot n).stock (s.slot n).bypass b.data
      = s'.convert (s.slot n).stock (s.slot n).bypass b.data := by subst ha; rfl
  obtain ⟨hother, hqueue, husers⟩ := converting_slots a n b
  obtain ⟨hraised, hmonitor⟩ := converting_checked a n b
  have hown := converting_slot a n b
  have hbyte := converting_storeByte a n b
  obtain ⟨hunow, hupower, hupending, hupins, hulink, huqueue, husc, hufill, hucontrol, huscan, huengine, hufeeder,
    hudrive⟩ := converting_frame a n b
  rw [hfails] at hraised hown
  rw [slot_congr haslots] at hown hbyte
  rw [hreads, checkReads_monitor_congr (s := s') (by subst ha; rfl)] at hmonitor
  rw [hafill] at hufill
  generalize converting a n b = u at *
  obtain ⟨h1, h2, h3, h4, h5⟩ := recordFill_from hufill (fun m hm => (hother m hm).trans (slot_congr haslots m))
    (by rw [hqueue, haslots]) (fun y => (husers y).trans (users_congr haslots y)) hd hown
  have hsources := recordFill_raised_from hufill hd hown (raised_from hraised haevents.symm)
  have htaken : BeatTaken s (u.recordFill n (line * (s.slot n).width + column)) dt left hold rest := by
    subst ha
    simp [BeatTaken, hunow, huqueue, husc, afterTake, hsc]
  have hkeeps : Keeps [.queue, .store, .sc, .slots, .fill, .events, .monitor] s
      (u.recordFill n (line * (s.slot n).width + column)) := by
    subst ha
    apply keeps_of <;> simp [afterTake, *]
  have hstored : Stored s (u.recordFill n (line * (s.slot n).width + column))
      ⟨b.addr, s'.convert (s.slot n).stock (s.slot n).bypass b.data, 0xF⟩ := by
    refine ⟨?_, fun cell => ?_⟩
    · subst ha
      simp [hupower, afterTake, hpower]
    · rw [State.storeByte_of_recordFill, hbyte, hword,
        storeByte_of (s := s) (by subst ha; exact hstore) (by subst ha; exact hpower)]
      rfl
  have htmonitor : (u.recordFill n (line * (s.slot n).width + column)).monitor = u.monitor := by simp
  obtain ⟨hcstate, hcfirst⟩ := checkReads_monitor s' (s'.conversionReads (s.slot n).stock (s.slot n).bypass b.data)
  refine ⟨_, hrun, htaken, hkeeps, h1, h2, h3, hstored, h4, h5, ?_, ?_, ?_, htmonitor.trans hmonitor⟩
  · have hlost : ((s.recordFill n (line * (s.slot n).width + column)).slot n).lost = ((s.slot n).lost
        || decide (fillCase (s.cover n) (s.slot n).lost s.fill.free (line * (s.slot n).width + column) = .lost)) := by
      rw [slot_congr (recordFill_record s n _ hd).1, State.slot_setSlot_same]
      rfl
    rw [hlost]
    exact hsources
  · rw [htmonitor, hmonitor, hcstate, hmstate]
  · rw [htmonitor, hmonitor, hcfirst, hmfirst]

end Sys2Proof.Safety
end

section
/-! The two resets: the assertion of RST and power-on. Each is one record of blocks whose level sources are then set
again, so the Event Unit's sticky bits are taken apart once, for both. -/

namespace Sys2Proof.Safety
open Machine

variable {s : State}

/-! ## Setting the level sources again -/

/-- The state with other sticky bits. -/
def withSticky (s : State) (w : BitVec 16) : State := { s with events := { s.events with sticky := w } }

/-- The condition of a source does not look at the sticky bits (R172). -/
theorem raw_withSticky (s : State) (w : BitVec 16) (i : Source) : (withSticky s w).raw i = s.raw i := by
  cases i <;> rfl

/-- Setting the level sources again writes sticky bits alone. -/
theorem resample_eq (s : State) : s.resample = withSticky s s.resample.events.sticky := by
  simp only [State.resample]
  split <;> split <;> rfl

/-- From an Event Unit without sticky bits, exactly the level sources in LEVEL mode whose condition holds are set. -/
theorem resample_of_clear (h : s.events.sticky = 0) : ∃ w, s.resample = withSticky s w
    ∧ ∀ i, (withSticky s w).stuck i = true ↔ i.isLevel = true ∧ s.mode i = .level ∧ s.raw i = true := by
  refine ⟨_, resample_eq s, fun i => ?_⟩
  have hclear : s.stuck i = false := by simp [State.stuck, h]
  rw [← resample_eq, stuck_resample, hclear]
  simp [and_assoc]

/-! ## RST asserted -/

/-- The blocks as the assertion of RST leaves them, before the level sources are set again (R25, R45, R63, R104, R132,
R143, R171, R177, R180). -/
def bridgeBlocks (s : State) : State :=
  { s with
    pins := { s.pins with rst := true }
    link := LinkPort.reset
    queue := []
    sc := { s.sc with grant := s.sc.grant.map fun g => { g with unit := g.unit.disown } }
    slots := SlotTable.reset
    fill := FillTracker.reset
    control := { s.control with
      tables := s.control.tables.kept
      command := CommandRecord.reset
      reload := s.control.reload.abandoned }
    scan := { s.scan.forgotten with
      state := ScanState.afterApply s.scan.live.period, stats := PeriodStats.cleared, glitches := 0, slips := 0 }
    engine := Engine.reset
    feeder := ⟨s.feeder.banks.map Bank.freed, 0, none⟩
    drive := ⟨none, 0, 0, 0⟩
    events := ⟨0, Vector.replicate 16 none, none, none, activityAfter s s.now⟩
    monitor := { s.monitor with state := .idle } }

/-- The report of the sweep in progress touches the activity envelope alone. -/
theorem reportSweep_eq (s : State) : s.reportSweep = reported s s.now := by
  have hmoved : s.reportSweep = { s with events := s.reportSweep.events } := by
    unfold State.reportSweep
    split
    · split <;> rfl
    · rfl
  rw [hmoved, reportSweep_events]
  rfl

/-- The model's chain of block resets is the record of `bridgeBlocks`. -/
theorem bridgeReset_eq (s : State) : s.bridgeReset = (bridgeBlocks s).resample := by
  unfold State.bridgeReset
  rw [reportSweep_eq]
  refine congrArg State.resample ?_
  simp only [State.resetEvents, State.setMonitorState, State.resetScan, State.resetControl, State.resetEngine,
    State.resetSlots, State.resetLink, State.mapUnit, State.blankDrive, State.setPins, State.setLink, State.setQueue,
    State.setSc, State.setSlots, State.setFill, State.setEngine, State.setFeeder, State.setDrive, State.setControl,
    State.setScan, State.setMonitor, State.setEvents, reported, bridgeBlocks]

/-- The assertion, run at a tick the part may reach. -/
theorem exec_rstAssert {dt : Nat} (h : s.mayReach (s.now + dt) = true) : ∃ w,
    exec (.rstAssert dt) s = .next (withSticky (bridgeBlocks (s.setNow (s.now + dt))) w)
      ∧ ∀ i, (withSticky (bridgeBlocks (s.setNow (s.now + dt))) w).stuck i = true ↔ i.isLevel = true
        ∧ s.mode i = .level ∧ (withSticky (bridgeBlocks (s.setNow (s.now + dt))) w).raw i = true := by
  obtain ⟨w, hw, hstuck⟩ := resample_of_clear (s := bridgeBlocks (s.setNow (s.now + dt))) rfl
  refine ⟨w, ?_, fun i => ?_⟩
  · rw [← hw, ← bridgeReset_eq]
    exact s.after_of_mayReach dt (fun s => .next s.bridgeReset) h
  · rw [raw_withSticky]
    exact hstuck i

/-- The words a disowned unit still brings go nowhere (R45, R157). -/
def Disowned : GrantUnit → Prop
  | .refresh => True
  | .placement left => left = 0
  | .feeder _ _ _ _ wanted | .linkRead _ _ _ wanted | .reload _ _ _ wanted => wanted = false

theorem disowned_disown (g : GrantUnit) : Disowned g.disown := by cases g <;> trivial

theorem get_kept (x : TableStates) (u : TableUnit) : x.kept.get u = if x.get u = .loading then .stale else x.get u := by
  have hkept (y : TableState) : y.kept = if y = .loading then .stale else y := by cases y <;> rfl
  cases u <;> exact hkept _

theorem slot_reset (n : Fin 8) : SlotTable.reset.table[n] = Slot.cleared := by simp [SlotTable.reset]

theorem cover_reset (n : Fin 8) :
    FillTracker.reset.cover[n].cursor = 0 ∧ FillTracker.reset.cover[n].runs = [] := by simp [FillTracker.reset]

theorem stretch_reset (i : Fin 16) : (Vector.replicate 16 (none : Option Timer))[i] = none := by simp

/-- Settles O3: the state after the assertion is `bridgeBlocks`, read block by block. -/
theorem bridgeResetKeepsStoreAndTables : Obligations.BridgeResetKeepsStoreAndTables := by
  refine ⟨fun dt s hr => ?_, fun dt s hr => ?_⟩ <;> obtain ⟨w, hrun, hstuck⟩ := exec_rstAssert hr
  · have hkeeps : Keeps [.pins, .link, .queue, .sc, .slots, .fill, .control, .scan, .engine, .feeder, .drive, .events,
        .monitor] s (withSticky (bridgeBlocks (s.setNow (s.now + dt))) w) := by
      apply keeps_of <;> simp [withSticky, bridgeBlocks, State.storeByte]
    have hholds : (s.sc.grant.map fun g => { g with unit := g.unit.disown }).map Grant.hold
        = s.sc.grant.map Grant.hold := by
      rw [Option.map_map]
      rfl
    have hunits : ∀ g ∈ s.sc.grant.map fun g => { g with unit := g.unit.disown }, Disowned g.unit := by
      intro g hg
      obtain ⟨g', -, rfl⟩ := Option.mem_map.1 hg
      exact disowned_disown g'.unit
    exact ⟨_, hrun, rfl, hkeeps, rfl, rfl, rfl, rfl, rfl, rfl, rfl, rfl, rfl, rfl, rfl, rfl, rfl, hholds, hunits,
      slot_reset, rfl, rfl, rfl, cover_reset, rfl, rfl, rfl, rfl, rfl, rfl, get_kept _, rfl, rfl⟩
  · have hbank (b : Fin 2) : (s.feeder.banks.map Bank.freed)[b].state = .free
        ∧ (s.feeder.banks.map Bank.freed)[b].tag = none
        ∧ (s.feeder.banks.map Bank.freed)[b].words = s.feeder.banks[b].words := by
      simp [Bank.freed]
    exact ⟨_, hrun, rfl, rfl, rfl, rfl, rfl, rfl, rfl, rfl, rfl, rfl, rfl, hbank, rfl, rfl, rfl, hstuck,
      stretch_reset, rfl, rfl, rfl, rfl, rfl, rfl, rfl⟩

/-! ## Power-on -/

/-- The event settings of power-on, source by source (R177, section 11.3). -/
theorem eventWordsPowerOn_bits (i : Source) :
    TriggerMode.ofCode ((eventWordsPowerOn[0]).extractLsb' (2 * i.index.val) 2).toNat = .level
      ∧ (eventWordsPowerOn[2]).getLsbD i.index.val = false ∧ (eventWordsPowerOn[3]).getLsbD i.index.val = false
      ∧ ((eventWordsPowerOn[1]).getLsbD i.index.val = true ↔ i = .frameFault ∨ i = .interlockOpen ∨ i = .gateStuck)
      ∧ ((eventWordsPowerOn[4]).getLsbD i.index.val = true
        ↔ i = .frameFault ∨ i = .interlockOpen ∨ i = .gateStuck) := by
  cases i <;> decide

theorem settings_powerOn {s : State} (h : s.control.eventWords = eventWordsPowerOn) (i : Source) :
    s.mode i = .level ∧ s.bypassed i = false ∧ s.attnMapped i = false
      ∧ (s.enabled i = true ↔ i = .frameFault ∨ i = .interlockOpen ∨ i = .gateStuck)
      ∧ (s.stopMapped i = true ↔ i = .frameFault ∨ i = .interlockOpen ∨ i = .gateStuck) := by
  unfold State.mode State.bypassed State.attnMapped State.enabled State.stopMapped
  rw [h]
  exact eventWordsPowerOn_bits i

/-- Power-on, whose Event Unit starts without sticky bits. -/
theorem exec_powerOn (dt : Nat) (straps : Straps) (gate interlock lselLow : Bool) (s : State) : ∃ w,
    exec (.powerOn dt straps gate interlock lselLow) s
        = .next (withSticky ((s.setNow (s.now + dt)).powerUp straps gate interlock lselLow) w)
      ∧ ∀ i, (withSticky ((s.setNow (s.now + dt)).powerUp straps gate interlock lselLow) w).stuck i = true
        ↔ i = .interlockOpen ∧ interlock = true := by
  obtain ⟨w, hw, hstuck⟩ :=
    resample_of_clear (s := (s.setNow (s.now + dt)).powerUp straps gate interlock lselLow) rfl
  refine ⟨w, congrArg Host.Outcome.next hw, fun i => (hstuck i).trans ?_⟩
  cases i with
  | interlockOpen => exact ⟨fun ⟨_, _, hopen⟩ => ⟨rfl, hopen⟩, fun ⟨_, hopen⟩ => ⟨rfl, (settings_powerOn rfl _).1, hopen⟩⟩
  | scanUnlocked => exact ⟨fun ⟨_, _, hraw⟩ => absurd hraw Bool.false_ne_true, fun ⟨hi, _⟩ => absurd hi (by decide)⟩
  | _ => exact ⟨fun ⟨hlevel, _⟩ => absurd hlevel (by decide), fun ⟨hi, _⟩ => absurd hi (by decide)⟩

/-- A source mapped to ATTN is wanted for it (R174). -/
theorem attn_of_unmapped {s : State} (h : ∀ i, s.attnMapped i = false) : s.attn = false := by
  simp [State.attn, h]

/-- With INTERLOCK_OPEN alone enabled, mapped and possibly stuck, STOP is its sticky bit (R174). -/
theorem stop_of_interlock {s : State} {x : Bool} (hbypass : ∀ i, s.bypassed i = false)
    (henabled : s.enabled .interlockOpen = true) (hmapped : s.stopMapped .interlockOpen = true)
    (hstuck : ∀ i, s.stuck i = true ↔ i = .interlockOpen ∧ x = true) : s.stop = x := by
  have hident (i : Source) : s.ident i = (s.enabled i && s.stuck i) := by simp [State.ident, hbypass]
  rw [Bool.eq_iff_iff]
  constructor
  · intro hstop
    obtain ⟨i, -, hi⟩ := List.any_eq_true.1 hstop
    simp only [hident, Bool.and_eq_true] at hi
    exact ((hstuck i).1 hi.1.2).2
  · intro hx
    refine List.any_eq_true.2 ⟨.interlockOpen, by decide, ?_⟩
    simp [hident, henabled, hmapped, (hstuck .interlockOpen).2 ⟨rfl, hx⟩]

theorem storeWords_ofStraps (straps : Straps) : (StoreSize.ofStraps straps).words
    = if straps.size1 = straps.size0 then 67108864 else if straps.size0 then 134217728 else 268435456 := by
  obtain ⟨_ | _, _ | _⟩ := straps <;> rfl

theorem bank_powerOn (b : Fin 2) : State.reset.feeder.banks[b].state = .free ∧ State.reset.feeder.banks[b].tag = none
    ∧ ∀ p, zeroGet State.reset.feeder.banks[b].words p = 0 := by
  have hbank : State.reset.feeder.banks[b] = ⟨.free, none, []⟩ := by simp [State.reset]
  rw [hbank]
  exact ⟨rfl, rfl, fun _ => rfl⟩

/-- Function code 0 drives no level, and so no AUX output is high (R145, R179). -/
theorem aux_powerOn {s : State} (h : s.control.auxWords = Vector.replicate 4 0) (n : Fin 4) :
    s.aux n = false ∧ (s.control.auxWords[n]).toNat % 16 = 0 := by
  have hword : s.control.auxWords[n] = 0 := by simp [h]
  have hcode : s.auxCode n = 0 := by
    rw [State.auxCode, hword]
    rfl
  rw [State.aux, hcode, hword]
  exact ⟨rfl, rfl⟩

theorem record_powerOn (i : Fin 8) : Monitor.powerOn.records[i] = Indication.clear := by simp [Monitor.powerOn]

/-- Settles O2: the blocks are those of `State.reset`; the Event Unit's outputs follow from its settings. -/
theorem powerOnClearsThePart : Obligations.PowerOnClearsThePart := by
  refine ⟨fun dt straps gate interlock lselLow s => ?_, fun dt straps gate interlock lselLow s => ?_, rfl⟩ <;>
    obtain ⟨w, hrun, hstuck⟩ := exec_powerOn dt straps gate interlock lselLow s
  · have hstaging (n : Fin 8) (k : Fin 7) : (ControlCapture.powerOn.staging[n])[k] = 0 := by
      simp [ControlCapture.powerOn]
    have htables (u : TableUnit) : ControlCapture.powerOn.tables.get u = .empty := by cases u <;> rfl
    have hshadows (m : Mem) (a : Nat) : zeroGet (ControlCapture.powerOn.shadows.get m) a = 0 := by cases m <;> rfl
    exact ⟨_, hrun, rfl, rfl, rfl, rfl, rfl, rfl, rfl, rfl, rfl, rfl, rfl, rfl, fun _ => rfl,
      storeWords_ofStraps straps, rfl, rfl, rfl, rfl, slot_reset, rfl, rfl, rfl, cover_reset, rfl, htables, hshadows,
      rfl, rfl, hstaging⟩
  · have hsettings := settings_powerOn
      (s := withSticky ((s.setNow (s.now + dt)).powerUp straps gate interlock lselLow) w) rfl
    simp only [forall_and] at hsettings
    obtain ⟨hmode, hbypassed, hunmapped, henabled, hmapped⟩ := hsettings
    have hstop := stop_of_interlock hbypassed ((henabled .interlockOpen).2 (by decide))
      ((hmapped .interlockOpen).2 (by decide)) hstuck
    exact ⟨_, hrun, rfl, rfl, rfl, rfl, rfl, rfl, rfl, rfl, rfl, rfl, rfl, rfl, bank_powerOn, fun _ _ => rfl, rfl,
      rfl, rfl, rfl, rfl, rfl, rfl, rfl, fun i => ⟨hmode i, hbypassed i, hunmapped i⟩, henabled, hmapped, hstuck,
      stretch_reset, rfl, rfl, rfl,
      attn_of_unmapped hunmapped, hstop, aux_powerOn rfl, rfl, rfl, record_powerOn⟩

end Sys2Proof.Safety
end

section
/-! The arbiter: the addresses of a burst, the requests, and the grant decision with its bounds (R27, R153 to R158). -/

namespace Sys2Proof.Safety

open Machine

variable {s : State}

/-! ## Beat addresses (R27) -/

/-- Settles O5: each clause is the arithmetic of one of the burst kinds. -/
theorem beatAddressesFollowTheBurst : Obligations.BeatAddressesFollowTheBurst := by
  refine ⟨fun _ _ _ => rfl, fun g z a k hg => ?_⟩
  unfold beatAddr
  rcases hg with rfl | rfl | rfl <;> dsimp only <;> omega

/-! ## The grant decision (R156) -/

/-- Unit `g` holds the store from now on; the grant of a read segment ends the wish of the open read (R31). -/
def granted (s : State) (g : GrantUnit) : State :=
  { s with
    sc := { s.sc with grant := some ⟨g, ⟨s.now, g.longest⟩⟩ }
    link := match g with
      | .linkRead _ _ _ _ => { s.link with txn := s.link.txn.map fun x => { x with wants := false } }
      | _ => s.link }

theorem grantTo_eq (s : State) (g : GrantUnit) : s.grantTo g = granted s g := by
  cases g with
  | linkRead b a len wanted =>
    obtain ⟨_, _, _, _, ⟨txn, _, _, _, _⟩⟩ := s
    cases txn <;> rfl
  | _ => rfl

theorem arbitrate_busy (h : s.sc.init ≠ none ∨ s.sc.grant ≠ none) : s.arbitrate = s := by
  unfold State.arbitrate
  rw [if_pos]
  simpa [Option.isSome_iff_ne_none] using h

theorem arbitrate_idle (h : s.nextGrant = none) : s.arbitrate = s := by
  simp [State.arbitrate, h]

theorem arbitrate_grants {g : GrantUnit} (hi : s.sc.init = none) (hg : s.sc.grant = none) (h : s.nextGrant = some g) :
    s.arbitrate = granted s g := by
  simp [State.arbitrate, hi, hg, h, grantTo_eq]

/-- A grant decision leaves the state, or grants the store in service and free to the unit of the highest rank. -/
theorem arbitrate_cases (s : State) : s.arbitrate = s
    ∨ s.sc.init = none ∧ s.sc.grant = none ∧ ∃ g, s.nextGrant = some g ∧ s.arbitrate = granted s g := by
  by_cases h : s.sc.init ≠ none ∨ s.sc.grant ≠ none
  · exact .inl (arbitrate_busy h)
  · rw [not_or, not_not, not_not] at h
    cases hg : s.nextGrant with
    | none => exact .inl (arbitrate_idle hg)
    | some g => exact .inr ⟨h.1, h.2, g, rfl, arbitrate_grants h.1 h.2 hg⟩

/-- The order of the ranks (R156). -/
theorem nextGrant_eq (s : State) : s.nextGrant = if 8 ≤ s.sc.pendingRefresh then some .refresh
    else if s.feederRequest.isSome then s.feederRequest
    else if s.linkRequest.isSome then s.linkRequest
    else if 0 < s.sc.pendingRefresh then some .refresh
    else s.reloadRequest := by
  unfold State.nextGrant
  cases s.feederRequest <;> cases s.linkRequest <;> rfl

/-- A granted unit answers a request of its own kind. -/
theorem requested_of_nextGrant {g : GrantUnit} (h : s.nextGrant = some g) : g = .refresh ∨ s.feederRequest = some g
    ∨ s.linkRequest = some g ∨ s.reloadRequest = some g := by
  rw [nextGrant_eq] at h
  split_ifs at h
  · exact .inl (Option.some.inj h).symm
  · exact .inr (.inl h)
  · exact .inr (.inr (.inl h))
  · exact .inl (Option.some.inj h).symm
  · exact .inr (.inr (.inr h))

/-! ## The requests (R155, R158) -/

theorem feederRequest_none (h : s.feeder.fetch = none) : s.feederRequest = none := by
  simp [State.feederRequest, h]

theorem feederRequest_fetch {f : Fetch} (h : s.feeder.fetch = some f) : s.feederRequest =
    some (.feeder f.bank f.pos (min ((s.slot f.slot).width - f.pos)
        (512 - ((s.slot f.slot).base + f.line * (s.slot f.slot).pitch + f.pos) % 512))
      ((s.slot f.slot).base + f.line * (s.slot f.slot).pitch + f.pos) true) := by
  simp [State.feederRequest, h, toPageEnd, Config.pageWords]

theorem linkRequest_queued (h : s.queue ≠ []) : s.linkRequest = some (.placement (unitBeatsOf s.queue)) := by
  unfold State.linkRequest
  rw [if_neg (by simpa using h)]

theorem linkRequest_none (hq : s.queue = []) (h : ∀ x ∈ s.link.txn, x.wants = false) : s.linkRequest = none := by
  unfold State.linkRequest
  rw [if_pos (by simpa using hq)]
  split
  · rw [h _ ‹_›]; rfl
  · rfl

theorem linkRequest_read {x : Txn} (hq : s.queue = []) (hx : s.link.txn = some x) (hw : x.wants = true) :
    s.linkRequest = some (s.readSegment x) := by
  simp [State.linkRequest, hq, hx, hw]

theorem reloadRequest_none (h : s.control.reload.inFlight = false ∨ s.control.reload.table = none) :
    s.reloadRequest = none := by
  unfold State.reloadRequest
  obtain h | h := h <;> simp [h]

theorem reloadRequest_inFlight {x : TableUnit} (h : s.control.reload.inFlight = true)
    (ht : s.control.reload.table = some x) : s.reloadRequest =
      some (.reload x s.control.reload.progress (min 64 (x.span - s.control.reload.progress)) true) := by
  simp [State.reloadRequest, h, ht, Config.reloadWords]

/-- The element behind the longest run fails the test. -/
theorem takeWhile_stops {α : Type} {p : α → Bool} {l : List α} {x : α} (h : l[(l.takeWhile p).length]? = some x) :
    p x = false := by
  induction l with
  | nil => cases h
  | cons a l ih =>
    rw [List.takeWhile_cons] at h
    split at h
    · exact ih (by simpa using h)
    · simp_all

/-- A placement unit takes the head beat and the beats behind it in the head's page, up to 16 (R34). -/
theorem unitBeatsOf_spec (b : Beat) (rest : List Beat) : ∃ n, unitBeatsOf (b :: rest) = n ∧ 0 < n ∧ n ≤ 16
    ∧ n ≤ (b :: rest).length ∧ (∀ x ∈ (b :: rest).take n, x.addr / 512 = b.addr / 512)
    ∧ (n = 16 ∨ ∀ x, (b :: rest)[n]? = some x → x.addr / 512 ≠ b.addr / 512) := by
  generalize hrun : rest.takeWhile (fun x => pageOf x.addr == pageOf b.addr) = run
  have hpage (x : Beat) (hx : x ∈ run) : x.addr / 512 = b.addr / 512 := by
    subst hrun
    simpa [pageOf, Config.pageWords] using List.mem_takeWhile_imp hx
  have hrest : run <+: rest := hrun ▸ List.takeWhile_prefix _
  have hlen := hrest.length_le
  have hn : unitBeatsOf (b :: rest) = min 16 (1 + run.length) := by simp [unitBeatsOf, hrun, Config.unitBeats]
  refine ⟨_, hn, by omega, by omega, by simp only [List.length_cons]; omega, fun x hx => ?_, ?_⟩
  · obtain ⟨k, hk⟩ : ∃ k, min 16 (1 + run.length) = k + 1 := ⟨min 16 (1 + run.length) - 1, by omega⟩
    rw [hk, List.take_succ_cons, List.mem_cons] at hx
    rcases hx with rfl | hx
    · rfl
    · refine hpage x ?_
      obtain ⟨tail, rfl⟩ := hrest
      rw [List.take_append_of_le_length (by omega)] at hx
      exact List.mem_of_mem_take hx
  · by_cases hfull : 16 ≤ 1 + run.length
    · exact .inl (by omega)
    · refine .inr fun x hx => ?_
      rw [show min 16 (1 + run.length) = run.length + 1 by omega, List.getElem?_cons_succ] at hx
      subst hrun
      simpa [pageOf, Config.pageWords] using takeWhile_stops hx

/-! ## Bounds of the units (R31, R34, R117, R140, R151, R155) -/

/-- A run of words that does not reach beyond the end of its first word's page lies in that page (R151). -/
theorem page_of_run {a len : Nat} (h : len ≤ 512 - a % 512) (hpos : 0 < len) : (a + len - 1) / 512 = a / 512 := by
  omega

/-- A pass round a group that a header can name stays in the group's page (R26, R27, R151). -/
theorem page_of_group {g : Nat} (hg : g = 8 ∨ g = 16 ∨ g = 32) (z a k : Nat) :
    beatAddr z (.wrapped g) a k / 512 = a / 512 := by
  obtain ⟨-, hwrapped⟩ := beatAddressesFollowTheBurst
  exact (hwrapped g z a k hg).2.2.2

/-- What the words of a unit are, and that they lie in one page. -/
def Fits (s : State) : GrantUnit → Prop
  | .feeder _ _ len a _ => len ≤ 512 ∧ (0 < len → (a + len - 1) / 512 = a / 512)
  | .linkRead .linear a len _ => len ≤ 512 ∧ (0 < len → (a + len - 1) / 512 = a / 512)
  | .linkRead (.wrapped g) a len _ => len = g
      ∧ (g = 8 ∨ g = 16 ∨ g = 32 → ∀ k, beatAddr s.storeWords (.wrapped g) a k / 512 = a / 512)
  | .placement n =>
    0 < n ∧ n ≤ 16 ∧ n ≤ s.queue.length ∧ ∀ b ∈ s.queue.take n, ∀ h ∈ s.queue.head?, b.addr / 512 = h.addr / 512
  | .reload table first len _ => len ≤ 64
      ∧ (first % 64 = 0 → 0 < len →
        (s.controlBase + table.area + first + len - 1) / 512 = (s.controlBase + table.area + first) / 512)
  | .refresh => True

theorem feederRequest_fits {g : GrantUnit} (h : s.feederRequest = some g) : g.longest ≤ 266 ∧ Fits s g := by
  cases hf : s.feeder.fetch with
  | none => simp [feederRequest_none hf] at h
  | some f =>
    rw [feederRequest_fetch hf] at h
    cases h
    exact ⟨by simp only [GrantUnit.longest]; omega, by omega, page_of_run (by omega)⟩

theorem readSegment_fits (x : Txn) (hx : burstFits x.burst = true) :
    (s.readSegment x).longest ≤ 266 ∧ Fits s (s.readSegment x) := by
  unfold State.readSegment
  split
  · have hlen : toPageEnd (s.nextAddr x) = 512 - s.nextAddr x % 512 := rfl
    exact ⟨by simp only [GrantUnit.longest]; omega, by omega, page_of_run hlen.le⟩
  · rename_i g hg
    have hsize : g ≤ 32 := by simpa [hg, burstFits] using hx
    exact ⟨by simp only [GrantUnit.longest]; omega, rfl, fun hgroup k => page_of_group hgroup _ _ _⟩

theorem linkRequest_fits {g : GrantUnit} (hfits : ∀ t ∈ s.link.txn, burstFits t.burst = true)
    (h : s.linkRequest = some g) : g.longest ≤ 266 ∧ Fits s g := by
  cases hq : s.queue with
  | nil =>
    unfold State.linkRequest at h
    rw [if_pos (by simp [hq])] at h
    split at h
    · rename_i x hx
      split at h <;> cases h
      exact readSegment_fits x (hfits x hx)
    · cases h
  | cons b rest =>
    rw [linkRequest_queued (by simp [hq]), hq] at h
    cases h
    obtain ⟨n, hn, hpos, hmax, hlen, hpage, -⟩ := unitBeatsOf_spec b rest
    rw [hn]
    refine ⟨by simp only [GrantUnit.longest]; omega, hpos, hmax, hq ▸ hlen, fun x hx y hy => ?_⟩
    rw [hq] at hx hy
    cases hy
    exact hpage x hx

/-- The areas of the table units begin at a page (R133, R151). -/
theorem area_page (s : State) (x : TableUnit) : (s.controlBase + x.area) % 512 = 0 := by
  unfold State.controlBase State.storeWords
  cases s.sc.size <;> cases x <;> rfl

theorem reloadRequest_fits {g : GrantUnit} (h : s.reloadRequest = some g) : g.longest ≤ 266 ∧ Fits s g := by
  unfold State.reloadRequest at h
  split at h
  case isFalse => cases h
  obtain ⟨x, -, rfl⟩ := Option.map_eq_some_iff.1 h
  have harea := area_page s x
  generalize s.control.reload.progress = first
  have hlen : min Config.reloadWords (x.span - first) ≤ 64 := min_le_left ..
  exact ⟨by simp [GrantUnit.longest], hlen, fun hfirst hpos => page_of_run (by omega) hpos⟩

theorem nextGrant_fits {g : GrantUnit} (hfits : ∀ t ∈ s.link.txn, burstFits t.burst = true)
    (h : s.nextGrant = some g) : g.longest ≤ 266 ∧ Fits s g := by
  obtain rfl | h | h | h := requested_of_nextGrant h
  · exact ⟨by decide, trivial⟩
  · exact feederRequest_fits h
  · exact linkRequest_fits hfits h
  · exact reloadRequest_fits h

/-- Settles O11: the decision is `arbitrate_cases` with the ranks of `nextGrant_eq`; each request has its equation, and
its bounds hold whenever it is granted. -/
theorem arbiterGrantsTheHighestRank : Obligations.ArbiterGrantsTheHighestRank := by
  refine ⟨fun s request hrequest => ?_, fun s => ⟨feederRequest_none, ?_, ?_, linkRequest_none, ?_, reloadRequest_none,
    fun _ => reloadRequest_inFlight⟩, fun u => by cases u <;> rfl, fun s u hfits hu => ?_⟩
  · rw [← nextGrant_eq] at hrequest
    subst hrequest
    exact ⟨rfl, arbitrate_busy, fun hi hg => ⟨arbitrate_idle, fun u => arbitrate_grants hi hg⟩⟩
  · rintro f x a hf rfl rfl
    exact feederRequest_fetch hf
  · intro b rest hq
    obtain ⟨n, hn, hunit⟩ := unitBeatsOf_spec b rest
    rw [linkRequest_queued (by simp [hq]), hq, hn]
    exact ⟨n, rfl, hunit⟩
  · rintro x a hq hx hw rfl
    rw [linkRequest_read hq hx hw]
    unfold State.readSegment State.nextAddr toPageEnd
    cases x.burst <;> rfl
  · obtain ⟨hlongest, hunit⟩ := nextGrant_fits hfits hu
    refine ⟨hlongest, ?_⟩
    rcases u with _ | _ | ⟨_ | _⟩ | _ | _ <;> exact hunit

end Sys2Proof.Safety
end

section
/-! The Store Controller's own rows: initialisation, refresh, and the ends of units (R34, R152 to R157). -/

namespace Sys2Proof.Safety

open Machine

variable {s u : State}

/-! ## What a grant decision leaves -/

theorem arbitrate_init (s : State) : s.arbitrate.sc.init = s.sc.init := by rw [State.arbitrate_sc]

theorem arbitrate_refresh (s : State) : s.arbitrate.sc.refresh = s.sc.refresh := by rw [State.arbitrate_sc]

theorem arbitrate_pendingRefresh (s : State) : s.arbitrate.sc.pendingRefresh = s.sc.pendingRefresh := by
  rw [State.arbitrate_sc]

/-- A unit that holds the store holds it after a decision (R157). -/
theorem arbitrate_keeps_grant {g : Grant} (h : g ∈ s.sc.grant) : s.arbitrate.sc.grant = some g := by
  rw [State.arbitrate_held s (Option.mem_def.1 h)]
  exact h

/-- The blocks a grant decision leaves, seen from an earlier state (R156). -/
theorem keeps_arbitrate {l : List Block} (h : Keeps l s u) (hsc : .sc ∈ l) (hlink : .link ∈ l) :
    Keeps l s u.arbitrate := by
  intro b hb
  have hsame := h b hb
  have hbyte (cell : Nat) : u.arbitrate.storeByte cell = u.storeByte cell := storeByte_of (by simp) (by simp) cell
  cases b <;> simp_all [Block.same]

/-! ## Initialisation and refresh (R153, R154) -/

theorem exec_storeInitEnd {x : Timer} (h : s.mayReach x.ends = true) (hx : s.sc.init = some x) :
    exec .storeInitEnd s = .next (State.arbitrate { s with
      now := x.ends, sc := { s.sc with init := none, refresh := some ⟨x.ends, 780⟩ } }) := by
  show execStoreInitEnd s = _
  rw [execStoreInitEnd, hx, State.atEnd_of_mayReach s x _ h]
  rfl

theorem exec_refreshDue {x : Timer} (h : s.mayReach x.ends = true) (hx : s.sc.refresh = some x) :
    exec .refreshDue s = .next (State.arbitrate { s with
      now := x.ends
      sc := { s.sc with pendingRefresh := s.sc.pendingRefresh + 1, refresh := some ⟨x.ends, 780⟩ } }) := by
  show execRefreshDue s = _
  rw [execRefreshDue, hx, State.atEnd_of_mayReach s x _ h]
  rfl

theorem exec_refreshDone {dt : Nat} {hold : Timer} (h : s.mayReach (s.now + dt) = true)
    (hg : s.sc.grant = some ⟨.refresh, hold⟩) : exec (.refreshDone dt) s = .next (State.arbitrate { s with
      now := s.now + dt, sc := { s.sc with grant := none, pendingRefresh := s.sc.pendingRefresh - 1 } }) := by
  show execRefreshDone dt s = _
  rw [execRefreshDone, State.after_of_mayReach s dt _ h]
  simp only [State.setNow_sc, hg]
  rfl

theorem exec_placementUnitEnd {dt : Nat} {hold : Timer} (h : s.mayReach (s.now + dt) = true)
    (hg : s.sc.grant = some ⟨.placement 0, hold⟩) : exec (.placementUnitEnd dt) s = .next (State.arbitrate { s with
      now := s.now + dt, sc := { s.sc with grant := none } }) := by
  show execPlacementUnitEnd dt s = _
  rw [execPlacementUnitEnd, State.after_of_mayReach s dt _ h]
  simp only [State.setNow_sc, hg]
  rfl

/-- Settles O12: each row is a record of the controller on which a grant decision is made. -/
theorem refreshRunsAtFixedIntervals : Obligations.RefreshRunsAtFixedIntervals := by
  refine ⟨fun s x h => ⟨fun hx => ?_, fun hx => ?_⟩, fun dt s hold h =>
    ⟨fun hg => exec_refreshDone h hg, fun hg => exec_placementUnitEnd h hg⟩⟩
  · have hkeeps : Keeps [.sc, .link] s { s with
        now := x.ends, sc := { s.sc with init := none, refresh := some ⟨x.ends, 780⟩ } } := by
      apply keeps_of <;> simp [State.storeByte]
    exact ⟨_, exec_storeInitEnd h hx, by simp, keeps_arbitrate hkeeps (by simp) (by simp), arbitrate_init _,
      arbitrate_refresh _, arbitrate_pendingRefresh _, by simp, fun g hg => arbitrate_keeps_grant hg, rfl⟩
  · have hkeeps : Keeps [.sc, .link] s { s with
        now := x.ends
        sc := { s.sc with pendingRefresh := s.sc.pendingRefresh + 1, refresh := some ⟨x.ends, 780⟩ } } := by
      apply keeps_of <;> simp [State.storeByte]
    exact ⟨_, exec_refreshDue h hx, by simp, keeps_arbitrate hkeeps (by simp) (by simp), arbitrate_refresh _,
      arbitrate_pendingRefresh _, arbitrate_init _, by simp, fun g hg => arbitrate_keeps_grant hg, rfl⟩

/-! ## READ_SEGMENT_DONE (R31, R152, R155) -/

/-- Byte `k` of a word put together from four (section 11). -/
theorem byteOf_joinBytes (b3 b2 b1 b0 : Byte) : byteOf (joinBytes b3 b2 b1 b0) 3 = b3
    ∧ byteOf (joinBytes b3 b2 b1 b0) 2 = b2 ∧ byteOf (joinBytes b3 b2 b1 b0) 1 = b1
    ∧ byteOf (joinBytes b3 b2 b1 b0) 0 = b0 := by
  unfold byteOf joinBytes
  refine ⟨?_, ?_, ?_, ?_⟩ <;> ext i hi <;> simp only [BitVec.getElem_extractLsb', BitVec.getLsbD_append]
  all_goals
    simp (disch := omega) only [if_neg, if_pos, BitVec.getLsbD_eq_getElem]
    congr 1
    omega

/-- A store word is read byte by byte (R152). -/
theorem byteOf_loadWord (s : State) (a : Nat) {k : Nat} (hk : k < 4) :
    byteOf (s.loadWord a) k = s.storeByte (4 * a + k) := by
  obtain ⟨h3, h2, h1, h0⟩ := byteOf_joinBytes (s.storeByte (4 * a + 3)) (s.storeByte (4 * a + 2))
    (s.storeByte (4 * a + 1)) (s.storeByte (4 * a))
  match k, hk with
  | 0, _ => exact h0
  | 1, _ => exact h1
  | 2, _ => exact h2
  | 3, _ => exact h3

/-- What a grant decision makes of the open transaction: its wish may be granted (R31). -/
theorem arbitrate_txn {x : Txn} (h : s.link.txn = some x) :
    ∃ w, s.arbitrate.link.txn = some { x with wants := w } ∧ (w = true → x.wants = true) := by
  obtain hsame | ⟨-, -, g, -, hg⟩ := arbitrate_cases s
  · exact ⟨x.wants, by rw [hsame]; exact h, id⟩
  · rw [hg]
    cases g with
    | linkRead => exact ⟨false, by simp [granted, h], by simp⟩
    | _ => exact ⟨x.wants, h, id⟩

/-- With no transaction open, a grant decision leaves the link. -/
theorem arbitrate_link_idle (h : s.link.txn = none) : s.arbitrate.link = s.link := by
  obtain hsame | ⟨-, -, g, -, hg⟩ := arbitrate_cases s
  · rw [hsame]
  · rw [hg]
    cases g <;> simp [granted, h]
    rw [← h]

/-- The end of a read segment whose words are discarded (R157). -/
theorem exec_readSegmentDone_discarded {dt len a : Nat} {burst : Burst} {hold : Timer}
    (h : s.mayReach (s.now + dt) = true) (hg : s.sc.grant = some ⟨.linkRead burst a len false, hold⟩) :
    exec (.readSegmentDone dt) s
      = .next (State.arbitrate { s with now := s.now + dt, sc := { s.sc with grant := none } }) := by
  show execReadSegmentDone dt s = _
  rw [execReadSegmentDone, State.after_of_mayReach s dt _ h]
  simp only [State.setNow_sc, hg]
  rfl

/-- The store is free at tick `v`, and the words of a segment are in the read buffer of transaction `x` (R155). -/
def segmentRead (s : State) (v : Tick) (x : Txn) (words : List Word) : State :=
  { s with
    now := v, sc := { s.sc with grant := none }
    link := { s.link with txn := some { x with buffer := words } } }

/-- The end of a wanted read segment inside the store (R31, R155). -/
theorem exec_readSegmentDone_wanted {dt len a : Nat} {burst : Burst} {hold : Timer} {x : Txn}
    (h : s.mayReach (s.now + dt) = true) (hg : s.sc.grant = some ⟨.linkRead burst a len true, hold⟩)
    (hin : ∀ k, k < len → beatAddr s.storeWords burst a k < s.storeWords) (hx : s.link.txn = some x) :
    exec (.readSegmentDone dt) s = .next (State.arbitrate (segmentRead s (s.now + dt) x
      ((List.range len).map fun k => s.loadWord (beatAddr s.storeWords burst a k)))) := by
  have hinside : ((s.setNow (s.now + dt)).segmentAddrs burst a len).any
      (fun y => (s.setNow (s.now + dt)).storeWords ≤ y) = false := by
    refine List.any_eq_false.2 fun y hy => ?_
    obtain ⟨k, hk, rfl⟩ := List.mem_map.1 hy
    exact fun hle => absurd (of_decide_eq_true hle) (Nat.not_le.2 (hin k (List.mem_range.1 hk)))
  show execReadSegmentDone dt s = _
  rw [execReadSegmentDone, State.after_of_mayReach s dt _ h]
  simp only [State.setNow_sc, hg, if_true, hinside]
  simp only [State.fillBuffer, State.setNow_link, hx, State.segmentAddrs, List.map_map]
  rfl

/-- Settles O13: the buffer of a wanted segment is the list of its store words. -/
theorem readSegmentFillsTheBuffer : Obligations.ReadSegmentFillsTheBuffer := by
  refine ⟨fun s a k hk => ⟨byteOf_loadWord s a hk, fun _ => rfl⟩, fun dt s burst a len wanted hold h hg =>
    ⟨?_, ?_⟩⟩
  · rintro rfl
    exact exec_readSegmentDone_discarded h hg
  · rintro rfl hin x hx
    have hrun := exec_readSegmentDone_wanted h hg hin hx
    generalize hwords : (List.range len).map (fun k => s.loadWord (beatAddr s.storeWords burst a k)) = words at hrun
    have hkeeps : Keeps [.link, .sc] s (segmentRead s (s.now + dt) x words) := by
      apply keeps_of <;> simp [segmentRead, State.storeByte]
    obtain ⟨w, htxn, -⟩ := arbitrate_txn (s := segmentRead s (s.now + dt) x words) rfl
    refine ⟨_, _, hrun, by simp [segmentRead], keeps_arbitrate hkeeps (by simp) (by simp), htxn, rfl, ?_,
      fun k hk => ?_, rfl⟩
    · simp [← hwords]
    · simp [← hwords, hk]

end Sys2Proof.Safety
end

section
/-! What a step does to the open transaction, the beat on LD, the Write Queue and the store. The link's own rows apart,
it leaves all four, or it places the head beat of the queue: the invariants of the link and of the store's words are
proved from this. -/

namespace Sys2Proof.Safety

open Machine

variable {s t u : State}

/-! ## Leaving the link and the store -/

/-- What of a transaction the Store Controller does not touch: all but its wish for a segment and its read buffer. -/
def served (x : Txn) : Txn := { x with wants := false, buffer := [] }

/-- Time may pass; the open transaction, the beat on LD, the Write Queue and the store are as they were, but for what
the Store Controller does for an open read. -/
structure Rests (s t : State) : Prop where
  now : s.now ≤ t.now
  txn : t.link.txn.map served = s.link.txn.map served
  ld : t.link.ld = s.link.ld
  queue : t.queue = s.queue
  store : t.store = s.store
  powerOns : t.powerOns = s.powerOns

theorem Rests.refl (s : State) : Rests s s := ⟨le_rfl, rfl, rfl, rfl, rfl, rfl⟩

theorem Rests.trans (h : Rests s t) (h' : Rests t u) : Rests s u where
  now := h.now.trans h'.now
  txn := h'.txn.trans h.txn
  ld := h'.ld.trans h.ld
  queue := h'.queue.trans h.queue
  store := h'.store.trans h.store
  powerOns := h'.powerOns.trans h.powerOns

theorem Rests.of_same (hn : t.now = s.now) (hl : t.link = s.link) (hq : t.queue = s.queue) (hs : t.store = s.store)
    (hp : t.powerOns = s.powerOns) : Rests s t := ⟨hn.ge, by rw [hl], by rw [hl], hq, hs, hp⟩

theorem rests_setNow {v : Tick} (h : s.now ≤ v) : Rests s (s.setNow v) := ⟨h, rfl, rfl, rfl, rfl, rfl⟩

/-- A grant decision touches no more of a transaction than its wish (R156). -/
theorem rests_arbitrate (s : State) : Rests s s.arbitrate where
  now := by simp
  txn := by
    obtain hsame | ⟨-, -, g, -, hg⟩ := arbitrate_cases s
    · rw [hsame]
    · rw [hg]
      cases g with
      | linkRead => exact (Option.map_map ..).trans rfl
      | _ => rfl
  ld := by simp
  queue := by simp
  store := by simp
  powerOns := by simp

theorem rests_endUnit (s : State) : Rests s s.endUnit := by
  have hfree : Rests s (s.setSc { s.sc with grant := none }) := .of_same rfl rfl rfl rfl rfl
  exact hfree.trans (rests_arbitrate _)

theorem Rests.arbitrate (h : Rests s t) : Rests s t.arbitrate := h.trans (rests_arbitrate t)

theorem Rests.endUnit (h : Rests s t) : Rests s t.endUnit := h.trans (rests_endUnit t)

theorem rests_after {dt : Nat} {body : State → Result} (h : s.after dt body = .next t)
    (hb : ∀ v, body v = .next t → Rests v t) : Rests s t :=
  (rests_setNow (Nat.le_add_right _ _)).trans (hb _ (State.after_next h).2)

theorem rests_atEnd {x : Option Timer} {body : State → Result} (h : s.atEnd x body = .next t)
    (hb : ∀ v, body v = .next t → Rests v t) : Rests s t := by
  obtain ⟨y, -, hreach, hy⟩ := State.atEnd_next h
  exact (rests_setNow ((State.mayReach_iff s _).1 hreach).1).trans (hb _ hy)

/-! ## The operations of the blocks -/

theorem rests_raise (s : State) (i : Source) : Rests s (s.raise i) := by constructor <;> simp

theorem rests_abortFrame (s : State) (c : FaultCause) : Rests s (s.abortFrame c) := by constructor <;> simp

theorem rests_enterStopped (s : State) : Rests s s.enterStopped := by constructor <;> simp

theorem rests_arise (s : State) (ds : List Damage) : Rests s (s.arise ds) := by constructor <;> simp

theorem rests_recordCommand (s : State) (x y : Byte) (o : CmdOutcome) : Rests s (s.recordCommand x y o) := by
  constructor <;> simp

theorem rests_acceptSos (s : State) : Rests s s.acceptSos := by
  simp only [State.acceptSos, State.countFacet]
  repeat' split
  all_goals constructor <;> simp

theorem rests_takeHome (s : State) : Rests s s.takeHome := by
  unfold State.takeHome
  repeat' split
  all_goals constructor <;> simp [State.primeFacets]

theorem rests_fallSilent (s : State) : Rests s s.fallSilent := by
  simp only [State.fallSilent]
  split
  all_goals constructor <;> simp

theorem rests_pixelClock (s : State) : Rests s s.pixelClock := by
  have houtput (v : State) (r g b : Half) : Rests v (v.output r g b) := .of_same rfl rfl rfl rfl rfl
  have hcount : Rests s s.countClock := .of_same rfl rfl rfl rfl rfl
  unfold State.pixelClock
  split
  · have hread (l) : Rests s.countClock (s.countClock.checkReads l) := by constructor <;> simp
    have hspoil (v : State) : Rests v v.markSpoiled := by constructor <;> simp
    simp only [State.sendPixel]
    split
    · exact ((hcount.trans (hread _)).trans (hspoil _)).trans (houtput _ _ _ _)
    · exact (hcount.trans (hread _)).trans (houtput _ _ _ _)
  · exact hcount.trans (houtput _ _ _ _)

theorem rests_gateFalls (s : State) : Rests s s.gateFalls := by
  unfold State.gateFalls
  repeat' split
  all_goals constructor <;> simp

theorem rests_setInterlock (s : State) (x : Bool) : Rests s (s.setInterlock x) := by constructor <;> simp

theorem rests_fillBuffer (s : State) (l : List Nat) : Rests s (s.fillBuffer l) := by
  unfold State.fillBuffer
  split
  · exact ⟨le_rfl, by simp [served, *], rfl, rfl, rfl, rfl⟩
  · exact .refl s

theorem rests_advanceFetch (s : State) (f : Fetch) (len : Nat) : Rests s (s.advanceFetch f len) := by
  simp only [State.advanceFetch]
  split <;> exact .of_same rfl rfl rfl rfl rfl

theorem rests_reloadWords (s : State) (x : TableUnit) (first len : Nat) : Rests s (s.reloadWords x first len) := by
  unfold State.reloadWords
  induction List.range len generalizing s with
  | nil => exact .refl s
  | cons j rest ih =>
    refine Rests.trans ?_ (ih _)
    dsimp only [State.reloadWord]
    split
    · constructor <;> simp
    · exact .refl s

theorem rests_advanceReload (s : State) (x : TableUnit) (len : Nat) : Rests s (s.advanceReload x len) := by
  simp only [State.advanceReload]
  split
  · constructor <;> simp [State.endReload]
  · exact .of_same rfl rfl rfl rfl rfl

theorem rests_readSegmentDone {dt : Nat} (h : execReadSegmentDone dt s = .next t) : Rests s t := by
  refine rests_after h fun v hv => ?_
  repeat' split at hv
  all_goals cases hv
  · exact (rests_fillBuffer _ _).endUnit
  · exact rests_endUnit _

theorem rests_feederSegmentDone {dt : Nat} (h : execFeederSegmentDone dt s = .next t) : Rests s t := by
  have hfill (v : State) (b : Fin 2) (pos len addr : Nat) : Rests v (v.fillBank b pos len addr) :=
    .of_same rfl rfl rfl rfl rfl
  refine rests_after h fun v hv => ?_
  repeat' split at hv
  all_goals cases hv
  · exact ((hfill _ _ _ _ _).trans (rests_advanceFetch _ _ _)).endUnit
  · exact rests_endUnit _

theorem rests_reloadSegmentDone {dt : Nat} (h : execReloadSegmentDone dt s = .next t) : Rests s t := by
  refine rests_after h fun v hv => ?_
  repeat' split at hv
  all_goals cases hv
  · exact ((rests_reloadWords _ _ _ _).trans (rests_advanceReload _ _ _)).endUnit
  · exact rests_endUnit _

/-! ## The effects of the commands (R147) -/

theorem rests_describeSlot (s : State) (n : Fin 8) : Rests s (s.describeSlot n).1 := by
  obtain h | ⟨d, -, h⟩ := describeSlot_or s n
  · rw [h]; exact .refl s
  · rw [h]; constructor <;> simp [State.acceptSlot, State.joinQueue]

theorem rests_sealFrame (s : State) (n : Fin 8) : Rests s (s.sealFrame n).1 := by
  unfold State.sealFrame
  split <;> constructor <;> simp

theorem rests_withdrawSlot (s : State) (n : Fin 8) : Rests s (s.withdrawSlot n).1 := by
  unfold State.withdrawSlot
  split <;> constructor <;> simp

theorem rests_releaseSlot (s : State) (n : Fin 8) : Rests s (s.releaseSlot n).1 := by
  unfold State.releaseSlot
  split <;> constructor <;> simp

theorem rests_slotCommand {effect : State → Fin 8 → State × CmdOutcome} (h : ∀ v n, Rests v (effect v n).1)
    (s : State) (w : Word) : Rests s (slotCommand effect s w).1 := by
  unfold slotCommand
  split
  · exact .refl s
  · exact h s _

theorem rests_reloadTable (s : State) (w : Word) : Rests s (s.reloadTable w).1 := by
  unfold State.reloadTable
  repeat' split
  all_goals constructor <;> simp [State.startReload]

theorem rests_runEngine (s : State) : Rests s s.runEngine := by
  unfold State.runEngine
  split <;> constructor <;> simp [State.setHalt]

theorem rests_haltEngine (s : State) : Rests s s.haltEngine := by
  unfold State.haltEngine
  split <;> constructor <;> simp [State.setHalt]

theorem rests_abortEngine (s : State) : Rests s s.abortEngine := by
  unfold State.abortEngine
  split <;> constructor <;> simp

theorem rests_scanApplied (s : State) : Rests s s.scanApplied.1 := by
  unfold State.scanApplied
  split <;> constructor <;> simp [State.applyScan, State.clearScanStats]

theorem rests_clearSticky (s : State) (mask : BitVec 16) : Rests s (s.clearSticky mask) := by
  constructor <;> simp [State.clearSticky]

theorem rests_setEventWord (s : State) (k : Fin 5) (b : Beat) : Rests s (s.setEventWord k b) := by
  constructor <;> simp [State.setEventWord]

theorem rests_stepMonitor (s : State) : Rests s s.stepMonitor := by
  unfold State.stepMonitor
  repeat' split
  all_goals exact .of_same rfl rfl rfl rfl rfl

theorem rests_tableWord (s : State) (x : TableUnit) (o : Nat) (b : Beat) : Rests s (s.tableWord x o b) := by
  simp only [State.tableWord]
  repeat' split
  all_goals constructor <;> simp [State.disturb]

/-! ## Placements -/

/-- What a row makes of a beat `b` of kind `k` that has left the queue: it drops it, stores it where it is no picture
word, or stores a converted word where the fetch line lets it (R39 to R42). -/
inductive Handles (u t : State) (b : Beat) (k : BeatKind) : Prop
  | dropped (h : Rests u t)
  | stored (hk : ∀ n, k ≠ .picture n) (h : Rests (u.storeBeat b) t)
  | converted (n : Fin 8) (hk : k = .picture n) (hl : (u.slot n).locks b.addr = false) (w : Word)
      (h : Rests (u.storeWord b.addr w 0xF#4) t)

theorem converting_store (s : State) (n : Fin 8) (b : Beat) : (converting s n b).store
    = (s.storeWord b.addr (s.convert (s.slot n).stock (s.slot n).bypass b.data) 0xF#4).store := by
  obtain ⟨x, y, h⟩ := converting_eq s n b
  rw [h]
  simp [State.storeWord]

/-- A picture word is dropped, or converted above the fetch line of its slot (R41). -/
theorem handles_pictureBeat (s : State) (n : Fin 8) (b : Beat) :
    Handles s (s.pictureBeat n b) b (.picture n) := by
  simp only [State.pictureBeat]
  split
  · exact .dropped (rests_raise s _)
  · rename_i hopen
    split
    · refine .dropped ?_
      constructor <;> simp [State.dropPartial]
    · refine .converted n rfl (by simp_all) (s.convert (s.slot n).stock (s.slot n).bypass b.data) ?_
      rw [convertBeat_eq]
      constructor <;> simp [converting_store]

/-- Damage that arises before a beat is handled leaves the link and the store. -/
theorem handles_arise (v : State) (b : Beat) (ds : List Damage) {k : BeatKind} (h : Handles (v.arise ds) t b k) :
    Handles v t b k := by
  have hstored (w : Word) (en : Enables) : Rests (v.storeWord b.addr w en) ((v.arise ds).storeWord b.addr w en) := by
    constructor <;> simp [State.storeWord]
  cases h with
  | dropped h => exact .dropped ((rests_arise v ds).trans h)
  | stored hk h => exact .stored hk ((hstored b.data b.enables).trans h)
  | converted n hk hl w h => exact .converted n hk (by simpa using hl) w ((hstored w _).trans h)

/-- What a step makes of the open transaction, the beat on LD, the Write Queue and the store, where it is no row of the
link and no reset: it leaves them, or it places the head beat of the queue at a tick not before its own. -/
inductive LinkSide (s t : State) : Prop
  | rests (h : Rests s t)
  | placed (v left : Nat) (hold : Timer) (b : Beat) (rest : List Beat) (hv : s.now ≤ v) (hq : s.queue = b :: rest)
      (h : Handles (afterTake s v left hold rest) t b (s.classify b))

/-- A placement takes the head beat of the queue, and its row handles it (R34, R39). -/
theorem linkSide_place {dt : Nat} {body : State → Beat → BeatKind → Option State} (h : s.place dt body = .next t)
    (hb : ∀ v b k, body v b k = some t → Handles v t b k) : LinkSide s t := by
  obtain ⟨-, b, left, hold, rest, hg, hq, -, ht⟩ := State.place_next h
  rw [dropBeat_eq hg hq] at ht
  exact .placed (s.now + dt) left hold b rest (Nat.le_add_right _ _) hq (hb _ _ _ ht)

/-- A command word is stored, takes effect and is recorded (R146). -/
theorem linkSide_runCommand {dt : Nat} {c : Cmd} {effect : State → Word → State × CmdOutcome}
    (h : s.runCommand dt c effect = .next t) (he : ∀ v w, Rests v (effect v w).1) : LinkSide s t := by
  refine linkSide_place h fun v b k hv => ?_
  split at hv
  · split at hv <;> cases hv
    exact .stored nofun ((he _ _).trans (rests_recordCommand _ _ _ _))
  · cases hv

/-- The rows of the link, and the resets that clear it. -/
def linkRow : Instr → Bool
  | .powerOn .. | .rstAssert .. | .linkHeader .. | .readAdmit .. | .writeAdmit .. | .writeBeat .. | .readBeat ..
  | .lselRise .. => true
  | _ => false

/-- Every command but the link's rows and the resets that clear the link. -/
theorem exec_linkSide (i : Instr) (hi : linkRow i = false) (h : exec i s = .next t) : LinkSide s t := by
  unfold exec at h
  cases i with
  | powerOn | rstAssert | linkHeader | readAdmit | writeAdmit | writeBeat | readBeat | lselRise => cases hi
  | rstRelease =>
    refine .rests (rests_after h fun v hv => ?_)
    dsimp only at hv
    split at hv <;> cases hv
    exact .arbitrate (.of_same rfl rfl rfl rfl rfl)
  | storeInitEnd | refreshDue =>
    refine .rests (rests_atEnd h fun v hv => ?_)
    cases hv
    exact .arbitrate (.of_same rfl rfl rfl rfl rfl)
  | refreshDone =>
    refine .rests (rests_after h fun v hv => ?_)
    split at hv <;> cases hv
    exact .endUnit (.of_same rfl rfl rfl rfl rfl)
  | placementUnitEnd =>
    refine .rests (rests_after h fun v hv => ?_)
    repeat' split at hv
    all_goals cases hv
    exact rests_endUnit v
  | readSegmentDone => exact .rests (rests_readSegmentDone h)
  | feederSegmentDone => exact .rests (rests_feederSegmentDone h)
  | reloadSegmentDone => exact .rests (rests_reloadSegmentDone h)
  | noEnableBeat | statusPageWrite =>
    refine linkSide_place h fun v b k hv => ?_
    split at hv <;> cases hv
    exact .dropped (.refl _)
  | storePlainWord =>
    refine linkSide_place h fun v b k hv => ?_
    split at hv <;> cases hv
    exact .stored nofun (.refl _)
  | placePictureWord dt arisen =>
    refine linkSide_place h fun v b k hv => ?_
    split at hv <;> cases hv
    exact handles_arise _ _ _ (handles_pictureBeat _ _ _)
  | tableWordWrite =>
    refine linkSide_place h fun v b k hv => ?_
    split at hv <;> cases hv
    exact .stored nofun (rests_tableWord _ _ _ _)
  | stagingWrite | auxFunctionWrite =>
    refine linkSide_place h fun v b k hv => ?_
    split at hv <;> cases hv
    all_goals exact .stored nofun (.of_same rfl rfl rfl rfl rfl)
  | eventSettingsWrite =>
    refine linkSide_place h fun v b k hv => ?_
    split at hv <;> cases hv
    exact .stored nofun (rests_setEventWord _ _ _)
  | malformedCommand | unknownCommand =>
    refine linkSide_place h fun v b k hv => ?_
    split at hv <;> cases hv
    exact .stored nofun (rests_recordCommand _ _ _ _)
  | describe => exact linkSide_runCommand h (rests_slotCommand rests_describeSlot)
  | sealSlot => exact linkSide_runCommand h (rests_slotCommand rests_sealFrame)
  | withdraw => exact linkSide_runCommand h (rests_slotCommand rests_withdrawSlot)
  | release => exact linkSide_runCommand h (rests_slotCommand rests_releaseSlot)
  | reload => exact linkSide_runCommand h rests_reloadTable
  | run => exact linkSide_runCommand h fun v _ => rests_runEngine v
  | halt => exact linkSide_runCommand h fun v _ => rests_haltEngine v
  | abort => exact linkSide_runCommand h fun v _ => rests_abortEngine v
  | scanApply => exact linkSide_runCommand h fun v _ => rests_scanApplied v
  | clearScanStats | monitorStop => exact linkSide_runCommand h fun v _ => .of_same rfl rfl rfl rfl rfl
  | clearEvents => exact linkSide_runCommand h fun v _ => rests_clearSticky v _
  | monitorStep => exact linkSide_runCommand h fun v _ => rests_stepMonitor v
  | sos =>
    refine .rests (rests_after h fun v hv => ?_)
    cases hv
    repeat' split
    · exact .refl v
    · exact .of_same rfl rfl rfl rfl rfl
    · exact rests_acceptSos v
  | home =>
    refine .rests (rests_after h fun v hv => ?_)
    cases hv
    split
    · exact .refl v
    · exact rests_takeHome v
  | silenceExpiry => exact .rests (rests_atEnd h fun v hv => by cases hv; exact rests_fallSilent v)
  | fetchBegin =>
    refine .rests (rests_after h fun v hv => ?_)
    split at hv <;> cases hv
    exact .arbitrate (.of_same rfl rfl rfl rfl rfl)
  | pixelDrive dt arisen =>
    refine .rests (rests_after h fun v hv => ?_)
    cases hv
    exact (rests_arise v arisen).trans (rests_pixelClock _)
  | gateFall =>
    refine .rests (rests_after h fun v hv => ?_)
    cases hv
    have hgate : Rests v (v.setGate false) := .of_same rfl rfl rfl rfl rfl
    exact hgate.trans (rests_gateFalls _)
  | gateRise => exact .rests (rests_after h fun v hv => by cases hv; exact .of_same rfl rfl rfl rfl rfl)
  | interlockOpen =>
    refine .rests (rests_after h fun v hv => ?_)
    cases hv
    have hzero (w : State) : Rests w w.zeroDrives := .of_same rfl rfl rfl rfl rfl
    exact ((rests_setInterlock v true).trans (hzero _)).trans (rests_abortFrame _ _)
  | interlockClose => exact .rests (rests_after h fun v hv => by cases hv; exact rests_setInterlock v false)
  | gateReleaseExpiry =>
    refine .rests (rests_atEnd h fun v hv => ?_)
    cases hv
    exact (rests_raise v _).trans (rests_enterStopped _)
  | donePulseEnd | pulseStretchEnd | sweepPulseEnd | frameStartPulseEnd | activityExpiry | activityBlinkToggle =>
    exact .rests (rests_atEnd h fun v hv => by cases hv; exact .of_same rfl rfl rfl rfl rfl)

end Sys2Proof.Safety
end

section
/-! The rows of the link, and what the invariants of the link make of every step: the Write Queue keeps its room, a beat
stays on LD for its own tick only, and no command writes below a fetch line (R31, R36, R38, R41). -/

namespace Sys2Proof.Safety

open Machine

variable {s t u : State}

/-! ## What a row of the link can do -/

/-- What a row of the link but READ_BEAT makes of the state at its tick, or the assertion of RST. -/
inductive LinkActs (s t : State) : Prop
  /-- The row is ignored (R44, R45). -/
  | ignored (h : t = s)
  /-- A header while RST is held: its level of LSEL is followed (R45, log 28). -/
  | held (h : t = (s.setPins { s.pins with lselLow := true }).setLink { s.link with ld := none })
  /-- The link is closed: LSEL has risen, or RST is asserted (R32, R45). -/
  | closed (hn : t.now = s.now) (ht : t.link.txn = none) (hd : t.link.ld = none) (hq : t.queue = s.queue ∨ t.queue = [])
      (hs : t.store = s.store) (hp : t.powerOns = s.powerOns)
  /-- A header opens its transaction (R26). -/
  | opened (w : Word)
      (h : t = ((s.setPins { s.pins with lselLow := true }).setLink { s.link with ld := none }).openTxn w)
  /-- LRDY rises (R29). -/
  | admitted (x : Txn) (hx : s.link.txn = some x) (hr : s.admitReady x = true)
      (h : t = s.setTxn (some { x with lrdy := true }))
  /-- A write beat out of range is discarded (R28). -/
  | outside (x : Txn) (hx : s.link.txn = some x) (ho : x.outOfRange = true)
      (h : t = s.setTxn (some { x with beats := x.beats + 1 }))
  /-- A write beat joins the Write Queue (R36). -/
  | queued (x : Txn) (w : Word) (en : Enables) (hx : s.link.txn = some x) (hw : x.write = true) (hr : x.lrdy = true)
      (ho : x.outOfRange = false) (hb : x.beats < 64) (h : t = s.enqueueBeat x w en)
  /-- A write beat beyond the 64th is discarded (R36). -/
  | overrun (x : Txn) (hx : s.link.txn = some x) (hb : 64 ≤ x.beats) (h : t = s.overrunBeat x)

theorem linkHeader_acts {dt : Nat} {w w' : Word} (h : execLinkHeader dt w w' s = .next t) :
    LinkActs (s.setNow (s.now + dt)) t := by
  have hbody := (State.after_next h).2
  dsimp only at hbody
  repeat' split at hbody
  all_goals cases hbody
  · exact .ignored rfl
  · exact .held rfl
  · exact .opened w rfl

theorem admit_acts {dt : Nat} (h : execReadAdmit dt s = .next t ∨ execWriteAdmit dt s = .next t) :
    LinkActs (s.setNow (s.now + dt)) t := by
  obtain h | h := h
  all_goals
    have hbody := (State.after_next h).2
    repeat' split at hbody
    all_goals cases hbody
    rename_i x hx _ hready
    exact .admitted x hx (Bool.and_eq_true_iff.1 hready).2 rfl

theorem writeBeat_acts {dt : Nat} {w : Word} {en : Enables} (h : execWriteBeat dt w en s = .next t) :
    LinkActs (s.setNow (s.now + dt)) t := by
  have hbody := (State.after_next h).2
  split at hbody
  · split at hbody <;> cases hbody
    exact .ignored rfl
  · rename_i x hx
    split_ifs at hbody with hw hr ho hb
    all_goals cases hbody
    · exact .outside x hx ho rfl
    · exact .queued x w en hx (by simpa using hw) (by simpa using hr) (by simpa using ho) hb rfl
    · exact .overrun x hx (Nat.not_lt.1 hb) rfl

theorem lselRise_acts {dt : Nat} (h : execLselRise dt s = .next t) : LinkActs (s.setNow (s.now + dt)) t := by
  cases (State.after_next h).2
  exact .closed rfl rfl rfl (.inl rfl) rfl rfl

theorem rstAssert_acts {dt : Nat} (h : execRstAssert dt s = .next t) : LinkActs (s.setNow (s.now + dt)) t := by
  cases (State.after_next h).2
  rw [bridgeReset_eq]
  refine .closed ?_ ?_ ?_ (.inr ?_) ?_ ?_ <;> simp [bridgeBlocks, LinkPort.reset]

/-- Every command is a power-on, a read beat, another row of the link at its tick, or one that leaves the link or places
a beat. -/
inductive StepKind (c : Instr) (s t : State) : Prop
  | powerOn (dt : Nat) (straps : Straps) (gate interlock lselLow : Bool)
      (h : c = .powerOn dt straps gate interlock lselLow)
  | readBeat (dt : Nat) (h : c = .readBeat dt)
  | link (v : Tick) (hv : s.now ≤ v) (h : LinkActs (s.setNow v) t)
  | side (h : LinkSide s t)

theorem exec_kind (c : Instr) (h : exec c s = .next t) : StepKind c s t := by
  cases hc : linkRow c with
  | false => exact .side (exec_linkSide c hc h)
  | true =>
    unfold exec at h
    cases c with
    | powerOn => exact .powerOn _ _ _ _ _ rfl
    | readBeat => exact .readBeat _ rfl
    | rstAssert => exact .link _ (Nat.le_add_right _ _) (rstAssert_acts h)
    | linkHeader => exact .link _ (Nat.le_add_right _ _) (linkHeader_acts h)
    | readAdmit => exact .link _ (Nat.le_add_right _ _) (admit_acts (.inl h))
    | writeAdmit => exact .link _ (Nat.le_add_right _ _) (admit_acts (.inr h))
    | writeBeat => exact .link _ (Nat.le_add_right _ _) (writeBeat_acts h)
    | lselRise => exact .link _ (Nat.le_add_right _ _) (lselRise_acts h)
    | _ => cases hc

/-- A read beat is delivered to an open read (R31). -/
theorem readBeat_delivers {dt : Nat} (h : execReadBeat dt s = .next t) : ∃ x w buffer snap,
    s.link.txn = some x ∧ x.write = false ∧ t = (s.setNow (s.now + dt)).deliver x w buffer snap := by
  have hbody := (State.after_next h).2
  split at hbody
  · cases hbody
  · rename_i x hx
    dsimp only at hbody
    repeat' split at hbody
    all_goals cases hbody
    all_goals exact ⟨x, _, _, _, hx, by simp_all, rfl⟩

/-! ## The blocks of the link's rows -/

theorem openTxn_frame (s : State) (w : Word) : (s.openTxn w).now = s.now ∧ (s.openTxn w).store = s.store
    ∧ (s.openTxn w).powerOns = s.powerOns ∧ (s.openTxn w).queue = s.queue ∧ (s.openTxn w).link.ld = s.link.ld := by
  simp only [State.openTxn, State.admitNow, State.countOutOfRange]
  repeat' split
  all_goals simp [State.setTxn]

/-- The link's rows take no time of their own and write no store byte (R152). -/
theorem LinkActs.kept (h : LinkActs s t) : t.now = s.now ∧ t.store = s.store ∧ t.powerOns = s.powerOns
    ∧ (t.link.ld = none ∨ t.link.ld = s.link.ld) := by
  cases h with
  | ignored h => subst h; simp
  | held h => subst h; simp
  | closed hn ht hd hq hs hp => exact ⟨hn, hs, hp, .inl hd⟩
  | opened w h => subst h; simp [openTxn_frame]
  | admitted x hx hr h => subst h; simp [State.setTxn]
  | outside x hx ho h => subst h; simp [State.setTxn]
  | queued x w en hx hw hr ho hb h => subst h; simp [State.enqueueBeat, State.setTxn]
  | overrun x hx hb h => subst h; simp [State.overrunBeat]

theorem deliver_frame (s : State) (x : Txn) (w : Word) (buffer : List Word) (snap : Option (Nat × List Word)) :
    (s.deliver x w buffer snap).now = s.now ∧ (s.deliver x w buffer snap).store = s.store
      ∧ (s.deliver x w buffer snap).powerOns = s.powerOns ∧ (s.deliver x w buffer snap).queue = s.queue
      ∧ (s.deliver x w buffer snap).link.ld = some ⟨w, s.now⟩ := by
  simp [State.deliver]

/-! ## Locked words (R41, R121) -/

/-- A picture word at or below its slot's fetch line is locked (R41 step 1). -/
theorem locks_of_picture {x : Slot} {a line column : Nat} (hpitch : x.width ≤ x.pitch) (hp : IsPicture x a line column)
    (hl : (line : Int) ≤ x.fetchLine) : x.locks a = true := by
  simp only [Slot.locks, locate_of_picture hpitch hp]
  exact decide_eq_true hl

/-- A beat with no enable changes no byte (R39 step 1). -/
theorem storeByte_no_enable {b : Beat} (s : State) (he : b.enables = 0) (cell : Nat) :
    (s.storeBeat b).storeByte cell = s.storeByte cell := by
  rw [storeByte_storeBeat, if_neg]
  simp [he]

/-- The word a row stores is not a locked picture word. -/
theorem handles_keeps_locked {b : Beat} {n : Fin 8} {a line column cell : Nat} (h : Handles u t b (s.classify b))
    (hr : RegionsDisjoint s) (hslots : u.slots = s.slots) (hp : IsPicture (s.slot n) a line column)
    (hl : (line : Int) ≤ (s.slot n).fetchLine) (hcell : cell / 4 = a) : t.storeByte cell = u.storeByte cell := by
  obtain ⟨hbelow, -⟩ := id hr
  obtain ⟨-, -, hpitch, -⟩ := hbelow n hp.1
  have hkind (he : b.enables ≠ 0) (hb : b.addr = a) : s.classify b = .picture n := classify_picture hr he (hb ▸ hp)
  cases h with
  | dropped h => exact storeByte_of h.store h.powerOns cell
  | stored hk h =>
    rw [storeByte_of h.store h.powerOns]
    by_cases he : b.enables = 0
    · exact storeByte_no_enable u he cell
    · have hne : b.addr ≠ a := fun hb => hk n (hkind he hb)
      rw [storeByte_storeBeat, if_neg fun h => hne (h.1.symm.trans hcell)]
  | converted m hk hunlocked w h =>
    rw [storeByte_of h.store h.powerOns, State.storeByte_storeWord, if_neg]
    rintro ⟨hb, -⟩
    have he : b.enables ≠ 0 := fun he => by simp [State.classify, he] at hk
    have hb : b.addr = a := hb.symm.trans hcell
    rw [hkind he hb] at hk
    cases hk
    rw [slot_congr hslots, hb, locks_of_picture hpitch hp hl] at hunlocked
    cases hunlocked

/-- Settles O60: only a placement writes the store, and its row stores a picture word above the fetch line alone. -/
theorem lockedLinesKeepTheirWords : Obligations.LockedLinesKeepTheirWords := by
  intro c s t n a line column k hr hc h hp hl hk
  cases exec_kind c h with
  | powerOn dt straps gate interlock lselLow hpower => exact absurd hpower (hc dt straps gate interlock lselLow)
  | readBeat dt hread =>
    subst hread
    obtain ⟨x, w, buffer, snap, -, -, rfl⟩ := readBeat_delivers h
    obtain ⟨-, hstore, hpower, -⟩ := deliver_frame (s.setNow (s.now + dt)) x w buffer snap
    exact storeByte_of hstore hpower _
  | link v hv hacts =>
    obtain ⟨-, hstore, hpower, -⟩ := hacts.kept
    exact storeByte_of hstore hpower _
  | side hside =>
    cases hside with
    | rests hrests => exact storeByte_of hrests.store hrests.powerOns _
    | placed v left hold b rest hv hq hhandles =>
      exact handles_keeps_locked (u := afterTake s v left hold rest) hhandles hr rfl hp hl (by omega)

/-! ## The room of the Write Queue (R36, R38) -/

/-- What the queue's room asks of a transaction is unchanged by what the Store Controller does for a read. -/
theorem QueueHasRoom.of_served (h : QueueHasRoom s) (htxn : t.link.txn.map served = s.link.txn.map served)
    (hq : t.queue.length ≤ s.queue.length) : QueueHasRoom t := by
  obtain ⟨hlen, hroom⟩ := h
  refine ⟨hq.trans hlen, fun y hy hw hr ho => ?_⟩
  rw [Option.mem_def.1 hy, Option.map_some, eq_comm, Option.map_eq_some_iff] at htxn
  obtain ⟨x, hx, hxy⟩ := htxn
  have hw' : x.write = y.write := by simpa [served] using congrArg Txn.write hxy
  have hr' : x.lrdy = y.lrdy := by simpa [served] using congrArg Txn.lrdy hxy
  have ho' : x.outOfRange = y.outOfRange := by simpa [served] using congrArg Txn.outOfRange hxy
  have hb' : x.beats = y.beats := by simpa [served] using congrArg Txn.beats hxy
  have := hroom x hx (hw'.trans hw) (hr'.trans hr) (ho'.trans ho)
  omega

theorem Handles.rests_link {b : Beat} {k : BeatKind} (h : Handles u t b k) :
    t.link.txn.map served = u.link.txn.map served ∧ t.link.ld = u.link.ld ∧ t.queue = u.queue ∧ u.now ≤ t.now := by
  cases h with
  | dropped h => exact ⟨h.txn, h.ld, h.queue, h.now⟩
  | stored hk h => exact ⟨by simpa using h.txn, by simpa using h.ld, by simpa using h.queue, by simpa using h.now⟩
  | converted n hk hl w h =>
    exact ⟨by simpa using h.txn, by simpa using h.ld, by simpa using h.queue, by simpa using h.now⟩

/-- A step that is no row of the link leaves the transaction and LD, and the queue grows no longer. -/
theorem LinkSide.kept (h : LinkSide s t) : s.now ≤ t.now ∧ t.link.txn.map served = s.link.txn.map served
    ∧ t.link.ld = s.link.ld ∧ t.queue.length ≤ s.queue.length := by
  cases h with
  | rests h => exact ⟨h.now, h.txn, h.ld, by rw [h.queue]⟩
  | placed v left hold b rest hv hq h =>
    obtain ⟨htxn, hld, hqueue, hnow⟩ := h.rests_link
    exact ⟨hv.trans hnow, htxn, hld, by rw [hqueue, hq]; exact Nat.le_succ _⟩

end Sys2Proof.Safety
end

section
/-! Headers: the transaction a header opens, its first segment and its LRDY (R26 to R30, R33). -/

namespace Sys2Proof.Safety

open Machine

variable {s t : State} {x : Txn}

/-! ## The grant of a read segment (R30, R156) -/

/-- The next grant is a read's, if it asks: the store is in service and free, and nothing of a higher rank asks. -/
def ReadIsNext (s : State) : Prop :=
  s.sc.init = none ∧ s.sc.grant = none ∧ s.sc.pendingRefresh < 8 ∧ s.feeder.fetch = none ∧ s.queue = []

theorem arbitrate_read (h : ReadIsNext s) (hx : s.link.txn = some x) (hw : x.wants = true) :
    s.arbitrate = granted s (s.readSegment x) := by
  obtain ⟨hinit, hfree, hrefresh, hfetch, hqueue⟩ := h
  refine arbitrate_grants hinit hfree ?_
  simp [nextGrant_eq, Nat.not_le.2 hrefresh, feederRequest_none hfetch, linkRequest_read hqueue hx hw]

/-- The segment of a read starts at its next beat's word and runs round its burst (R31). -/
theorem readSegment_eq (s : State) (x : Txn) : ∃ len, s.readSegment x = .linkRead x.burst (s.nextAddr x) len true := by
  unfold State.readSegment
  cases x.burst <;> exact ⟨_, rfl⟩

/-- Only a read that is next is granted a segment. -/
theorem readIsNext_of_nextGrant {b : Burst} {a len : Nat} {wanted : Bool}
    (h : s.nextGrant = some (.linkRead b a len wanted)) :
    s.sc.pendingRefresh < 8 ∧ s.feeder.fetch = none ∧ s.queue = [] := by
  rw [nextGrant_eq] at h
  split_ifs at h with hurgent hfeeder hlink hlow
  · cases h
  · simp [State.feederRequest] at h
  · refine ⟨Nat.not_le.1 hurgent, by simpa [State.feederRequest] using hfeeder, ?_⟩
    by_contra hqueue
    rw [linkRequest_queued hqueue] at h
    cases h
  · cases h
  · simp [State.reloadRequest] at h

theorem arbitrate_read_waits (h : ¬ ReadIsNext s) : s.arbitrate.link = s.link := by
  obtain hsame | ⟨hinit, hfree, g, hg, hgranted⟩ := arbitrate_cases s
  · rw [hsame]
  · rw [hgranted]
    cases g with
    | linkRead b a len wanted => exact absurd ⟨hinit, hfree, readIsNext_of_nextGrant hg⟩ h
    | _ => rfl

/-- What a grant decision makes of the wish of an open read. -/
theorem arbitrate_wants (hx : s.link.txn = some x) : ∃ w, s.arbitrate.link.txn = some { x with wants := w }
    ∧ (w = true ↔ x.wants = true ∧ ¬ ReadIsNext s) := by
  by_cases hwants : x.wants = true
  · by_cases hnext : ReadIsNext s
    · obtain ⟨len, hsegment⟩ := readSegment_eq s x
      exact ⟨false, by simp [arbitrate_read hnext hx hwants, hsegment, granted, hx], by simp [hnext]⟩
    · exact ⟨true, by rw [arbitrate_read_waits hnext, hx, ← hwants], by simp [hwants, hnext]⟩
  · obtain ⟨w, htxn, hw⟩ := arbitrate_txn hx
    exact ⟨w, htxn, by simp_all⟩

/-! ## The transaction of a header (R26, R28) -/

/-- The words of a header (section 11.1). -/
theorem headerTxn_eq (s : State) (w : Word) : s.headerTxn w = {
    write := w.getLsbD 31
    burst := if w.getLsbD 30 then
        .wrapped (if w.toNat / 2 ^ 28 % 4 = 0 then 8 else if w.toNat / 2 ^ 28 % 4 = 1 then 16 else 32) else .linear
    addr := w.toNat % 2 ^ 28
    outOfRange := decide (s.storeWords ≤ w.toNat % 2 ^ 28)
    lrdy := false
    beats := 0
    wants := !w.getLsbD 31 && decide (w.toNat % 2 ^ 28 < s.storeWords) && !s.isStatus (w.toNat % 2 ^ 28)
    buffer := []
    snapshot := none } := by
  have hsize : field w 28 2 = w.toNat / 2 ^ 28 % 4 := by simp [field, Nat.shiftRight_eq_div_pow]
  have hgroup (n : Nat) : groupSize n = if n = 0 then 8 else if n = 1 then 16 else 32 := by
    unfold groupSize; split <;> simp_all
  have haddr : headerAddr w = w.toNat % 2 ^ 28 := field_low w 28
  simp only [State.headerTxn, haddr, headerWrite, headerBurst, hsize, hgroup]

/-- The first beat of a burst in range is at the header's address (R27). -/
theorem headerTxn_nextAddr {w : Word} (h : (s.headerTxn w).addr < s.storeWords) :
    s.nextAddr (s.headerTxn w) = (s.headerTxn w).addr := by
  rw [headerTxn_eq] at h ⊢
  unfold State.nextAddr beatAddr
  dsimp only at h ⊢
  cases w.getLsbD 30
  · exact Nat.mod_eq_of_lt h
  · simp only [↓reduceIte]
    split_ifs <;> omega

/-! ## Opening it (R26 to R30) -/

/-- The transaction of a header is open, and counted if it is out of range; no grant decision has been made (R28). -/
def headed (s : State) (w : Word) : State :=
  (if (s.headerTxn w).outOfRange then s.countOutOfRange else s).setTxn (some (s.headerTxn w))

theorem openTxn_eq (s : State) (w : Word) : s.openTxn w = (headed s w).arbitrate.admitNow := rfl

/-- LRDY rises with its condition, and nothing else changes (R29). -/
theorem admitNow_eq (hx : s.link.txn = some x) :
    s.admitNow = s.setTxn (some { x with lrdy := x.lrdy || s.admitReady x }) := by
  unfold State.admitNow
  cases hready : s.admitReady x <;> simp [hx, hready, State.setTxn, State.setLink]
  rw [← hx]

theorem admitReady_arbitrate (s : State) (x : Txn) : s.arbitrate.admitReady x = s.admitReady x := by
  simp [State.admitReady, arbitrate_init]

theorem headed_link (s : State) (w : Word) : (headed s w).link = { s.link with
    txn := some (s.headerTxn w)
    outOfRange := if (s.headerTxn w).outOfRange then min (s.link.outOfRange + 1) 65535 else s.link.outOfRange } := by
  unfold headed
  split_ifs <;> simp [State.setTxn, State.countOutOfRange, satIncr]

theorem headed_keeps (s : State) (w : Word) : Keeps [.link, .events] s (headed s w) := by
  unfold headed
  split_ifs <;> apply keeps_of <;> simp [State.setTxn, State.countOutOfRange, State.storeByte]

theorem headed_raised (s : State) (w : Word) :
    Raised (if (s.headerTxn w).outOfRange then [.linkFault] else []) s (headed s w) := by
  unfold headed
  split_ifs
  · have hcounted : Raised [] s (s.setLink { s.link with outOfRange := satIncr s.link.outOfRange }) := raised_nil rfl
    exact raised_congr (raised_cons hcounted .linkFault) rfl rfl
  · exact raised_nil rfl

/-- The open transaction: its segment is granted if a read is next, and LRDY rises with its condition (R30, R33). -/
theorem openTxn_txn (s : State) (w : Word) : ∃ wants, (wants = true ↔ (s.headerTxn w).wants = true ∧ ¬ ReadIsNext s)
    ∧ s.openTxn w = (headed s w).arbitrate.setTxn (some { s.headerTxn w with
        wants := wants, lrdy := s.admitReady { s.headerTxn w with wants := wants } }) := by
  have hkeeps := headed_keeps s w
  have hqueue : (headed s w).queue = s.queue := hkeeps .queue (by simp)
  have hsc : (headed s w).sc = s.sc := hkeeps .sc (by simp)
  have hfeeder : (headed s w).feeder = s.feeder := hkeeps .feeder (by simp)
  have hnext : ReadIsNext (headed s w) ↔ ReadIsNext s := by simp only [ReadIsNext, hqueue, hsc, hfeeder]
  obtain ⟨wants, htxn, hwants⟩ := arbitrate_wants (s := headed s w) (x := s.headerTxn w) (by rw [headed_link])
  refine ⟨wants, by rw [hwants, hnext], ?_⟩
  have hready : (headed s w).admitReady = s.admitReady := by funext y; simp [State.admitReady, hqueue, hsc]
  rw [openTxn_eq, admitNow_eq htxn, admitReady_arbitrate, hready]
  rfl

end Sys2Proof.Safety
end

section
/-! The Write Queue keeps its room over every step (R36, R38). -/

namespace Sys2Proof.Safety

open Machine

variable {s t : State} {x : Txn}

/-- An answered write in range has its 64 free entries (R33). -/
theorem room_of_admitReady (hready : s.admitReady x = true) (hw : x.write = true) (ho : x.outOfRange = false) :
    s.queue.length + 64 ≤ 256 := by
  simpa [State.admitReady, hw, ho, Config.burstBeats, Config.queueBeats] using hready

/-- With no answered write in range open, the queue's own bound is all. -/
theorem QueueHasRoom.of_txn (hlen : s.queue.length ≤ 256) (hx : s.link.txn = some x)
    (h : x.write = true → x.lrdy = true → x.outOfRange = false → s.queue.length + (64 - x.beats) ≤ 256) :
    QueueHasRoom s := by
  refine ⟨hlen, fun y hy => ?_⟩
  rw [Option.mem_def, hx] at hy
  cases hy
  exact h

theorem QueueHasRoom.of_idle (hlen : s.queue.length ≤ 256) (hx : s.link.txn = none) : QueueHasRoom s :=
  ⟨hlen, fun y hy => by rw [hx] at hy; cases hy⟩

theorem openTxn_room (w : Word) (h : QueueHasRoom s) : QueueHasRoom (s.openTxn w) := by
  obtain ⟨hlen, -⟩ := h
  obtain ⟨-, -, -, hqueue, -⟩ := openTxn_frame s w
  obtain ⟨wants, -, hopen⟩ := openTxn_txn s w
  refine .of_txn (by rwa [hqueue]) (x := _) (by rw [hopen]; rfl) fun hw hready ho => ?_
  rw [hqueue]
  have := room_of_admitReady hready hw ho
  omega

/-- The rows of the link keep the room: LRDY rises with 64 free entries, and a beat takes one of them (R33, R36). -/
theorem LinkActs.room (h : LinkActs s t) (hs : QueueHasRoom s) : QueueHasRoom t := by
  obtain ⟨hlen, hroom⟩ := id hs
  cases h with
  | ignored h => exact h ▸ hs
  | held h => exact h ▸ hs
  | closed hn ht hd hq hs' hp => exact .of_idle (by rcases hq with hq | hq <;> simp [hq, hlen]) ht
  | opened w h => exact h ▸ openTxn_room w hs
  | admitted x hx hready h =>
    subst h
    refine .of_txn hlen rfl fun hw _ ho => ?_
    have hfree := room_of_admitReady hready hw ho
    change s.queue.length + (64 - x.beats) ≤ 256
    omega
  | outside x hx ho h =>
    subst h
    exact .of_txn hlen rfl fun _ _ hin => absurd (hin.symm.trans ho) nofun
  | queued x w en hx hw hready ho hb h =>
    subst h
    have hfree := hroom x hx hw hready ho
    have hqueue : (s.enqueueBeat x w en).queue = s.queue ++ [⟨s.nextAddr x, w, en⟩] := by
      simp [State.enqueueBeat]
    obtain ⟨v, htxn, -⟩ := arbitrate_txn (s := (s.setTxn (some { x with beats := x.beats + 1 })).setQueue
      (s.queue ++ [⟨s.nextAddr x, w, en⟩])) rfl
    refine .of_txn ?_ htxn fun _ _ _ => ?_ <;> rw [hqueue] <;> simp only [List.length_append, List.length_singleton]
    all_goals omega
  | overrun x hx hb h =>
    subst h
    have hqueue : (s.overrunBeat x).queue = s.queue := by simp [State.overrunBeat]
    have htxn : (s.overrunBeat x).link.txn = some { x with beats := x.beats + 1 } := by simp [State.overrunBeat]
    refine .of_txn (by rwa [hqueue]) htxn fun _ _ _ => ?_
    rw [hqueue]
    dsimp only
    omega

/-- The transaction after a read beat (R31, R35). -/
theorem deliver_txn (s : State) (x : Txn) (w : Word) (buffer : List Word) (snap : Option (Nat × List Word)) :
    ∃ wants, (s.deliver x w buffer snap).link.txn
      = some { x with beats := x.beats + 1, buffer := buffer, snapshot := snap, wants := wants } := by
  obtain ⟨wants, htxn, -⟩ := arbitrate_txn (s := s.setLink { s.link with
    txn := some { x with
      beats := x.beats + 1, buffer := buffer, snapshot := snap,
      wants := buffer.isEmpty && !s.isStatus (beatAddr s.storeWords x.burst x.addr (x.beats + 1)) }
    ld := some ⟨w, s.now⟩ }) rfl
  exact ⟨wants, htxn⟩

/-- A read beat is none of a write's. -/
theorem deliver_room {w : Word} {buffer : List Word} {snap : Option (Nat × List Word)} (hw : x.write = false)
    (h : QueueHasRoom s) : QueueHasRoom (s.deliver x w buffer snap) := by
  obtain ⟨hlen, -⟩ := h
  obtain ⟨-, -, -, hqueue, -⟩ := deliver_frame s x w buffer snap
  obtain ⟨v, htxn⟩ := deliver_txn s x w buffer snap
  exact .of_txn (by rwa [hqueue]) htxn fun hwrite => absurd (hwrite.symm.trans hw) nofun

theorem exec_keeps_room {c : Instr} (h : exec c s = .next t) (hs : QueueHasRoom s) : QueueHasRoom t := by
  cases exec_kind c h with
  | powerOn dt straps gate interlock lselLow hpower =>
    subst hpower
    obtain ⟨w, hrun, -⟩ := exec_powerOn dt straps gate interlock lselLow s
    rw [h] at hrun
    cases hrun
    exact .of_idle (Nat.zero_le _) rfl
  | readBeat dt hread =>
    subst hread
    obtain ⟨x, w, buffer, snap, -, hw, rfl⟩ := readBeat_delivers h
    exact deliver_room hw hs
  | link v hv hacts => exact hacts.room hs
  | side hside =>
    obtain ⟨-, htxn, -, hqueue⟩ := hside.kept
    exact hs.of_served htxn hqueue

/-- Settles O50: the queue grows by a write beat alone, which takes an entry its transaction was promised. -/
theorem queueKeepsRoom : Obligations.QueueKeepsRoom := by
  intro s t hs h
  unfold step at h
  split at h
  · cases h
    exact hs
  · exact exec_keeps_room h hs

end Sys2Proof.Safety
end

section
/-! The rows of the store link: headers, LRDY, write and read beats, and the end of a transaction (R26 to R37). -/

namespace Sys2Proof.Safety

open Machine

variable {s t u : State} {x : Txn}

theorem Keeps.trans {l : List Block} (h : Keeps l s u) (h' : Keeps l u t) : Keeps l s t := by
  intro b hb
  have hsu := h b hb
  have hut := h' b hb
  cases b <;> simp_all [Block.same]

theorem Keeps.mono {l m : List Block} (h : Keeps l s t) (hsub : l ⊆ m) : Keeps m s t :=
  fun b hb => h b fun hl => hb (hsub hl)

/-! ## LINK_HEADER (R26 to R30) -/

/-- A header is heard at tick `v`: LSEL is low, and LD carries no beat (R26, R31). -/
def heard (s : State) (v : Tick) : State :=
  { s with now := v, pins := { s.pins with lselLow := true }, link := { s.link with ld := none } }

theorem heard_keeps (s : State) (v : Tick) : Keeps [.pins, .link] s (heard s v) := by
  apply keeps_of <;> simp [heard, State.storeByte]

theorem exec_linkHeader {dt : Nat} (w w' : Word) (h : s.mayReach (s.now + dt) = true) (hl : s.pins.lselLow = false)
    (hr : s.pins.rst = false) : exec (.linkHeader dt w w') s = .next ((heard s (s.now + dt)).openTxn w) := by
  show execLinkHeader dt w w' s = _
  rw [execLinkHeader, State.after_of_mayReach _ _ _ h]
  exact (if_neg (ne_true_of_eq_false hl)).trans (if_neg (ne_true_of_eq_false hr))

/-- A header opens no transaction while LSEL is low already. -/
theorem lselLow_of_opened {dt : Nat} {w w' : Word} (h : exec (.linkHeader dt w w') s = .next t)
    (hx : t.link.txn = some x) : s.mayReach (s.now + dt) = true ∧ s.pins.lselLow = false := by
  change execLinkHeader dt w w' s = .next t at h
  obtain ⟨hreach, hbody⟩ := State.after_next h
  refine ⟨hreach, ?_⟩
  rw [← Bool.not_eq_true]
  intro hl
  rw [if_pos (show (s.setNow (s.now + dt)).pins.lselLow = true from hl)] at hbody
  split at hbody <;> cases hbody
  simp_all

theorem openTxn_keeps (s : State) (w : Word) : Keeps [.link, .sc, .events] s (s.openTxn w) := by
  obtain ⟨wants, -, hopen⟩ := openTxn_txn s w
  have hdecided : Keeps [.link, .sc, .events] s (headed s w).arbitrate :=
    keeps_arbitrate ((headed_keeps s w).mono (by simp)) (by simp) (by simp)
  rw [hopen]
  refine hdecided.trans ?_
  apply keeps_of <;> simp [State.setTxn, State.storeByte]

/-- The blocks of a read's request are the header's, before a decision and after. -/
theorem readIsNext_headed (s : State) (w : Word) : ReadIsNext (headed s w) ↔ ReadIsNext s := by
  have hkeeps := headed_keeps s w
  have hqueue : (headed s w).queue = s.queue := hkeeps .queue (by simp)
  have hsc : (headed s w).sc = s.sc := hkeeps .sc (by simp)
  have hfeeder : (headed s w).feeder = s.feeder := hkeeps .feeder (by simp)
  simp only [ReadIsNext, hqueue, hsc, hfeeder]

theorem openTxn_grants (s : State) (w : Word) : OnlyGrants s (s.openTxn w) := by
  obtain ⟨wants, -, hopen⟩ := openTxn_txn s w
  obtain ⟨hsc, hheld⟩ := onlyGrants_arbitrate (headed s w)
  rw [show (headed s w).sc = s.sc from headed_keeps s w .sc (by simp)] at hsc hheld
  rw [hopen]
  exact ⟨hsc, hheld⟩

/-- The grant an opened read of store words is given when a read is next (R30, R156). -/
theorem openTxn_segment {w : Word} (h : ReadIsNext s) (hw : (s.headerTxn w).wants = true) :
    ∃ g ∈ (s.openTxn w).sc.grant, ∃ len,
      g.unit = .linkRead (s.headerTxn w).burst (s.headerTxn w).addr len true := by
  obtain ⟨len, hsegment⟩ := readSegment_eq (headed s w) (s.headerTxn w)
  have hsc : (headed s w).sc = s.sc := headed_keeps s w .sc (by simp)
  have haddr : (headed s w).nextAddr (s.headerTxn w) = (s.headerTxn w).addr := by
    have hin : (s.headerTxn w).addr < s.storeWords := by
      rw [headerTxn_eq] at hw ⊢
      simp_all
    rw [← headerTxn_nextAddr hin, State.nextAddr, State.nextAddr, State.storeWords, State.storeWords, hsc]
  obtain ⟨wants, -, hopen⟩ := openTxn_txn s w
  rw [hopen, arbitrate_read ((readIsNext_headed s w).2 h) (by rw [headed_link]) hw, hsegment, haddr]
  exact ⟨_, rfl, len, rfl⟩

theorem openTxn_outOfRange (s : State) (w : Word) : (s.openTxn w).link.outOfRange =
    if (s.headerTxn w).outOfRange then min (s.link.outOfRange + 1) 65535 else s.link.outOfRange := by
  obtain ⟨wants, -, hopen⟩ := openTxn_txn s w
  rw [hopen, State.setTxn, State.setLink_link, State.arbitrate_link, headed_link]

theorem openTxn_link (s : State) (w : Word) : (s.openTxn w).link =
    { s.link with txn := (s.openTxn w).link.txn, outOfRange := (s.openTxn w).link.outOfRange } := by
  obtain ⟨wants, -, hopen⟩ := openTxn_txn s w
  rw [hopen, State.setTxn, State.setLink_link, State.arbitrate_link, headed_link]

theorem openTxn_raised (s : State) (w : Word) :
    Raised (if (s.headerTxn w).outOfRange then [.linkFault] else []) s (s.openTxn w) := by
  obtain ⟨wants, -, hopen⟩ := openTxn_txn s w
  rw [hopen]
  exact raised_congr (headed_raised s w) (by simp [State.setTxn]) (by simp [State.setTxn])

theorem openTxn_link_txn (s : State) (w : Word) : ∃ wants lrdy,
    (s.openTxn w).link.txn = some { s.headerTxn w with wants := wants, lrdy := lrdy }
      ∧ (wants = true ↔ (s.headerTxn w).wants = true ∧ ¬ ReadIsNext s)
      ∧ lrdy = s.admitReady { s.headerTxn w with wants := wants } := by
  obtain ⟨wants, hwants, hopen⟩ := openTxn_txn s w
  exact ⟨wants, _, by rw [hopen]; rfl, hwants, rfl⟩

/-- A header's read wants a segment if its address is a store word (R30). -/
theorem headerTxn_wants (s : State) (w : Word) : (s.headerTxn w).wants = true ↔
    (s.headerTxn w).write = false ∧ (s.headerTxn w).addr < s.storeWords
      ∧ s.isStatus (s.headerTxn w).addr = false := by
  simp [State.headerTxn, and_assoc]

theorem headerTxn_outOfRange (s : State) (w : Word) :
    (s.headerTxn w).outOfRange = true ↔ s.storeWords ≤ (s.headerTxn w).addr := by
  simp [State.headerTxn]

/-- Settles O6: the opened transaction is the decoded header, its wish and LRDY apart. -/
theorem headerOpensTransaction : Obligations.HeaderOpensTransaction := by
  intro dt w1 w2 s h hl hr
  have hkeeps : Keeps [.pins, .link, .sc, .events] s ((heard s (s.now + dt)).openTxn w1) :=
    ((heard_keeps s _).mono (by simp)).trans ((openTxn_keeps _ w1).mono (by simp))
  have hpins : ((heard s (s.now + dt)).openTxn w1).pins = { s.pins with lselLow := true } :=
    openTxn_keeps (heard s (s.now + dt)) w1 .pins (by simp)
  have hgrants : OnlyGrants s ((heard s (s.now + dt)).openTxn w1) := openTxn_grants (heard s (s.now + dt)) w1
  obtain ⟨hnow, -, -, -, hld⟩ := openTxn_frame (heard s (s.now + dt)) w1
  have hlink := openTxn_link (heard s (s.now + dt)) w1
  have hcounted := openTxn_outOfRange (heard s (s.now + dt)) w1
  have hraised : Raised _ s _ := openTxn_raised (heard s (s.now + dt)) w1
  have hsegment := openTxn_segment (s := heard s (s.now + dt)) (w := w1)
  obtain ⟨wants, lrdy, htxn, hwants, -⟩ := openTxn_link_txn (heard s (s.now + dt)) w1
  rw [show (heard s (s.now + dt)).headerTxn w1 = s.headerTxn w1 from rfl] at *
  have hdecoded := headerTxn_eq s w1
  have hstore := headerTxn_wants s w1
  have houtside := headerTxn_outOfRange s w1
  generalize s.headerTxn w1 = x at *
  generalize hopened : (heard s (s.now + dt)).openTxn w1 = t at *
  have hcount : t.link.outOfRange = if s.storeWords ≤ x.addr then min (s.link.outOfRange + 1) 65535
      else s.link.outOfRange := hcounted.trans (if_congr houtside rfl rfl)
  refine ⟨t, _, hopened ▸ exec_linkHeader w1 w2 h hl hr, hnow, hkeeps, hpins, htxn, ?_, hgrants,
    hlink.trans (by rw [htxn]; rfl), congrArg Txn.write hdecoded, congrArg Txn.burst hdecoded,
    congrArg Txn.addr hdecoded, congrArg Txn.beats hdecoded, congrArg Txn.buffer hdecoded,
    congrArg Txn.snapshot hdecoded, houtside, fun hw => hstore.1 (hwants.1 hw).1, fun hread hin hstatus => ?_,
    by rw [hlink]; rfl, by rw [hlink]; rfl, hcount, by simpa only [houtside] using hraised⟩
  · simp [State.lstb, State.ldWord, hld, heard]
  · have hw := hstore.2 ⟨hread, hin, hstatus⟩
    by_cases hnext : ReadIsNext s
    · exact .inr ⟨hnext.2.1, hsegment hnext hw⟩
    · exact .inl (hwants.2 ⟨hw, hnext⟩)

end Sys2Proof.Safety
end

section
/-! LRDY, write beats, and the end of a transaction (R28 to R37). -/

namespace Sys2Proof.Safety

open Machine

variable {s t u : State} {x : Txn}

/-! ## LRDY (R28 to R30, R33) -/

theorem admitReady_write (hw : x.write = true) :
    s.admitReady x = true ↔ x.outOfRange = true ∨ s.queue.length ≤ 192 := by
  simp [State.admitReady, hw, Config.burstBeats, Config.queueBeats]

theorem admitReady_read (hw : x.write = false) :
    s.admitReady x = true ↔ s.queue = [] ∧ x.wants = false ∧ s.sc.init = none := by
  simp [State.admitReady, hw, and_assoc]

theorem exec_writeAdmit {dt : Nat} (h : s.mayReach (s.now + dt) = true) (hx : s.link.txn = some x)
    (hr : x.lrdy = false) (hw : x.write = true) (hready : s.admitReady x = true) :
    exec (.writeAdmit dt) s = .next ((s.setNow (s.now + dt)).setTxn (some { x with lrdy := true })) := by
  have hready' : (s.setNow (s.now + dt)).admitReady x = true := hready
  show execWriteAdmit dt s = _
  rw [execWriteAdmit, State.after_of_mayReach _ _ _ h]
  simp [hx, hr, hw, hready']

theorem exec_readAdmit {dt : Nat} (h : s.mayReach (s.now + dt) = true) (hx : s.link.txn = some x)
    (hr : x.lrdy = false) (hw : x.write = false) (hready : s.admitReady x = true) :
    exec (.readAdmit dt) s = .next ((s.setNow (s.now + dt)).setTxn (some { x with lrdy := true })) := by
  have hready' : (s.setNow (s.now + dt)).admitReady x = true := hready
  show execReadAdmit dt s = _
  rw [execReadAdmit, State.after_of_mayReach _ _ _ h]
  simp [hx, hr, hw, hready']

/-- A header answers its transaction when its condition holds. -/
theorem lrdy_of_header {dt : Nat} {w w' : Word} (hr : s.pins.rst = false)
    (h : exec (.linkHeader dt w w') s = .next t) (hx : t.link.txn = some x) :
    (x.lrdy = true ↔ s.admitReady x = true)
      ∧ (x.wants = true ↔ (x.write = false ∧ x.outOfRange = false ∧ s.isStatus x.addr = false) ∧ ¬ ReadIsNext s) := by
  obtain ⟨hreach, hl⟩ := lselLow_of_opened h hx
  rw [exec_linkHeader w w' hreach hl hr] at h
  cases h
  obtain ⟨wants, lrdy, htxn, hwants, hlrdy⟩ := openTxn_link_txn (heard s (s.now + dt)) w
  rw [htxn] at hx
  cases hx
  refine ⟨by rw [hlrdy]; exact Iff.rfl, hwants.trans (and_congr_left fun _ => ?_)⟩
  have hin : (s.headerTxn w).outOfRange = false ↔ (s.headerTxn w).addr < s.storeWords := by
    rw [← Bool.not_eq_true, headerTxn_outOfRange, Nat.not_le]
  exact (headerTxn_wants s w).trans (and_congr_right fun _ => and_congr_left fun _ => hin.symm)

/-- Settles O7: LRDY is `admitReady` at the header and later; a read of store words has its grant at the header when it is
next. -/
theorem lrdyRisesWhenItsConditionHolds : Obligations.LrdyRisesWhenItsConditionHolds := by
  refine ⟨fun s => by simp [State.lrdy, Option.any_eq_true], fun dt w1 w2 s t x hr h hx => ?_, fun dt s x h hx hr =>
    ⟨fun hw hready => exec_writeAdmit h hx hr hw ((admitReady_write hw).2 hready), fun hw hq hwants hinit =>
      exec_readAdmit h hx hr hw ((admitReady_read hw).2 ⟨hq, hwants, hinit⟩)⟩⟩
  obtain ⟨hlrdy, hwants⟩ := lrdy_of_header hr h hx
  refine ⟨fun hw ho => ?_, fun hw ho => ?_, fun hw ho => ?_, fun hw ho hs => ?_⟩
  · exact hlrdy.2 ((admitReady_write hw).2 (.inl ho))
  · rw [hlrdy, admitReady_write hw]
    simp [ho]
  · have hnone : x.wants = false := by
      rw [← Bool.not_eq_true, hwants]
      rintro ⟨⟨-, hin, hstore⟩, -⟩
      simp [hin, hstore] at ho
    rw [hlrdy, admitReady_read hw]
    simp [hnone]
  · have hnext : x.wants = false ↔ ReadIsNext s := by
      rw [← Bool.not_eq_true, hwants]
      simp [hw, ho, hs]
    rw [hlrdy, admitReady_read hw, hnext]
    constructor
    · rintro ⟨hqueue, ⟨-, hfree, hrefresh, hfetch, -⟩, hinit⟩
      exact ⟨hqueue, hinit, hfree, hfetch, hrefresh⟩
    · rintro ⟨hqueue, hinit, hfree, hfetch, hrefresh⟩
      exact ⟨hqueue, ⟨hinit, hfree, hrefresh, hfetch, hqueue⟩, hinit⟩

/-! ## WRITE_BEAT (R28, R36) -/

/-- A write beat out of range is discarded, the first 64 in range join the queue, and a later one overruns (R28, R36). -/
theorem exec_writeBeat {dt : Nat} {w : Word} {en : Enables} (h : s.mayReach (s.now + dt) = true)
    (hx : s.link.txn = some x) (hw : x.write = true) (hr : x.lrdy = true) :
    exec (.writeBeat dt w en) s = if x.outOfRange then
        .next ((s.setNow (s.now + dt)).setTxn (some { x with beats := x.beats + 1 }))
      else if x.beats < 64 then .next ((s.setNow (s.now + dt)).enqueueBeat x w en)
      else .next ((s.setNow (s.now + dt)).overrunBeat x) := by
  show execWriteBeat dt w en s = _
  rw [execWriteBeat, State.after_of_mayReach _ _ _ h]
  simp [hx, hw, hr]
  rfl

/-- A queued beat at tick `v`, before the grant decision. -/
def queuedBeat (s : State) (v : Tick) (x : Txn) (w : Word) (en : Enables) : State :=
  { s with
    now := v, queue := s.queue ++ [⟨beatAddr s.storeWords x.burst x.addr x.beats, w, en⟩]
    link := { s.link with txn := some { x with beats := x.beats + 1 } } }

/-- A write's beat asks for no read segment, so that a grant decision leaves the link. -/
theorem queuedBeat_link (s : State) (v : Tick) (x : Txn) (w : Word) (en : Enables) :
    (queuedBeat s v x w en).arbitrate.link = { s.link with txn := some { x with beats := x.beats + 1 } } := by
  refine arbitrate_read_waits ?_
  rintro ⟨-, -, -, -, hqueue⟩
  simp [queuedBeat] at hqueue

theorem overrunBeat_raised (s : State) (x : Txn) :
    Raised (if x.beats = 64 then [.linkFault] else []) s (s.overrunBeat x) := by
  have hcounted : Raised [] s (s.setLink { s.link with
      txn := some { x with beats := x.beats + 1 }, overruns := satIncr s.link.overruns }) := raised_nil rfl
  unfold State.overrunBeat State.raiseIf
  by_cases hfirst : x.beats = 64
  · rw [if_pos hfirst, if_pos (by simpa [Config.burstBeats] using hfirst)]
    exact raised_cons hcounted .linkFault
  · rw [if_neg hfirst, if_neg (by simpa [Config.burstBeats] using hfirst)]
    exact hcounted

/-- Settles O8: `exec_writeBeat` names the state of each case. -/
theorem writeBeatJoinsTheQueueOrIsDiscarded : Obligations.WriteBeatJoinsTheQueueOrIsDiscarded := by
  intro dt w en s x h hx hw hr
  have hrun := exec_writeBeat (w := w) (en := en) h hx hw hr
  refine ⟨fun ho => ?_, fun ho hb => ?_, fun ho hb => ?_⟩
  · rw [hrun, if_pos ho]
    rfl
  · rw [if_neg (by simp [ho]), if_pos hb] at hrun
    have hkeeps : Keeps [.link, .queue, .sc] s (queuedBeat s (s.now + dt) x w en) := by
      apply keeps_of <;> simp [queuedBeat, State.storeByte]
    refine ⟨(queuedBeat s (s.now + dt) x w en).arbitrate, hrun, ?_, keeps_arbitrate hkeeps (by simp) (by simp), ?_,
      queuedBeat_link .., onlyGrants_arbitrate _, rfl⟩
    all_goals simp [queuedBeat]
  · rw [if_neg (by simp [ho]), if_neg (Nat.not_lt.2 hb)] at hrun
    refine ⟨_, hrun, ?_, ?_, ?_, overrunBeat_raised _ x⟩
    · simp [State.overrunBeat]
    · apply keeps_of <;> simp [State.overrunBeat, State.storeByte]
    · simp [State.overrunBeat, satIncr]

/-! ## LSEL_RISE (R29, R32, R37) -/

theorem exec_lselRise {dt : Nat} (h : s.mayReach (s.now + dt) = true) : exec (.lselRise dt) s = .next { s with
    now := s.now + dt, pins := { s.pins with lselLow := false }, link := { s.link with txn := none, ld := none }
    sc := { s.sc with grant := s.sc.grant.map fun g => { g with unit := g.unit.dropRead } } } := by
  show execLselRise dt s = _
  rw [execLselRise, State.after_of_mayReach s dt _ h]
  rfl

/-- A read segment whose words are dropped is not wanted (R32). -/
theorem not_wanted_of_dropRead {g : GrantUnit} {b : Burst} {a len : Nat} {wanted : Bool}
    (h : g.dropRead = .linkRead b a len wanted) : wanted = false := by
  cases g <;> cases h
  rfl

/-- Settles O10: the link is closed, and only a granted read unit is told so. -/
theorem lselRiseEndsTransaction : Obligations.LselRiseEndsTransaction := by
  intro dt s h
  refine ⟨_, exec_lselRise h, rfl, ?_, rfl, rfl, rfl, rfl, rfl, ?_, fun g hg b a len wanted hunit => ?_, fun g hg => ?_⟩
  · apply keeps_of <;> simp [State.storeByte]
  · rw [Option.map_map]
    rfl
  · obtain ⟨g', -, rfl⟩ := Option.map_eq_some_iff.1 hg
    exact not_wanted_of_dropRead hunit
  · dsimp only
    rw [Option.mem_def.1 hg]
    obtain ⟨unit, hold⟩ := g
    cases unit <;> rfl

end Sys2Proof.Safety
end

section
/-! Read beats: the word on LD, status words and store words (R31, R35). -/

namespace Sys2Proof.Safety

open Machine

variable {s t u : State} {x : Txn}

/-! ## Status groups (R35) -/

/-- No status word depends on the tick (R149). -/
theorem statusWord_setNow (s : State) (v : Tick) (o : Nat) : (s.setNow v).statusWord o = s.statusWord o := by
  have hslot (n : Fin 8) (k : Nat) : (s.setNow v).statusSlot n k = s.statusSlot n k := rfl
  simp only [State.statusWord, hslot]
  congr 1

theorem statusGroup_setNow (s : State) (v : Tick) (x : Txn) (g : Nat) :
    (s.setNow v).statusGroup x g = s.statusGroup x g := by
  unfold State.statusGroup State.assembleGroup
  simp only [statusWord_setNow]

/-- The words of a group assembled now. -/
theorem assembleGroup_getElem (s : State) (g : Nat) {k : Nat} (hk : k < 16) :
    (s.assembleGroup g)[k]? = some (s.statusWord (16 * g + k)) := by
  simp [State.assembleGroup, hk]

/-- The group of a beat is the snapshot in use, if it is of that group, else the group as it is now (R35). -/
theorem statusGroup_cases (s : State) (x : Txn) (g : Nat) : x.snapshot = some (g, s.statusGroup x g)
    ∨ (∀ ws, x.snapshot ≠ some (g, ws)) ∧ s.statusGroup x g = s.assembleGroup g := by
  unfold State.statusGroup
  rcases x.snapshot with _ | ⟨g', ws⟩
  · exact .inr ⟨nofun, rfl⟩
  · by_cases hg : g' = g
    · simp [hg]
    · simp [hg]

/-- The word of a status group at a word of the page (R35). -/
theorem statusGroup_getD (s : State) (x : Txn) (o : Nat) :
    (s.statusGroup x (o / 16)).getD (o % 16) 0 = match x.snapshot with
      | some (g, ws) => if g = o / 16 then ws.getD (o % 16) 0 else s.statusWord o
      | none => s.statusWord o := by
  have hnow : (s.assembleGroup (o / 16)).getD (o % 16) 0 = s.statusWord o := by
    rw [List.getD_eq_getElem?_getD, assembleGroup_getElem s _ (Nat.mod_lt _ (by decide)), Nat.div_add_mod]
    rfl
  unfold State.statusGroup
  rcases x.snapshot with _ | ⟨g, ws⟩
  · exact hnow
  · dsimp only
    split_ifs
    · rfl
    · exact hnow

/-! ## READ_BEAT (R31) -/

/-- What a read beat delivered at tick `v` leaves and does. -/
theorem deliver_spec (s : State) (v : Tick) (x : Txn) (w : Word) (buffer : List Word)
    (snap : Option (Nat × List Word)) (ht : t = (s.setNow v).deliver x w buffer snap) : ∃ y,
      t.link.txn = some y ∧ y.beats = x.beats + 1 ∧ y.buffer = buffer ∧ y.snapshot = snap
        ∧ t.link = { s.link with txn := some y, ld := some ⟨w, t.now⟩ } ∧ t.now = v ∧ Keeps [.link, .sc] s t
        ∧ OnlyGrants s t ∧ t.lstb = true ∧ t.ldWord = some w := by
  subst ht
  obtain ⟨wants, htxn⟩ := deliver_txn (s.setNow v) x w buffer snap
  obtain ⟨hnow, -, -, -, hld⟩ := deliver_frame (s.setNow v) x w buffer snap
  have hword : ((s.setNow v).deliver x w buffer snap).ldWord = some w := State.ldWord_of_beat _ (by rw [hld, hnow])
  refine ⟨_, htxn, rfl, rfl, rfl, ?_, hnow, ?_, onlyGrants_arbitrate _, by rw [State.lstb, hword]; rfl, hword⟩
  · rw [← htxn, hnow]
    exact State.arbitrate_link _
  · refine keeps_arbitrate ?_ (by simp) (by simp)
    apply keeps_of <;> simp [State.storeByte]

theorem exec_readBeat_status {dt : Nat} (h : s.mayReach (s.now + dt) = true) (hx : s.link.txn = some x)
    (hw : x.write = false) (hr : x.lrdy = true) (ho : x.outOfRange = false) {o : Nat}
    (hstatus : s.isStatus (s.nextAddr x) = true) (haddr : s.nextAddr x - s.controlBase = o) :
    exec (.readBeat dt) s = .next ((s.setNow (s.now + dt)).deliver x ((s.statusGroup x (o / 16)).getD (o % 16) 0)
      x.buffer (some (o / 16, s.statusGroup x (o / 16)))) := by
  have hstatus' : (s.setNow (s.now + dt)).isStatus ((s.setNow (s.now + dt)).nextAddr x) = true := hstatus
  subst haddr
  show execReadBeat dt s = _
  rw [execReadBeat, State.after_of_mayReach s dt _ h]
  simp only [State.setNow_link, hx, hw, hr, ho, Bool.not_true, Bool.or_self, Bool.false_eq_true, ↓reduceIte,
    hstatus', statusGroup_setNow]
  rfl

theorem exec_readBeat_store {dt : Nat} {w : Word} {rest : List Word} (h : s.mayReach (s.now + dt) = true)
    (hx : s.link.txn = some x) (hw : x.write = false) (hr : x.lrdy = true) (ho : x.outOfRange = false)
    (hstatus : s.isStatus (s.nextAddr x) = false) (hbuffer : x.buffer = w :: rest) :
    exec (.readBeat dt) s = .next ((s.setNow (s.now + dt)).deliver x w rest none) := by
  have hstatus' : (s.setNow (s.now + dt)).isStatus ((s.setNow (s.now + dt)).nextAddr x) = false := hstatus
  show execReadBeat dt s = _
  rw [execReadBeat, State.after_of_mayReach s dt _ h]
  simp only [State.setNow_link, hx, hw, hr, ho, Bool.not_true, Bool.or_self, Bool.false_eq_true, ↓reduceIte,
    hstatus', hbuffer]

/-- A beat on LD is of its own tick, and no later one (R31). -/
theorem ld_of_kept (hs : ∀ b ∈ s.link.ld, b.tick ≤ s.now) (hnow : s.now ≤ t.now)
    (hld : t.link.ld = none ∨ t.link.ld = s.link.ld) : (∀ b ∈ t.link.ld, b.tick ≤ t.now)
      ∧ (t.lstb = true → s.lstb = true ∧ t.now = s.now ∧ t.ldWord = s.ldWord) := by
  obtain hnone | hsame := hld
  · refine ⟨by simp [hnone], fun hlstb => ?_⟩
    obtain ⟨b, hb, -⟩ := (State.lstb_iff _).1 hlstb
    simp [hnone] at hb
  · rw [hsame]
    refine ⟨fun b hb => (hs b hb).trans hnow, fun hlstb => ?_⟩
    obtain ⟨b, hb, htick⟩ := (State.lstb_iff _).1 hlstb
    rw [hsame] at hb
    have hsame_tick : t.now = s.now := le_antisymm (htick ▸ hs b hb) hnow
    exact ⟨(State.lstb_iff _).2 ⟨b, hb, htick.trans hsame_tick⟩, hsame_tick, State.ldWord_congr hsame hsame_tick⟩

/-- No command but READ_BEAT puts a beat on LD (R31). -/
theorem exec_ld {c : Instr} (hs : ∀ b ∈ s.link.ld, b.tick ≤ s.now) (h : exec c s = .next t) :
    (∀ b ∈ t.link.ld, b.tick ≤ t.now)
      ∧ ((∀ dt, c ≠ .readBeat dt) → t.lstb = true → s.lstb = true ∧ t.now = s.now ∧ t.ldWord = s.ldWord) := by
  cases exec_kind c h with
  | powerOn dt straps gate interlock lselLow hpower =>
    subst hpower
    obtain ⟨w, hrun, -⟩ := exec_powerOn dt straps gate interlock lselLow s
    rw [h] at hrun
    cases hrun
    exact ⟨nofun, fun _ hlstb => by cases hlstb⟩
  | readBeat dt hread =>
    subst hread
    obtain ⟨x, w, buffer, snap, -, -, rfl⟩ := readBeat_delivers h
    obtain ⟨hnow, -, -, -, hld⟩ := deliver_frame (s.setNow (s.now + dt)) x w buffer snap
    refine ⟨?_, fun hne => absurd rfl (hne dt)⟩
    rw [hld, hnow]
    rintro b ⟨⟩
    exact le_rfl
  | link v hv hacts =>
    obtain ⟨hnow, -, -, hld⟩ := hacts.kept
    obtain ⟨hticks, hlstb⟩ := ld_of_kept hs (hv.trans hnow.ge) hld
    exact ⟨hticks, fun _ => hlstb⟩
  | side hside =>
    obtain ⟨hnow, -, hld, -⟩ := hside.kept
    obtain ⟨hticks, hlstb⟩ := ld_of_kept hs hnow (.inr hld)
    exact ⟨hticks, fun _ => hlstb⟩

/-- Settles O9: a read beat is a `deliver` of a word of the group in use or of the read buffer, and no other row
touches LD. -/
theorem readBeatDeliversStatusOrStoreWord : Obligations.ReadBeatDeliversStatusOrStoreWord := by
  refine ⟨fun s => ⟨rfl, ?_⟩, fun dt s x a a' h hx hw hr ho ha ha' => ⟨fun hstatus => ?_, fun hstatus w rest hbuffer => ?_⟩,
    fun c s t => exec_ld⟩
  · unfold State.ldWord
    rcases s.link.ld with _ | b
    · rfl
    · by_cases htick : b.tick = s.now <;> simp [htick]
  · subst ha ha'
    have hrun := exec_readBeat_status h hx hw hr ho hstatus rfl
    generalize ho' : beatAddr s.storeWords x.burst x.addr x.beats - s.controlBase = o
    rw [show s.nextAddr x - s.controlBase = o from ho'] at hrun
    obtain ⟨y, htxn, hbeats, hbuffer, hsnap, hlink, hnow, hkeeps, hgrants, hlstb, hword⟩ := deliver_spec s _ x _ _ _ rfl
    refine ⟨_, y, _, hrun, hnow, hkeeps, htxn, hbeats, hgrants, hlink, ?_, hlstb, hword.trans ?_, _, hsnap,
      fun ws' hws' => ?_, fun k hk hnew => ?_⟩
    · rw [hsnap]
      rfl
    · exact congrArg some (statusGroup_getD s x o)
    · obtain hold | ⟨hnew, -⟩ := statusGroup_cases s x (o / 16)
      · rw [hold] at hws'
        cases hws'
        rfl
      · exact absurd hws' (hnew ws')
    · obtain hold | ⟨-, hgroup⟩ := statusGroup_cases s x (o / 16)
      · exact absurd hold (hnew _)
      · rw [hgroup, assembleGroup_getElem s _ hk]
  · subst ha ha'
    have hrun := exec_readBeat_store h hx hw hr ho hstatus hbuffer
    obtain ⟨y, htxn, hbeats, hrest, hsnap, hlink, hnow, hkeeps, hgrants, hlstb, hword⟩ := deliver_spec s _ x _ _ _ rfl
    exact ⟨_, y, hrun, hnow, hkeeps, hlstb, hword, htxn, hbeats, hrest, hsnap, hgrants, hlink, rfl⟩

end Sys2Proof.Safety
end

section
/-! RST held and released (R45, R104, R150, R156, R161). -/

namespace Sys2Proof.Safety

open Machine

variable {s t u : State} {x : Txn}

/-- RST is released at tick `v`: the straps are read, and LSEL is at its level then (R45, R150). -/
def released (s : State) (v : Tick) (straps : Straps) (lselLow : Bool) : State :=
  { s with
    now := v, pins := { s.pins with rst := false, lselLow := lselLow }
    sc := { s.sc with size := StoreSize.ofStraps straps } }

theorem exec_rstRelease {dt : Nat} (straps : Straps) (lselLow : Bool) (h : s.mayReach (s.now + dt) = true)
    (hr : s.pins.rst = true) :
    exec (.rstRelease dt straps lselLow) s = .next (released s (s.now + dt) straps lselLow).arbitrate := by
  show execRstRelease dt straps lselLow s = _
  rw [execRstRelease, State.after_of_mayReach s dt _ h]
  exact if_pos hr

theorem exec_sos_held {dt : Nat} (h : s.mayReach (s.now + dt) = true) (hr : s.pins.rst = true) :
    exec (.sos dt) s = .next (s.setNow (s.now + dt)) := by
  show execSos dt s = _
  rw [execSos, State.after_of_mayReach s dt _ h]
  exact congrArg Host.Outcome.next (if_pos (by simp [hr]))

theorem exec_home_held {dt : Nat} (h : s.mayReach (s.now + dt) = true) (hr : s.pins.rst = true) :
    exec (.home dt) s = .next (s.setNow (s.now + dt)) := by
  show execHome dt s = _
  rw [execHome, State.after_of_mayReach s dt _ h]
  exact congrArg Host.Outcome.next (if_pos hr)

theorem exec_linkHeader_held {dt : Nat} (w w' : Word) (h : s.mayReach (s.now + dt) = true) (hr : s.pins.rst = true)
    (hl : s.pins.lselLow = false) : exec (.linkHeader dt w w') s = .next (heard s (s.now + dt)) := by
  show execLinkHeader dt w w' s = _
  rw [execLinkHeader, State.after_of_mayReach _ _ _ h]
  exact (if_neg (ne_true_of_eq_false hl)).trans (if_pos hr)

/-- With LSEL low and no transaction open, the rest of a transaction is ignored (R45). -/
theorem exec_linkHeader_ignored {dt : Nat} (w w' : Word) (h : s.mayReach (s.now + dt) = true)
    (hl : s.pins.lselLow = true) (hx : s.link.txn = none) :
    exec (.linkHeader dt w w') s = .next (s.setNow (s.now + dt)) := by
  show execLinkHeader dt w w' s = _
  rw [execLinkHeader, State.after_of_mayReach _ _ _ h]
  exact (if_pos hl).trans (if_neg (by simp [hx]))

theorem exec_writeBeat_ignored {dt : Nat} (w : Word) (en : Enables) (h : s.mayReach (s.now + dt) = true)
    (hl : s.pins.lselLow = true) (hx : s.link.txn = none) :
    exec (.writeBeat dt w en) s = .next (s.setNow (s.now + dt)) := by
  show execWriteBeat dt w en s = _
  rw [execWriteBeat, State.after_of_mayReach _ _ _ h]
  simp [hx, hl]

/-- Settles O4: the release is the state with the straps read, on which a grant decision is made; the ignored rows leave
the state but for its tick and LSEL. -/
theorem rstIsHeldAndReleased : Obligations.RstIsHeldAndReleased := by
  refine ⟨fun dt straps lselLow s h hr => ?_, fun dt w1 w2 s h hr => ⟨exec_sos_held h hr, exec_home_held h hr, fun hl =>
    exec_linkHeader_held w1 w2 h hr hl⟩, fun dt w1 w2 en s h hl hx => ⟨exec_linkHeader_ignored w1 w2 h hl hx,
    exec_writeBeat_ignored w1 en h hl hx⟩⟩
  have hkeeps : Keeps [.pins, .link, .sc] s (released s (s.now + dt) straps lselLow) := by
    apply keeps_of <;> simp [released, State.storeByte]
  have hsize : (released s (s.now + dt) straps lselLow).arbitrate.sc.size = StoreSize.ofStraps straps := arbitrate_size _
  refine ⟨_, exec_rstRelease straps lselLow h hr, by simp [released], keeps_arbitrate hkeeps (by simp) (by simp),
    by simp [released], fun hx => arbitrate_link_idle hx, ?_, ?_, arbitrate_init _, arbitrate_refresh _,
    arbitrate_pendingRefresh _, fun g hg => arbitrate_keeps_grant hg, ?_⟩
  · rw [State.storeWords, hsize, storeWords_ofStraps]
  · exact controlBase_add _
  · rw [hsize]
    simp [released]

end Sys2Proof.Safety
end

section
/-! Where a beat goes: the areas of the control region, plain words, and picture words that are dropped (R39 to R42,
R133, R134, R162). -/

namespace Sys2Proof.Safety

open Machine

variable {s t u : State}

/-! ## The control region (R133, R134) -/

theorem span_of_isEntry {x : TableUnit} {o : Nat} (h : x.isEntry o = true) : o < x.span := by
  cases x <;> simp [TableUnit.isEntry, TableUnit.span] at h ⊢ <;> omega

/-- The areas of the table units lie apart. -/
theorem areas_apart {x y : TableUnit} (h : x ≠ y) : x.area + x.span ≤ y.area ∨ y.area + y.span ≤ x.area := by
  revert h
  cases x <;> cases y <;> decide

theorem entry_unique {x y : TableUnit} {o : Nat} (hx : x.area ≤ o ∧ x.isEntry (o - x.area) = true)
    (hy : y.area ≤ o ∧ y.isEntry (o - y.area) = true) : x = y := by
  by_contra h
  have hapart := areas_apart h
  have hspan := span_of_isEntry hx.2
  have hspan' := span_of_isEntry hy.2
  omega

theorem entryAt_iff (x : TableUnit) (o : Nat) :
    entryAt o = some x ↔ x.area ≤ o ∧ x.isEntry (o - x.area) = true := by
  constructor
  · intro h
    simpa using List.find?_some h
  · intro h
    have hfound : (entryAt o).isSome = true :=
      List.find?_isSome.2 ⟨x, by cases x <;> simp, by simpa using h⟩
    obtain ⟨y, hy⟩ := Option.isSome_iff_exists.1 hfound
    rw [hy, entry_unique h (by simpa using List.find?_some hy)]

/-- The offset lies in the status page or in an area of command, descriptor, settings or function words (R133). -/
def Listed (o : Nat) : Prop := o < 0x401 ∨ 0x800 ≤ o ∧ o < 0x880 ∨ 0x3100 ≤ o ∧ o < 0x3108
  ∨ 0x3200 ≤ o ∧ o < 0x3205 ∨ 0x3300 ≤ o ∧ o < 0x3304

theorem areaOf_unlisted {o : Nat} (h : ¬ Listed o) :
    areaOf o = (entryAt o).elim .plain fun x => .entry x (o - x.area) := by
  have hpage : Config.statusWords = 1024 := rfl
  unfold Listed at h
  unfold areaOf
  rw [if_neg, if_neg, if_neg, if_neg, if_neg, if_neg]
  · cases entryAt o <;> rfl
  all_goals omega

/-- What lies at an offset, by the lists of R133 and R134. -/
inductive AreaAt (o : Nat) : Area → Prop
  | status (h : o ≤ 0x3FF) : AreaAt o .status
  | command (h : o = 0x400) : AreaAt o .command
  | descriptor (n : Fin 8) (k : Fin 16) (h : o = 0x800 + 16 * n + k) : AreaAt o (.descriptor n k)
  | entry (x : TableUnit) (j : Nat) (h : o = x.area + j) (hj : x.isEntry j = true) : AreaAt o (.entry x j)
  | scanStaging (k : Fin 8) (h : o = 0x3100 + k) : AreaAt o (.scanStaging k)
  | eventSetting (k : Fin 5) (h : o = 0x3200 + k) : AreaAt o (.eventSetting k)
  | auxFunction (k : Fin 4) (h : o = 0x3300 + k) : AreaAt o (.auxFunction k)
  | plain (h : ¬ Listed o) (he : entryAt o = none) : AreaAt o .plain

theorem areaAt_unlisted {o : Nat} (h : ¬ Listed o) : AreaAt o (areaOf o) := by
  rw [areaOf_unlisted h]
  cases he : entryAt o with
  | some x =>
    obtain ⟨hle, hj⟩ := (entryAt_iff x o).1 he
    exact .entry x _ (Nat.add_sub_of_le hle).symm hj
  | none => exact .plain h he

theorem areaAt_areaOf (o : Nat) : AreaAt o (areaOf o) := by
  by_cases hlisted : Listed o
  · have hpage : Config.statusWords = 1024 := rfl
    unfold Listed at hlisted
    unfold areaOf
    split_ifs
    case neg => omega
    · exact .status (by omega)
    · exact .command ‹_›
    · exact .descriptor _ _ (by simp only [Fin.val_ofNat]; omega)
    · exact .scanStaging _ (by simp only [Fin.val_ofNat]; omega)
    · exact .eventSetting _ (by simp only [Fin.val_ofNat]; omega)
    · exact .auxFunction _ (by simp only [Fin.val_ofNat]; omega)
  · exact areaAt_unlisted hlisted

/-- `areaOf` is the one area at an offset. -/
theorem areaOf_iff (o : Nat) (a : Area) : areaOf o = a ↔ AreaAt o a := by
  have hpage : Config.statusWords = 1024 := rfl
  refine ⟨fun h => h ▸ areaAt_areaOf o, fun h => ?_⟩
  cases h with
  | status h => exact if_pos (Nat.lt_succ_of_le h)
  | command h => subst h; rfl
  | descriptor n k h =>
    unfold areaOf
    rw [if_neg (by omega), if_neg (by omega), if_pos (by omega)]
    exact congrArg₂ Area.descriptor (Fin.ext (by simp only [Fin.val_ofNat]; omega))
      (Fin.ext (by simp only [Fin.val_ofNat]; omega))
  | entry x j h hj =>
    have hunlisted : ¬ Listed o := by
      unfold Listed
      cases x <;> simp [TableUnit.area, TableUnit.isEntry] at h hj <;> omega
    have hentry : entryAt o = some x := (entryAt_iff x o).2 ⟨by omega, by simpa [h] using hj⟩
    rw [areaOf_unlisted hunlisted, hentry]
    simp [h]
  | scanStaging k h =>
    unfold areaOf
    rw [if_neg (by omega), if_neg (by omega), if_neg (by omega), if_pos (by omega)]
    exact congrArg Area.scanStaging (Fin.ext (by simp only [Fin.val_ofNat]; omega))
  | eventSetting k h =>
    unfold areaOf
    rw [if_neg (by omega), if_neg (by omega), if_neg (by omega), if_neg (by omega), if_pos (by omega)]
    exact congrArg Area.eventSetting (Fin.ext (by simp only [Fin.val_ofNat]; omega))
  | auxFunction k h =>
    unfold areaOf
    rw [if_neg (by omega), if_neg (by omega), if_neg (by omega), if_neg (by omega), if_neg (by omega),
      if_pos (by omega)]
    exact congrArg Area.auxFunction (Fin.ext (by simp only [Fin.val_ofNat]; omega))
  | plain h he => rw [areaOf_unlisted h, he]; rfl

theorem areaOf_entry (o : Nat) (x : TableUnit) (j : Nat) :
    areaOf o = .entry x j ↔ o = x.area + j ∧ x.isEntry j = true := by
  rw [areaOf_iff]
  exact ⟨fun | .entry _ _ h hj => ⟨h, hj⟩, fun ⟨h, hj⟩ => .entry x j h hj⟩

theorem areaOf_status (o : Nat) : areaOf o = .status ↔ o ≤ 0x3FF := by
  rw [areaOf_iff]
  exact ⟨fun | .status h => h, .status⟩

/-- Settles O17: `areaOf_iff`, and the tables of the units as they stand. -/
theorem controlRegionMap : Obligations.ControlRegionMap := by
  refine ⟨fun s a => ?_, fun x o => ⟨by cases x <;> rfl, by cases x <;> rfl, ?_⟩, fun o => ⟨rfl, rfl, rfl, fun ho => ?_⟩,
    fun o => ⟨areaOf_status o, ?_, fun n k => ?_, fun j => ?_, fun j => ?_, fun j => ?_, fun j => ?_, fun k => ?_,
      fun k => ?_, fun k => ?_⟩⟩
  · have hpage : Config.statusWords = 1024 := rfl
    simp only [State.isStatus, Bool.and_eq_true, decide_eq_true_eq]
    omega
  · simp [areaOf_entry]
  · refine ⟨if_pos ho, ?_, ?_⟩
    all_goals
      unfold entryPlace
      simp only
      split_ifs <;> simp <;> omega
  · rw [areaOf_iff]
    exact ⟨fun | .command h => h, .command⟩
  · rw [areaOf_iff]
    exact ⟨fun | .descriptor _ _ h => h, .descriptor n k⟩
  · simp [areaOf_entry, TableUnit.area, TableUnit.isEntry, or_assoc]
  · simp [areaOf_entry, TableUnit.area, TableUnit.isEntry, or_assoc]
  · simp [areaOf_entry, TableUnit.area, TableUnit.isEntry]
  · simp [areaOf_entry, TableUnit.area, TableUnit.isEntry]
  · rw [areaOf_iff]
    exact ⟨fun | .scanStaging _ h => h, .scanStaging k⟩
  · rw [areaOf_iff]
    exact ⟨fun | .eventSetting _ h => h, .eventSetting k⟩
  · rw [areaOf_iff]
    exact ⟨fun | .auxFunction _ h => h, .auxFunction k⟩

/-! ## Plain beats (R39, R40, R42) -/

theorem classify_noEnable {b : Beat} (s : State) (h : b.enables = 0) : s.classify b = .noEnable := if_pos h

/-- Settles O16: the kind of the beat names its row, which stores it or leaves it. -/
theorem plainBeatsAreStoredOrDiscarded : Obligations.PlainBeatsAreStoredOrDiscarded := by
  intro dt s b left hold rest h
  refine ⟨fun he => ?_, fun o hb ho => ?_, fun o hb ho => ?_,
    fun he hb hr hp => ?_⟩
  · show execNoEnableBeat dt s = _
    exact place_kind h (classify_noEnable s he) rfl
  · show execStatusPageWrite dt s = _
    have hkind : s.classify b = .status := by
      rw [classify_control hb, controlKind, (areaOf_status o).2 (Nat.le_of_lt_succ ho)]
    exact place_kind h hkind rfl
  · show ∃ t, execStorePlainWord dt s = .next t ∧ _
    have hkind : s.classify b = .plain := by rw [classify_control hb, controlKind, ho]
    exact ⟨_, place_kind h hkind rfl, placed_store s⟩
  · show ∃ t, execStorePlainWord dt s = .next t ∧ _
    exact ⟨_, place_kind h (classify_plain hr he hb hp) rfl, placed_store s⟩

/-! ## Dropped picture words (R41, R42) -/

/-- A picture word's beat is handled as its slot says, with the damage that has arisen (R41, log 8). -/
theorem exec_pictureBeat {dt left : Nat} {b : Beat} {hold : Timer} {rest : List Beat} {n : Fin 8}
    {line column : Nat} (arisen : List Damage) (h : Placing s dt b left hold rest) (hr : RegionsDisjoint s)
    (he : b.enables ≠ 0) (hp : IsPicture (s.slot n) b.addr line column) : exec (.placePictureWord dt arisen) s
      = .next ((afterTake (s.arise arisen) (s.now + dt) left hold rest).pictureBeat n b) := by
  rw [← arise_afterTake]
  show execPlacePictureWord dt arisen s = _
  exact place_kind h (classify_picture hr he hp) rfl

/-- A beat is taken, and damage has arisen: the queue, the unit and the monitor have changed (R34, log 8). -/
theorem afterTake_arise (s : State) (arisen : List Damage) (dt left : Nat) (hold : Timer) (rest : List Beat)
    (hu : u = afterTake (s.arise arisen) (s.now + dt) left hold rest) : BeatTaken s u dt left hold rest
      ∧ Keeps [.queue, .sc, .monitor] s u ∧ Raised [] s u ∧ u.monitor = (s.arise arisen).monitor := by
  subst hu
  refine ⟨⟨rfl, rfl, ?_⟩, ?_, raised_nil ?_, rfl⟩
  · simp [afterTake]
  · apply keeps_of <;> simp [afterTake, State.storeByte]
  · simp [afterTake]

/-- Settles O18: the slot's state, the fetch line and the enables choose the branch of `pictureBeat`. -/
theorem lockedOrPartialPictureWordIsDropped : Obligations.LockedOrPartialPictureWordIsDropped := by
  refine ⟨fun x => by cases x <;> decide, fun dt arisen s b left hold rest n line column h hr he hp => ?_⟩
  have hrun := exec_pictureBeat arisen h hr he hp
  have hpitch : (s.slot n).width ≤ (s.slot n).pitch := (hr.1 n hp.1).2.2.1
  obtain ⟨hbeat, hkeeps, hraised, hmonitor⟩ := afterTake_arise s arisen dt left hold rest rfl
  generalize afterTake (s.arise arisen) (s.now + dt) left hold rest = u at *
  have hslot : u.slot n = s.slot n := slot_congr (hkeeps .slots (by simp)) n
  refine ⟨fun hlocked => ?_, fun hqueued hopen hpartial => ?_⟩
  · have hlocks : (!(u.slot n).state.queued || (u.slot n).locks b.addr) = true := by
      rw [hslot]
      rcases hlocked with hx | hx | hx
      · simp [hx, SlotState.queued]
      · simp [hx, SlotState.queued]
      · simp [locks_of_picture hpitch hp hx]
    rw [show u.pictureBeat n b = u.raise .writeLocked from if_pos hlocks] at hrun
    refine ⟨_, hrun, by simpa [BeatTaken] using hbeat, ?_, raised_cons hraised _, by simpa using hmonitor⟩
    refine (hkeeps.mono (by simp)).trans ?_
    apply keeps_of <;> simp [State.storeByte]
  · have hlocks : ¬ (!(u.slot n).state.queued || (u.slot n).locks b.addr) = true := by
      rw [hslot]
      simp [hqueued, not_locks (locate_of_picture hpitch hp) hopen]
    rw [show u.pictureBeat n b = u.dropPartial from (if_neg hlocks).trans (if_pos hpartial)] at hrun
    have hlink : u.link = s.link := hkeeps .link (by simp)
    have hcounted : Raised [] s (u.setLink { u.link with partials := satIncr u.link.partials }) :=
      raised_congr hraised rfl rfl
    refine ⟨_, hrun, by simpa [BeatTaken, State.dropPartial] using hbeat, ?_, raised_cons hcounted _,
      by simp [State.dropPartial, hlink, satIncr], by simpa [State.dropPartial] using hmonitor⟩
    refine (hkeeps.mono (by simp)).trans ?_
    apply keeps_of <;> simp [State.dropPartial, State.storeByte]

end Sys2Proof.Safety
end

section
/-! The state after power-on meets every property that the steps keep (R44, R46, R85, R104, R132, R135). -/

namespace Sys2Proof.Safety

open Machine

theorem vacant_reset (n : Fin 8) : (State.reset.slot n).state = .vacant := by
  show SlotTable.reset.table[n].state = _
  rw [slot_reset]
  rfl

theorem refreshOnTime_reset : RefreshOnTime State.reset := ⟨Nat.zero_le _, nofun, nofun, nofun, nofun⟩

theorem regionsDisjoint_reset : RegionsDisjoint State.reset :=
  ⟨fun n h => absurd (vacant_reset n) h, fun n _ _ h => absurd (vacant_reset n) h, nofun⟩

/-- The scanner is OFF, with the settings of R85 and no statistics. -/
theorem scanSound_reset : ScanSound State.reset := by
  refine ⟨?_, ⟨rfl, rfl, rfl, rfl, rfl, rfl⟩, nofun, nofun, fun _ => rfl, ?_⟩
  · unfold settingsInRange
    decide
  · decide

/-- No unit is in use or LOADING (R135). -/
theorem tablesSound_reset : TablesSound State.reset := by
  refine ⟨fun x h => ?_, fun x => iff_of_false ?_ nofun, nofun⟩
  · cases x <;> cases h
  · cases x <;> nofun

/-- Both banks are FREE and carry no tag (R114, R132). -/
theorem banksSound_reset : BanksSound State.reset := by
  have hfree (b : Fin 2) : (State.reset.bank b).state = .free := (bank_powerOn b).1
  have htag (b : Fin 2) : (State.reset.bank b).tag = none := (bank_powerOn b).2.1
  refine ⟨fun b => iff_of_true (hfree b) (htag b), fun b x hx => ?_, fun x hx => ?_, fun b => ?_, nofun, nofun⟩
  · rw [htag] at hx
    cases hx
  · rw [htag] at hx
    cases hx
  · rw [hfree]
    exact iff_of_false nofun nofun

theorem memoriesCanonical_reset : MemoriesCanonical State.reset := by
  refine ⟨rfl, fun m => by cases m <;> rfl, fun b => ?_⟩
  have hbank : State.reset.bank b = ⟨.free, none, []⟩ := by simp [State.bank, State.reset]
  rw [hbank]
  rfl

/-- INTERLOCK is closed and the scanner OFF: no level source's condition is true (R173). -/
theorem levelsStick_reset : LevelsStick State.reset := by
  intro i hlevel _ hraw
  cases i with
  | scanUnlocked | interlockOpen => cases hraw
  | _ => cases hlevel

/-- Settles O48: block by block, the part after power-on is empty and at rest. -/
theorem resetMeetsEveryProperty : Obligations.ResetMeetsEveryProperty :=
  ⟨refreshOnTime_reset, .of_idle (Nat.zero_le _) rfl, queueMatches_iff.2 (.reset rfl rfl), regionsDisjoint_reset,
    coverageSound_iff.2 (.reset rfl rfl), scanSound_reset, tablesSound_reset, banksSound_reset, fun _ => ⟨rfl, rfl, rfl⟩,
    memoriesCanonical_reset, levelsStick_reset, nofun, nofun⟩

end Sys2Proof.Safety
end

section
/-! The Fill Tracker's cases one by one (R48 to R56): which case a placement falls into, what it makes of the run list,
and what the tracker leaves of the slot, the pool and the events. -/

namespace Sys2Proof.Safety

open Machine

variable {hi lo i a e free : Nat} {runs pre post rest : List Run} {r : Run} {c : Coverage} {lost : Bool}

/-! ## Run lists, taken apart at a run (R46, R50 to R53) -/

/-- The runs around one run of a sound list lie strictly apart from it. -/
theorem runsBetween_around (h : runsBetween hi lo (pre ++ r :: post)) :
    (∀ q ∈ pre, q.first < q.stop ∧ q.stop < r.first) ∧ r.first < r.stop
      ∧ ∀ q ∈ post, r.stop < q.first ∧ q.first < q.stop := by
  induction pre generalizing lo with
  | nil =>
    obtain ⟨-, hr, -, hpost⟩ := h
    exact ⟨nofun, hr, fun q hq => ⟨(runsBetween_mem hpost hq).1, (runsBetween_mem hpost hq).2.1⟩⟩
  | cons p pre ih =>
    obtain ⟨-, hp, -, hrest⟩ := h
    obtain ⟨hpre, hr, hpost⟩ := ih hrest
    have hgap : p.stop < r.first := (runsBetween_mem hrest (List.mem_append_right _ (List.mem_cons_self ..))).1
    exact ⟨List.forall_mem_cons.2 ⟨⟨hp, hgap⟩, hpre⟩, hr, hpost⟩

/-- The cursor meets the first run and takes its end; the next run lies above it (R50). -/
theorem absorb_first (h : runsBetween hi lo (r :: rest)) : absorb r.first (r :: rest) = ⟨r.stop, rest⟩ := by
  obtain ⟨-, -, -, hrest⟩ := h
  rw [absorb, if_pos rfl]
  cases rest with
  | nil => rfl
  | cons q rest => exact if_neg (Nat.ne_of_gt hrest.1)

/-- The cursor meets no run (R50). -/
theorem absorb_none {k : Nat} (h : ∀ r ∈ runs, r.first ≠ k) : absorb k runs = ⟨k, runs⟩ := by
  cases runs with
  | nil => rfl
  | cons r rest => exact if_neg (h r (List.mem_cons_self ..))

theorem mergeRuns_cons (h : r.stop ≠ i) (l : List Run) : mergeRuns i (r :: l) = r :: mergeRuns i l := by
  cases l with
  | nil => rfl
  | cons q l => exact if_neg fun hm => h hm.1

/-- The two neighbours of the index become one run, in the earlier one's place (R52). -/
theorem mergeRuns_between (h : ∀ q ∈ pre, q.stop ≠ i) :
    mergeRuns i (pre ++ ⟨a, i⟩ :: ⟨i + 1, e⟩ :: post) = pre ++ ⟨a, e⟩ :: post := by
  induction pre with
  | nil => exact if_pos ⟨rfl, rfl⟩
  | cons p pre ih =>
    obtain ⟨hp, hpre⟩ := List.forall_mem_cons.1 h
    rw [List.cons_append, mergeRuns_cons hp, ih hpre, List.cons_append]

/-- Of a list the index touches at one run, only that run changes (R51). -/
theorem extendRuns_around (hpre : ∀ q ∈ pre, q.stop ≠ i ∧ q.first ≠ i + 1)
    (hpost : ∀ q ∈ post, q.stop ≠ i ∧ q.first ≠ i + 1) :
    extendRuns i (pre ++ r :: post) = pre ++ extendRuns i [r] ++ post := by
  calc extendRuns i (pre ++ r :: post) = extendRuns i pre ++ extendRuns i [r] ++ extendRuns i post := by
        simp [extendRuns]
    _ = _ := by rw [extendRuns_untouched hpre, extendRuns_untouched hpost]

/-- The new run stands after the runs below the index and before those above it (R53). -/
theorem insertRun_between (hpre : ∀ q ∈ pre, q.first ≤ i) (hpost : ∀ q ∈ post, i < q.first) :
    insertRun i (pre ++ post) = pre ++ ⟨i, i + 1⟩ :: post := by
  induction pre with
  | nil =>
    cases post with
    | nil => rfl
    | cons q post => exact if_pos (hpost q (List.mem_cons_self ..))
  | cons p pre ih =>
    obtain ⟨hp, hpre⟩ := List.forall_mem_cons.1 hpre
    rw [List.cons_append, insertRun, if_neg (Nat.not_lt.2 hp), ih hpre, List.cons_append]

/-! ## Which case a placement falls into (R48) -/

theorem inSomeRun_iff : inSomeRun runs i = true ↔ ∃ r ∈ runs, r.first ≤ i ∧ i < r.stop := by
  simp [inSomeRun]

/-- An index below the cursor or inside a run is a rewrite: a run lies above the cursor, and a LOST slot has none (R49). -/
theorem fillCase_rewrite (hruns : runsBetween hi c.cursor c.runs) (hlost : lost = true → c.runs = [])
    (h : i < c.cursor ∨ ∃ r ∈ c.runs, r.first ≤ i ∧ i < r.stop) : fillCase c lost free i = .rewrite := by
  rcases h with h | hin
  · simp [fillCase, h]
  · have hinside := inSomeRun_iff.2 hin
    obtain ⟨r, hr, hfirst, -⟩ := hin
    have habove := (runsBetween_mem hruns hr).1
    have hkept : lost = false := by
      cases lost with
      | false => rfl
      | true => simp [hlost rfl] at hr
    have hpast : ¬ i < c.cursor ∧ i ≠ c.cursor := by omega
    simp [fillCase, hpast, hkept, hinside]

/-- Beyond the cursor of a LOST slot nothing is tracked (R55). -/
theorem fillCase_untracked (h : c.cursor < i) : fillCase c true free i = .untracked := by
  have hpast : ¬ i < c.cursor ∧ i ≠ c.cursor := by omega
  simp [fillCase, hpast]

theorem beyondCursor_of (h : c.cursor < i) (hlost : lost = false) (hout : ∀ r ∈ c.runs, ¬ (r.first ≤ i ∧ i < r.stop)) :
    BeyondCursor c lost i :=
  ⟨h, hlost, Bool.eq_false_iff.2 fun hin => by
    obtain ⟨r, hr, hri⟩ := inSomeRun_iff.1 hin
    exact hout r hr hri⟩

/-- Beyond the cursor and outside every run, the ends that touch the index and the free entries decide (R51 to R54). -/
theorem fillCase_beyond (h : BeyondCursor c lost i) : fillCase c lost free i
    = if endsAt c.runs i && startsAbove c.runs i then .merge
      else if endsAt c.runs i || startsAbove c.runs i then .extend
      else if free = 0 then .lost else .newRun := by
  obtain ⟨hbeyond, hkept, hout⟩ := h
  have hpast : ¬ i < c.cursor ∧ i ≠ c.cursor := by omega
  simp [fillCase, hpast, hkept, hout]

/-- The index is the single one between two runs (R52). -/
theorem fillCase_merge (h : BeyondCursor c lost i) (hr : c.runs = pre ++ ⟨a, i⟩ :: ⟨i + 1, e⟩ :: post) :
    fillCase c lost free i = .merge := by
  rw [fillCase_beyond h]
  simp [endsAt, startsAbove, hr]

/-- The index touches a run's end, and no start (R51). -/
theorem fillCase_extendEnd (h : BeyondCursor c lost i) (hr : c.runs = pre ++ ⟨a, i⟩ :: post)
    (hs : ∀ r ∈ c.runs, r.first ≠ i + 1) : fillCase c lost free i = .extend := by
  have hstarts : startsAbove c.runs i = false := by simpa [startsAbove] using hs
  have hends : endsAt c.runs i = true := by simp [endsAt, hr]
  simp [fillCase_beyond h, hstarts, hends]

/-- The index touches a run's start, and no end (R51). -/
theorem fillCase_extendStart (h : BeyondCursor c lost i) (hr : c.runs = pre ++ ⟨i + 1, e⟩ :: post)
    (he : ∀ r ∈ c.runs, r.stop ≠ i) : fillCase c lost free i = .extend := by
  have hends : endsAt c.runs i = false := by simpa [endsAt] using he
  have hstarts : startsAbove c.runs i = true := by simp [startsAbove, hr]
  simp [fillCase_beyond h, hstarts, hends]

/-- The index touches no run: a free entry decides (R53, R54). -/
theorem fillCase_apart (h : BeyondCursor c lost i) (hr : ∀ r ∈ c.runs, r.stop ≠ i ∧ r.first ≠ i + 1) :
    fillCase c lost free i = if free = 0 then .lost else .newRun := by
  have hends : endsAt c.runs i = false := by simpa [endsAt] using fun r hm => (hr r hm).1
  have hstarts : startsAbove c.runs i = false := by simpa [startsAbove] using fun r hm => (hr r hm).2
  simp [fillCase_beyond h, hstarts, hends]

/-! ## What each case leaves -/

variable {s : State} {n : Fin 8} {k : FillCase}

/-- Every case but the advance: the coverage, the pool, the slot record and the sources raised (R49, R51 to R55). -/
theorem recordFill_case (hk : fillCase (s.cover n) (s.slot n).lost s.fill.free i = k) (ha : k ≠ .advance) :
    (s.recordFill n i).cover n = tracked (s.cover n) (s.slot n).lost s.fill.free i
      ∧ (s.recordFill n i).fill.free = freeAfter (s.cover n) (s.slot n).lost s.fill.free i
      ∧ (s.recordFill n i).slot n = recorded (s.slot n) k false
      ∧ Raised (fillSources (s.slot n) k false) s (s.recordFill n i) := by
  obtain ⟨hcover, hfree⟩ := recordFill_fill s n i
  have hpart : ¬ Completes s n i := fun h => ha (hk.symm.trans ((completes_iff s n i).1 h).1)
  obtain ⟨hslots, hraised⟩ := recordFill_record s n i (done := false) ⟨nofun, fun h => absurd h hpart⟩
  rw [hk] at hslots hraised
  exact ⟨by rw [hcover, if_pos rfl], hfree, by rw [slot_congr hslots, State.slot_setSlot_same], hraised⟩

/-- The cases that work on the run list alone leave the slot record (R51 to R53). -/
theorem recordFill_runs (hk : fillCase (s.cover n) (s.slot n).lost s.fill.free i = k)
    (hruns : k = .merge ∨ k = .extend ∨ k = .newRun) :
    (s.recordFill n i).cover n = tracked (s.cover n) (s.slot n).lost s.fill.free i
      ∧ (s.recordFill n i).fill.free = freeAfter (s.cover n) (s.slot n).lost s.fill.free i
      ∧ (s.recordFill n i).slot n = s.slot n := by
  have hother : k ≠ .advance ∧ k ≠ .rewrite ∧ k ≠ .lost := by rcases hruns with rfl | rfl | rfl <;> decide
  obtain ⟨ha, hr, hl⟩ := hother
  obtain ⟨hcover, hfree, hslot, -⟩ := recordFill_case hk ha
  exact ⟨hcover, hfree, hslot.trans (recorded_kept _ hr hl)⟩

/-- A rewrite counts and changes nothing else (R49). -/
theorem recordFill_rewrite (hk : fillCase (s.cover n) (s.slot n).lost s.fill.free i = .rewrite) :
    s.recordFill n i = s.setSlot n { s.slot n with rewrites := min ((s.slot n).rewrites + 1) 65535 } := by
  simp [State.recordFill, hk, satIncr]

/-- Only a cursor advance and the loss of coverage raise a source (R54, R56). -/
theorem recordFill_events (hk : fillCase (s.cover n) (s.slot n).lost s.fill.free i = k) (ha : k ≠ .advance)
    (hl : k ≠ .lost) : (s.recordFill n i).events = s.events := by
  cases k with
  | advance => exact absurd rfl ha
  | lost => exact absurd rfl hl
  | rewrite => rw [recordFill_rewrite hk]; rfl
  | untracked | merge | extend | newRun => simp [State.recordFill, hk, State.setCover]

/-- Whatever the case, the other slots and the blocks besides the Slot Table, the tracker and the events stay. -/
theorem recordFill_keeps (s : State) (n : Fin 8) (i : Nat) :
    Keeps [.slots, .fill, .events] s (s.recordFill n i) ∧ OtherSlotsKept n s (s.recordFill n i) := by
  classical
  obtain ⟨hslots, -⟩ := recordFill_record s n i (decide_eq_true_iff (p := Completes s n i))
  refine ⟨by apply keeps_of <;> simp, fun m hm => ⟨?_, ?_⟩⟩
  · rw [slot_congr hslots, State.slot_setSlot, if_neg hm]
  · rw [(recordFill_fill s n i).1, if_neg hm]

/-- The coverage and the pool after a cursor advance (R50). -/
theorem recordFill_advance_fill (hcursor : i = (s.cover n).cursor) :
    (s.recordFill n i).cover n = absorb (i + 1) (s.cover n).runs
      ∧ (s.recordFill n i).fill.free
        = s.fill.free + ((s.cover n).runs.length - (absorb (i + 1) (s.cover n).runs).runs.length) := by
  obtain ⟨hcover, hfree⟩ := recordFill_fill s n i
  have hk := (fillCase_advance (s.cover n) (s.slot n).lost s.fill.free i).2 hcursor
  rw [hcover, if_pos rfl, hfree, tracked, freeAfter, hk, hcursor]
  exact ⟨rfl, rfl⟩

/-- The slot record and the events after a cursor advance, which may complete the frame (R50, R56). -/
theorem recordFill_advance_slot (hcursor : i = (s.cover n).cursor) {done : Bool}
    (hd : done = true ↔ (s.slot n).lost = false ∧ ((s.recordFill n i).cover n).cursor = (s.slot n).size) :
    (s.recordFill n i).slot n = { s.slot n with
        state := if done = true ∧ (s.slot n).state = .filling then .ready else (s.slot n).state
        complete := (s.slot n).complete || done }
      ∧ Raised (if done = true ∧ (s.slot n).state = .filling then [.slotReady] else []) s (s.recordFill n i) := by
  have hcompletes : done = true ↔ Completes s n i := hd.trans (and_iff_right hcursor).symm
  obtain ⟨hslots, hraised⟩ := recordFill_record s n i hcompletes
  rw [(fillCase_advance ..).2 hcursor] at hslots hraised
  refine ⟨?_, by simpa [fillSources] using hraised⟩
  rw [slot_congr hslots, State.slot_setSlot_same]
  simp [recorded]

/-- An index between two runs joins them, and an entry returns to the pool (R52). -/
theorem recordFill_merge (h : BeyondCursor (s.cover n) (s.slot n).lost i)
    (hsound : runsBetween hi (s.cover n).cursor (s.cover n).runs)
    (hr : (s.cover n).runs = pre ++ ⟨a, i⟩ :: ⟨i + 1, e⟩ :: post) :
    (s.recordFill n i).cover n = ⟨(s.cover n).cursor, pre ++ ⟨a, e⟩ :: post⟩
      ∧ (s.recordFill n i).fill.free = s.fill.free + 1 ∧ (s.recordFill n i).slot n = s.slot n := by
  have hk := fillCase_merge (free := s.fill.free) h hr
  obtain ⟨hcover, hfree, hslot⟩ := recordFill_runs hk (.inl rfl)
  obtain ⟨hpre, hai, -⟩ := runsBetween_around (hr ▸ hsound)
  have hmerge : mergeRuns i (s.cover n).runs = pre ++ ⟨a, e⟩ :: post := by
    rw [hr]
    exact mergeRuns_between fun q hq => by have := hpre q hq; dsimp only at hai this; omega
  simp only [tracked, freeAfter, hk, hmerge] at hcover hfree
  exact ⟨hcover, hfree, hslot⟩

/-- An index that touches one run: the list after it, when no other run is touched (R51). -/
theorem recordFill_extend (hk : fillCase (s.cover n) (s.slot n).lost s.fill.free i = .extend)
    (hr : (s.cover n).runs = pre ++ r :: post) (hpre : ∀ q ∈ pre, q.stop ≠ i ∧ q.first ≠ i + 1)
    (hpost : ∀ q ∈ post, q.stop ≠ i ∧ q.first ≠ i + 1) :
    (s.recordFill n i).cover n = ⟨(s.cover n).cursor, pre ++ extendRuns i [r] ++ post⟩
      ∧ (s.recordFill n i).fill.free = s.fill.free ∧ (s.recordFill n i).slot n = s.slot n := by
  obtain ⟨hcover, hfree, hslot⟩ := recordFill_runs hk (.inr (.inl rfl))
  simp only [tracked, freeAfter, hk, hr, extendRuns_around hpre hpost] at hcover hfree
  exact ⟨hcover, hfree, hslot⟩

/-- The run that ends at the index grows at its end (R51). -/
theorem recordFill_extendEnd (h : BeyondCursor (s.cover n) (s.slot n).lost i)
    (hsound : runsBetween hi (s.cover n).cursor (s.cover n).runs)
    (hr : (s.cover n).runs = pre ++ ⟨a, i⟩ :: post) (hs : ∀ r ∈ post, r.first ≠ i + 1) :
    (s.recordFill n i).cover n = ⟨(s.cover n).cursor, pre ++ ⟨a, i + 1⟩ :: post⟩
      ∧ (s.recordFill n i).fill.free = s.fill.free ∧ (s.recordFill n i).slot n = s.slot n := by
  obtain ⟨hpre, hai, hpost⟩ := runsBetween_around (hr ▸ hsound)
  dsimp only at hpre hai hpost
  have hbelow (q : Run) (hq : q ∈ pre) : q.stop ≠ i ∧ q.first ≠ i + 1 := by have := hpre q hq; omega
  have habove (q : Run) (hq : q ∈ post) : q.stop ≠ i ∧ q.first ≠ i + 1 := ⟨by have := hpost q hq; omega, hs q hq⟩
  have hstarts : ∀ q ∈ (s.cover n).runs, q.first ≠ i + 1 := by
    rw [hr, List.forall_mem_append, List.forall_mem_cons]
    exact ⟨fun q hq => (hbelow q hq).2, by dsimp only; omega, hs⟩
  have hgrow : extendRuns i [⟨a, i⟩] = [⟨a, i + 1⟩] := by simp [extendRuns]
  simpa [hgrow] using recordFill_extend (fillCase_extendEnd h hr hstarts) hr hbelow habove

/-- The run that starts just above the index grows at its start (R51). -/
theorem recordFill_extendStart (h : BeyondCursor (s.cover n) (s.slot n).lost i)
    (hsound : runsBetween hi (s.cover n).cursor (s.cover n).runs)
    (hr : (s.cover n).runs = pre ++ ⟨i + 1, e⟩ :: post) (he : ∀ r ∈ pre, r.stop ≠ i) :
    (s.recordFill n i).cover n = ⟨(s.cover n).cursor, pre ++ ⟨i, e⟩ :: post⟩
      ∧ (s.recordFill n i).fill.free = s.fill.free ∧ (s.recordFill n i).slot n = s.slot n := by
  obtain ⟨hpre, hie, hpost⟩ := runsBetween_around (hr ▸ hsound)
  dsimp only at hpre hie hpost
  have hei : e ≠ i := by omega
  have hbelow (q : Run) (hq : q ∈ pre) : q.stop ≠ i ∧ q.first ≠ i + 1 := ⟨he q hq, by have := hpre q hq; omega⟩
  have habove (q : Run) (hq : q ∈ post) : q.stop ≠ i ∧ q.first ≠ i + 1 := by have := hpost q hq; omega
  have hends : ∀ q ∈ (s.cover n).runs, q.stop ≠ i := by
    rw [hr, List.forall_mem_append, List.forall_mem_cons]
    exact ⟨he, hei, fun q hq => (habove q hq).1⟩
  have hgrow : extendRuns i [⟨i + 1, e⟩] = [⟨i, e⟩] := by simp [extendRuns, hei]
  simpa [hgrow] using recordFill_extend (fillCase_extendStart h hr hends) hr hbelow habove

/-- An index that touches no run starts one, or without a free entry the slot's coverage is lost (R53, R54). -/
theorem recordFill_apart (h : BeyondCursor (s.cover n) (s.slot n).lost i)
    (hsound : runsBetween hi (s.cover n).cursor (s.cover n).runs) (hr : (s.cover n).runs = pre ++ post)
    (hbelow : ∀ r ∈ pre, r.stop < i) (habove : ∀ r ∈ post, i + 1 < r.first) :
    (0 < s.fill.free → (s.recordFill n i).cover n = ⟨(s.cover n).cursor, pre ++ ⟨i, i + 1⟩ :: post⟩
        ∧ (s.recordFill n i).fill.free + 1 = s.fill.free ∧ (s.recordFill n i).slot n = s.slot n)
      ∧ (s.fill.free = 0 → (s.recordFill n i).cover n = ⟨(s.cover n).cursor, []⟩
        ∧ (s.recordFill n i).fill.free = (s.cover n).runs.length
        ∧ (s.recordFill n i).slot n = { s.slot n with lost := true } ∧ Raised [.coverageLost] s (s.recordFill n i)) := by
  have hproper (q : Run) (hq : q ∈ (s.cover n).runs) : q.first < q.stop := (runsBetween_mem hsound hq).2.1
  rw [hr, List.forall_mem_append] at hproper
  obtain ⟨hpre, hpost⟩ := hproper
  have hapart : ∀ q ∈ (s.cover n).runs, q.stop ≠ i ∧ q.first ≠ i + 1 := by
    rw [hr, List.forall_mem_append]
    exact ⟨fun q hq => by have := hpre q hq; have := hbelow q hq; omega,
      fun q hq => by have := hpost q hq; have := habove q hq; omega⟩
  have hcase := fillCase_apart (free := s.fill.free) h hapart
  constructor
  · intro hfree
    have hk := hcase.trans (if_neg hfree.ne')
    have hinsert : insertRun i (s.cover n).runs = pre ++ ⟨i, i + 1⟩ :: post := by
      rw [hr]
      exact insertRun_between (fun q hq => by have := hpre q hq; have := hbelow q hq; omega)
        fun q hq => by have := habove q hq; omega
    obtain ⟨hcover, hleft, hslot⟩ := recordFill_runs hk (.inr (.inr rfl))
    simp only [tracked, freeAfter, hk, hinsert] at hcover hleft
    exact ⟨hcover, by omega, hslot⟩
  · intro hfree
    have hk := hcase.trans (if_pos hfree)
    obtain ⟨hcover, hback, hslot, hraised⟩ := recordFill_case hk nofun
    simp only [tracked, freeAfter, hk] at hcover hback
    rw [hfree, Nat.zero_add] at hback
    exact ⟨hcover, hback, by simpa [recorded] using hslot, by simpa [fillSources] using hraised⟩

/-! ## The statement -/

/-- Settles O20: each clause is the lemma of its case above, its premises naming the case of R48. -/
theorem fillTakesTheFirstMatchingCase : Obligations.FillTakesTheFirstMatchingCase := by
  unfold Obligations.FillTakesTheFirstMatchingCase
  intro s n i t c x ht hc hx _ hsound hlost
  subst ht hc hx
  obtain ⟨hkeeps, hother⟩ := recordFill_keeps s n i
  refine ⟨hkeeps, hother, fun hin => ?rewrite, fun hcursor => ?advance, fun hbeyond hsame => ?quiet,
    fun hbeyond hl => ?untracked, fun hbeyond hl hout => ?beyond⟩
  case rewrite =>
    rw [recordFill_rewrite (fillCase_rewrite hsound hlost hin)]
    exact ⟨rfl, State.slot_setSlot_same .., rfl⟩
  case advance =>
    obtain ⟨hcover, hfree⟩ := recordFill_advance_fill hcursor
    have hdone : (!(s.slot n).lost && decide (((s.recordFill n i).cover n).cursor = (s.slot n).size)) = true
        ↔ (s.slot n).lost = false ∧ ((s.recordFill n i).cover n).cursor = (s.slot n).size := by simp
    obtain ⟨hslot, hraised⟩ := recordFill_advance_slot hcursor hdone
    refine ⟨fun r rest hr hfirst => ?_, fun hnone => ?_, by rw [hslot]; rfl, by rw [hslot], by rw [hslot],
      by rw [hslot], fun ready hready => ?_⟩
    · have habsorb : absorb (i + 1) (s.cover n).runs = ⟨r.stop, rest⟩ := by
        rw [hr, ← hfirst]
        exact absorb_first (hr ▸ hsound)
      rw [habsorb] at hcover hfree
      exact ⟨hcover, by simp [hfree, hr]⟩
    · rw [absorb_none hnone] at hcover hfree
      exact ⟨hcover, by simpa using hfree⟩
    · have hiff : (!(s.slot n).lost && decide (((s.recordFill n i).cover n).cursor = (s.slot n).size)) = true
          ∧ (s.slot n).state = .filling ↔ ready = true := by
        rw [hdone, and_assoc]
        exact hready.symm
      simp only [hiff] at hslot hraised
      exact ⟨by rw [hslot], hraised⟩
  case quiet =>
    refine recordFill_events rfl (fun hk => ?_) fun hk => ?_
    · have := (fillCase_advance ..).1 hk
      omega
    · obtain ⟨-, -, hslot, -⟩ := recordFill_case hk nofun
      rw [hslot] at hsame
      simp [recorded, fillCase_lost hk] at hsame
  case untracked => simp [State.recordFill, hl, fillCase_untracked hbeyond]
  case beyond =>
    have hb := beyondCursor_of hbeyond hl hout
    exact ⟨fun _ _ _ _ hr => recordFill_merge hb hsound hr, fun _ _ _ hr => recordFill_extendEnd hb hsound hr,
      fun _ _ _ hr => recordFill_extendStart hb hsound hr, fun _ _ hr => recordFill_apart hb hsound hr⟩

end Sys2Proof.Safety
end

section
/-! The two stages of a conversion: the density mix, the inverse characteristic, and the exposure word that carries the
levels (R65, R66, R69 to R78). -/

namespace Sys2Proof.Safety

open Machine

/-! ## The values of a word (R65, R66) -/

/-- A value of a code or exposure word at its bits (section 11.2). -/
theorem levelOf_eq (w : Word) (k : Channel) : levelOf w k = w.toNat / 2 ^ (20 - 10 * k.val) % 1024 := by
  rw [levelOf, field, BitVec.extractLsb'_toNat, Nat.shiftRight_eq_div_pow]

theorem packLevels_toNat (r g b : Nat) :
    (packLevels r g b).toNat = r % 1024 * 1048576 + g % 1024 * 1024 + b % 1024 := by
  rw [packLevels, BitVec.toNat_ofNat, Nat.mod_eq_of_lt (by omega)]

/-- No level reaches into the spare bits, whatever it is (R66). -/
theorem packLevels_spare (r g b : Nat) {i : Nat} (hi : 30 ≤ i) : (packLevels r g b).getLsbD i = false := by
  refine Nat.testBit_lt_two_pow (lt_of_lt_of_le ?_ (Nat.pow_le_pow_right two_pos hi))
  rw [packLevels_toNat]
  omega

/-- Each level is read back from its own field (R78). -/
theorem levelOf_packLevels (f : Channel → Nat) (hf : ∀ j, f j < 1024) (k : Channel) :
    levelOf (packLevels (f 0) (f 1) (f 2)) k = f k := by
  have hr := hf 0
  have hg := hf 1
  have hb := hf 2
  rw [levelOf_eq, packLevels_toNat]
  match k with
  | 0 | 1 | 2 => simp; omega

/-! ## Stage 1: the density mix (R70 to R73) -/

theorem stockHalf_eq (s : State) (x : StockSet) (e : Nat) :
    s.stockHalf x e = (s.delivered x.mem e).extractLsb' 0 16 := by
  rw [State.stockHalf, BitVec.setWidth_eq_extractLsb' (by decide)]

/-- A density as an integer: the clamp keeps it from below 0, so nothing is lost (R72). -/
theorem density_eq (s : State) (x : StockSet) (bypass : Bool) (w : Word) (k : Channel) :
    (s.density x bypass w k : Int) = clampInt 0 4095
      ((if bypass then 4 * (levelOf w k : Int) else (s.mixSum x w k + 512) / 1024) + s.offset x k) :=
  Int.toNat_of_nonneg (le_max_left ..)

/-- The row sum, each code at its bits of the code word (R65, R70). -/
theorem mixSum_eq (s : State) (x : StockSet) (w : Word) (k : Channel) : s.mixSum x w k =
    (s.stockHalf x (800 + 3 * k.val)).toInt * ((w.toNat / 1048576 % 1024 : Nat) : Int)
      + (s.stockHalf x (801 + 3 * k.val)).toInt * ((w.toNat / 1024 % 1024 : Nat) : Int)
      + (s.stockHalf x (802 + 3 * k.val)).toInt * ((w.toNat % 1024 : Nat) : Int) := by
  have h1 : 800 + 3 * k.val + 1 = 801 + 3 * k.val := by omega
  have h2 : 800 + 3 * k.val + 2 = 802 + 3 * k.val := by omega
  simp [State.mixSum, State.coefficient, levelOf_eq, h1, h2]

/-! ## Stage 2: the inverse characteristic (R74 to R77) -/

/-- A step never leaves its interval, rising or falling (R76). -/
theorem interpolate_between (lower upper : Nat) {f : Nat} (hf : f < 16) :
    (min lower upper : Nat) ≤ interpolate lower upper f ∧ interpolate lower upper f ≤ (max lower upper : Nat) := by
  unfold interpolate
  rcases le_total lower upper with h | h
  case inl =>
    have hnonneg : 0 ≤ ((upper : Int) - lower) * f := mul_nonneg (by omega) (by omega)
    have hle : ((upper : Int) - lower) * f ≤ (upper - lower) * 15 := mul_le_mul_of_nonneg_left (by omega) (by omega)
    rw [min_eq_left h, max_eq_right h]
    omega
  case inr =>
    have hnonpos : ((upper : Int) - lower) * f ≤ 0 := mul_nonpos_of_nonpos_of_nonneg (by omega) (by omega)
    have hge : ((upper : Int) - lower) * 15 ≤ (upper - lower) * f := mul_le_mul_of_nonpos_left (by omega) (by omega)
    rw [min_eq_right h, max_eq_left h]
    omega

/-- The level of a density is the interpolated one itself: no knot is negative, so no level is (R75, R76). -/
theorem exposureLevel_eq (s : State) (x : StockSet) (k : Channel) (d : Nat) :
    (s.exposureLevel x k d : Int) = interpolate (s.knot x k (d / 16)) (s.knot x k (d / 16 + 1)) (d % 16) :=
  Int.toNat_of_nonneg ((Int.natCast_nonneg _).trans (interpolate_between _ _ (Nat.mod_lt _ (by decide))).1)

theorem exposureLevel_between (s : State) (x : StockSet) (k : Channel) (d : Nat) :
    min (s.knot x k (d / 16)) (s.knot x k (d / 16 + 1)) ≤ s.exposureLevel x k d
      ∧ s.exposureLevel x k d ≤ max (s.knot x k (d / 16)) (s.knot x k (d / 16 + 1)) := by
  have h := interpolate_between (s.knot x k (d / 16)) (s.knot x k (d / 16 + 1)) (Nat.mod_lt d (by decide : 0 < 16))
  rw [← exposureLevel_eq] at h
  exact_mod_cast h

/-- A level needs no clamp of its own, as no knot read is above 1023 (R76, R77). -/
theorem exposureLevel_lt (s : State) (x : StockSet) (k : Channel) (d : Nat) : s.exposureLevel x k d < 1024 := by
  have hlower : s.knot x k (d / 16) ≤ 1023 := min_le_left ..
  have hupper : s.knot x k (d / 16 + 1) ≤ 1023 := min_le_left ..
  exact Nat.lt_succ_of_le ((exposureLevel_between s x k d).2.trans (max_le hlower hupper))

/-! ## The exposure word and the reads (R69, R78) -/

/-- The exposure word carries the level of each channel's density (R78). -/
theorem levelOf_convert (s : State) (x : StockSet) (bypass : Bool) (w : Word) (k : Channel) :
    levelOf (s.convert x bypass w) k = s.exposureLevel x k (s.density x bypass w k) :=
  levelOf_packLevels (fun j => s.exposureLevel x j (s.density x bypass w j)) (fun _ => exposureLevel_lt ..) k

theorem conversionReads_eq (s : State) (x : StockSet) (bypass : Bool) (w : Word) : s.conversionReads x bypass w =
    (if bypass then [] else [800, 801, 802, 803, 804, 805, 806, 807, 808].map (fun e => (x.mem, e)))
      ++ ([812, 813, 814] ++ knotReads 0 (s.density x bypass w 0) ++ knotReads 1 (s.density x bypass w 1)
        ++ knotReads 2 (s.density x bypass w 2)).map (fun e => (x.mem, e)) := by
  cases bypass <;> rfl

/-! ## The statement -/

/-- Settles O46: the reads are listed by `conversionReads_eq`; stage 1 is `density_eq` with `mixSum_eq`, stage 2 and its
bounds are those of `exposureLevel`, found in the exposure word by `levelOf_convert`. -/
theorem conversionFollowsTheTwoStages : Obligations.ConversionFollowsTheTwoStages := by
  unfold Obligations.ConversionFollowsTheTwoStages
  refine ⟨fun s x bypass w m r g b hm hr hg hb => ?reads, fun s x bypass w k d lo hi hd hlo hhi => ?stages⟩
  case reads =>
    have hmem : m = x.mem := by rw [hm]; cases x <;> rfl
    subst hmem hr hg hb
    refine ⟨stockHalf_eq s x, ?_⟩
    rw [conversionReads_eq]
    simp [knotReads]
  case stages =>
    have hlevel := levelOf_convert s x bypass w k
    rw [levelOf_eq, ← hd] at hlevel
    have hlower : lo = s.knot x k (d / 16) := hlo
    have hupper : hi = s.knot x k (d / 16 + 1) := hhi
    obtain ⟨hmin, hmax⟩ := exposureLevel_between s x k d
    rw [hlevel, hlower, hupper]
    refine ⟨?_, exposureLevel_eq s x k d, hmin, hmax, packLevels_spare _ _ _ (by decide),
      packLevels_spare _ _ _ (by decide)⟩
    rw [hd, density_eq, mixSum_eq, levelOf_eq, add_comm]
    rfl

end Sys2Proof.Safety
end

section
/-! Which steps can change the Scan Timing Unit: seven rows. Every other command passes the tick gate, so that the silence
timer still runs, and leaves the scan unit as it was (R92). -/

namespace Sys2Proof.Safety

open Machine

variable {s t u : State}

/-- An operation takes no time and leaves the scan unit. -/
structure ScanKept (s t : State) : Prop where
  now : t.now = s.now
  scan : t.scan = s.scan

/-- A step at a tick the part may reach leaves the scan unit. -/
structure ScanRests (s t : State) : Prop where
  reach : s.mayReach t.now = true
  scan : t.scan = s.scan

theorem ScanKept.trans (h : ScanKept s t) (h' : ScanKept t u) : ScanKept s u where
  now := h'.now.trans h.now
  scan := h'.scan.trans h.scan

theorem scanKept_refl (s : State) : ScanKept s s := ⟨rfl, rfl⟩

/-- An operation at a tick the gate admits. -/
theorem ScanKept.rests {v : Tick} (h : ScanKept (s.setNow v) t) (hv : s.mayReach v = true) : ScanRests s t where
  reach := by rw [h.now]; exact hv
  scan := h.scan

theorem scanRests_after {dt : Nat} {body : State → Result} (h : s.after dt body = .next t)
    (hb : ∀ v, body v = .next t → ScanKept v t) : ScanRests s t :=
  (hb _ (State.after_next h).2).rests (State.after_next h).1

theorem scanRests_atEnd {x : Option Timer} {body : State → Result} (h : s.atEnd x body = .next t)
    (hb : ∀ v, body v = .next t → ScanKept v t) : ScanRests s t := by
  obtain ⟨y, -, hreach, hy⟩ := State.atEnd_next h
  exact (hb _ hy).rests hreach

theorem scanRests_place {dt : Nat} {body : State → Beat → BeatKind → Option State} (h : s.place dt body = .next t)
    (hb : ∀ v b k, body v b k = some t → ScanKept v t) : ScanRests s t := by
  obtain ⟨hreach, b, left, hold, rest, -, -, -, ht⟩ := State.place_next h
  have hdrop (v : State) : ScanKept v v.dropBeat := ⟨by simp, by simp⟩
  exact ((hdrop _).trans (hb _ _ _ ht)).rests hreach

theorem scanRests_runCommand {dt : Nat} {c : Cmd} {effect : State → Word → State × CmdOutcome}
    (h : s.runCommand dt c effect = .next t) (he : ∀ v w, ScanKept v (effect v w).1) : ScanRests s t := by
  refine scanRests_place h fun v b k hv => ?_
  split at hv
  · split at hv <;> cases hv
    have hstore : ScanKept v (v.storeBeat b) := ⟨by simp, by simp⟩
    refine (hstore.trans (he _ b.data)).trans ⟨?_, ?_⟩ <;> simp
  · cases hv

/-! ## The effects of the commands (R147) -/

theorem scanKept_slotCommand {effect : State → Fin 8 → State × CmdOutcome} (h : ∀ v n, ScanKept v (effect v n).1)
    (s : State) (w : Word) : ScanKept s (slotCommand effect s w).1 := by
  unfold slotCommand
  split
  · exact scanKept_refl s
  · exact h s _

theorem scanKept_describeSlot (s : State) (n : Fin 8) : ScanKept s (s.describeSlot n).1 := by
  obtain h | ⟨d, -, h⟩ := describeSlot_or s n
  · rw [h]; exact scanKept_refl s
  · rw [h]; constructor <;> simp [State.acceptSlot, State.joinQueue]

theorem scanKept_sealFrame (s : State) (n : Fin 8) : ScanKept s (s.sealFrame n).1 := by
  unfold State.sealFrame
  split <;> constructor <;> simp

theorem scanKept_withdrawSlot (s : State) (n : Fin 8) : ScanKept s (s.withdrawSlot n).1 := by
  unfold State.withdrawSlot
  split <;> constructor <;> simp

theorem scanKept_releaseSlot (s : State) (n : Fin 8) : ScanKept s (s.releaseSlot n).1 := by
  unfold State.releaseSlot
  split <;> constructor <;> simp

theorem scanKept_reloadTable (s : State) (w : Word) : ScanKept s (s.reloadTable w).1 := by
  unfold State.reloadTable
  repeat' split
  all_goals constructor <;> simp [State.startReload]

theorem scanKept_runEngine (s : State) : ScanKept s s.runEngine := by
  unfold State.runEngine
  split <;> constructor <;> simp [State.setHalt]

theorem scanKept_haltEngine (s : State) : ScanKept s s.haltEngine := by
  unfold State.haltEngine
  split <;> constructor <;> simp [State.setHalt]

theorem scanKept_abortEngine (s : State) : ScanKept s s.abortEngine := by
  unfold State.abortEngine
  split <;> constructor <;> simp

theorem scanKept_stepMonitor (s : State) : ScanKept s s.stepMonitor := by
  unfold State.stepMonitor
  repeat' split
  all_goals exact ⟨rfl, rfl⟩

/-! ## The other operations -/

theorem scanKept_pictureBeat (s : State) (n : Fin 8) (b : Beat) : ScanKept s (s.pictureBeat n b) := by
  simp only [State.pictureBeat]
  repeat' split
  · constructor <;> simp
  · constructor <;> simp [State.dropPartial]
  · constructor <;> simp [convertBeat_eq]

theorem scanKept_tableWord (s : State) (x : TableUnit) (o : Nat) (b : Beat) : ScanKept s (s.tableWord x o b) := by
  simp only [State.tableWord]
  repeat' split
  all_goals constructor <;> simp [State.disturb]

theorem scanKept_pixelClock (s : State) : ScanKept s s.pixelClock := by
  have houtput (v : State) (r g b : Half) : ScanKept v (v.output r g b) := ⟨rfl, rfl⟩
  have hcount : ScanKept s s.countClock := ⟨rfl, rfl⟩
  unfold State.pixelClock
  split
  · simp only [State.sendPixel]
    split
    · exact (hcount.trans ⟨by simp, by simp⟩).trans (houtput _ _ _ _)
    · exact (hcount.trans ⟨by simp, by simp⟩).trans (houtput _ _ _ _)
  · exact hcount.trans (houtput _ _ _ _)

theorem scanKept_gateFalls (s : State) : ScanKept s s.gateFalls := by
  unfold State.gateFalls
  repeat' split
  all_goals constructor <;> simp

theorem scanKept_openTxn (s : State) (w : Word) : ScanKept s (s.openTxn w) := by
  simp only [State.openTxn, State.admitNow, State.countOutOfRange]
  repeat' split
  all_goals constructor <;> simp [State.setTxn]

theorem scanKept_reloadWords (s : State) (x : TableUnit) (first len : Nat) : ScanKept s (s.reloadWords x first len) := by
  unfold State.reloadWords
  induction List.range len generalizing s with
  | nil => exact scanKept_refl s
  | cons j rest ih =>
    refine ScanKept.trans ?_ (ih _)
    dsimp only [State.reloadWord]
    split <;> constructor <;> simp

theorem scanKept_advanceReload (s : State) (x : TableUnit) (len : Nat) : ScanKept s (s.advanceReload x len) := by
  simp only [State.advanceReload]
  split <;> constructor <;> simp [State.endReload]

theorem scanKept_advanceFetch (s : State) (f : Fetch) (len : Nat) : ScanKept s (s.advanceFetch f len) := by
  simp only [State.advanceFetch]
  split <;> exact ⟨rfl, rfl⟩

theorem scanKept_fillBuffer (s : State) (l : List Nat) : ScanKept s (s.fillBuffer l) := by
  unfold State.fillBuffer
  split <;> exact ⟨rfl, rfl⟩

theorem scanKept_endUnit (s : State) : ScanKept s s.endUnit := ⟨by simp, by simp⟩

/-! ## Every command but seven -/

/-- The rows that may change the scan unit: the resets, the pulses of the scanner, silence, and two commands (R86, R88,
R90, R92, R94, R104). -/
def scanRow : Instr → Bool
  | .powerOn .. | .rstAssert .. | .scanApply .. | .clearScanStats .. | .sos .. | .home .. | .silenceExpiry => true
  | _ => false

theorem exec_scanRests (i : Instr) (hi : scanRow i = false) (h : exec i s = .next t) : ScanRests s t := by
  unfold exec at h
  cases i with
  | powerOn | rstAssert | scanApply | clearScanStats | sos | home | silenceExpiry => cases hi
  | linkHeader dt w =>
    refine scanRests_after h fun v hv => ?_
    dsimp only at hv
    repeat' split at hv
    all_goals cases hv
    · exact scanKept_refl _
    · exact ⟨rfl, rfl⟩
    · obtain ⟨hnow, hscan⟩ := scanKept_openTxn ((v.setPins { v.pins with lselLow := true }).setLink { v.link with ld := none }) w
      exact ⟨hnow, hscan⟩
  | rstRelease | readBeat =>
    refine scanRests_after h fun v hv => ?_
    dsimp only at hv
    repeat' split at hv
    all_goals cases hv
    all_goals constructor <;> simp [State.deliver]
  | readAdmit | writeAdmit | writeBeat | lselRise | refreshDone | placementUnitEnd | fetchBegin | gateRise
  | interlockClose =>
    refine scanRests_after h fun v hv => ?_
    repeat' split at hv
    all_goals cases hv
    all_goals constructor <;>
      simp [State.setTxn, State.enqueueBeat, State.overrunBeat, State.beginFetch, State.setGate]
  | storeInitEnd | refreshDue | gateReleaseExpiry | donePulseEnd | pulseStretchEnd | sweepPulseEnd | frameStartPulseEnd
  | activityExpiry | activityBlinkToggle =>
    refine scanRests_atEnd h fun v hv => ?_
    cases hv
    constructor <;> simp [State.restartRefresh]
  | readSegmentDone =>
    refine scanRests_after h fun v hv => ?_
    repeat' split at hv
    all_goals cases hv
    · exact (scanKept_fillBuffer _ _).trans (scanKept_endUnit _)
    · exact scanKept_endUnit _
  | feederSegmentDone =>
    refine scanRests_after h fun v hv => ?_
    have hfill (b : Fin 2) (pos len addr : Nat) : ScanKept v (v.fillBank b pos len addr) := ⟨rfl, rfl⟩
    repeat' split at hv
    all_goals cases hv
    · exact ((hfill _ _ _ _).trans (scanKept_advanceFetch _ _ _)).trans (scanKept_endUnit _)
    · exact scanKept_endUnit _
  | reloadSegmentDone =>
    refine scanRests_after h fun v hv => ?_
    repeat' split at hv
    all_goals cases hv
    · exact ((scanKept_reloadWords _ _ _ _).trans (scanKept_advanceReload _ _ _)).trans (scanKept_endUnit _)
    · exact scanKept_endUnit _
  | placePictureWord dt arisen =>
    refine scanRests_place h fun v b k hv => ?_
    split at hv <;> cases hv
    exact ScanKept.trans ⟨by simp, by simp⟩ (scanKept_pictureBeat _ _ b)
  | tableWordWrite =>
    refine scanRests_place h fun v b k hv => ?_
    split at hv <;> cases hv
    exact ScanKept.trans ⟨by simp, by simp⟩ (scanKept_tableWord _ _ _ b)
  | noEnableBeat | statusPageWrite | storePlainWord | stagingWrite | eventSettingsWrite | auxFunctionWrite
  | malformedCommand | unknownCommand =>
    refine scanRests_place h fun v b k hv => ?_
    split at hv <;> cases hv
    all_goals constructor <;>
      simp [State.stageDescriptor, State.stageScan, State.setEventWord, State.setAuxWord]
  | describe => exact scanRests_runCommand h (scanKept_slotCommand scanKept_describeSlot)
  | sealSlot => exact scanRests_runCommand h (scanKept_slotCommand scanKept_sealFrame)
  | withdraw => exact scanRests_runCommand h (scanKept_slotCommand scanKept_withdrawSlot)
  | release => exact scanRests_runCommand h (scanKept_slotCommand scanKept_releaseSlot)
  | reload => exact scanRests_runCommand h scanKept_reloadTable
  | run => exact scanRests_runCommand h fun v _ => scanKept_runEngine v
  | halt => exact scanRests_runCommand h fun v _ => scanKept_haltEngine v
  | abort => exact scanRests_runCommand h fun v _ => scanKept_abortEngine v
  | clearEvents => exact scanRests_runCommand h fun v _ => by constructor <;> simp [State.clearSticky]
  | monitorStep => exact scanRests_runCommand h fun v _ => scanKept_stepMonitor v
  | monitorStop => exact scanRests_runCommand h fun v _ => ⟨rfl, rfl⟩
  | pixelDrive =>
    refine scanRests_after h fun v hv => ?_
    cases hv
    exact ScanKept.trans ⟨by simp, by simp⟩ (scanKept_pixelClock _)
  | gateFall =>
    refine scanRests_after h fun v hv => ?_
    cases hv
    have hgate : ScanKept v (v.setGate false) := ⟨rfl, rfl⟩
    exact hgate.trans (scanKept_gateFalls _)
  | interlockOpen =>
    refine scanRests_after h fun v hv => ?_
    cases hv
    constructor <;> simp [State.zeroDrives]

end Sys2Proof.Safety
end

section
/-! What each operation of the Scan Timing Unit makes of the scan unit: a slip, a lock loss, a judgement, an accepted SOS,
a HOME and silence, one equation each (R86 to R99). -/

namespace Sys2Proof.Safety

open Machine

variable {s : State}

/-- The scanner takes a state (R102). -/
@[simp] theorem setScanState_scan (s : State) (y : ScanState) : (s.setScanState y).scan = { s.scan with state := y } := by
  rw [setScanState_eq]

/-- Facet counting given up (R92, R95). -/
theorem seek_scan (s : State) : s.seek.scan =
    { s.scan with state := .seeking, facet := 0, homeMark := false, inRun := 0, outRun := 0 } := by
  simp [State.seek]

/-- A slip (R95). -/
theorem slip_scan (s : State) : s.slip.scan = slipped s.scan := by
  simp [State.slip, seek_scan, slipped, satIncr]

/-- The scan unit after lock loss (R99). -/
def lockLost (x : ScanUnit) : ScanUnit := { x with state := .counting, inRun := 0, outRun := 0 }

theorem loseLock_scan (s : State) : s.loseLock.scan = lockLost s.scan := by
  simp [State.loseLock, lockLost]

/-- The scan unit after a judgement (R98, R99). -/
def afterJudgement (x : ScanUnit) (j : Judgement) : ScanUnit :=
  match x.state, j with
  | .counting, .inWindow =>
    { x with inRun := x.inRun + 1, state := if x.live.lockCount ≤ x.inRun + 1 then .locked else .counting }
  | .counting, .outOfWindow => { x with inRun := 0 }
  | .locked, .outOfWindow =>
    if 1 < x.live.lossLimit then { x with outRun := 1, state := .unsteady } else lockLost x
  | .unsteady, .inWindow => { x with outRun := 0, state := .locked }
  | .unsteady, .outOfWindow =>
    if x.live.lossLimit ≤ x.outRun + 1 then lockLost x else { x with outRun := x.outRun + 1 }
  | _, _ => x

theorem applyJudgement_scan (s : State) (j : Judgement) : (s.applyJudgement j).scan = afterJudgement s.scan j := by
  unfold State.applyJudgement afterJudgement
  dsimp only
  cases hx : s.scan.state <;> cases j <;> dsimp only
  case counting.inWindow => split <;> simp
  case counting.outOfWindow => rfl
  case locked.outOfWindow => split <;> simp [loseLock_scan]
  case unsteady.inWindow => simp
  case unsteady.outOfWindow => split <;> simp [loseLock_scan]

/-- A judgement touches the scanner's state and its two runs alone (R98, R99). -/
theorem afterJudgement_eq (x : ScanUnit) (j : Judgement) : afterJudgement x j = { x with
    state := (afterJudgement x j).state, inRun := (afterJudgement x j).inRun, outRun := (afterJudgement x j).outRun } := by
  unfold afterJudgement
  repeat' split
  all_goals rfl

/-! ## An accepted SOS (R90, R91, R93) -/

/-- The statistics and the last accepted SOS after an accepted pulse at tick `v` (R90, R91). -/
theorem measured_scan (s : State) (v : Tick) : (measured s v).scan = { s.scan with
    lastSos := some v
    stats := match s.scan.lastSos with
      | some t0 => s.scan.stats.enter (v - t0)
      | none => s.scan.stats } := by
  unfold measured State.measure State.period
  cases h : s.scan.lastSos <;> simp [h]

/-- Where facets are not counted, an accepted SOS is measured (R90). -/
theorem acceptSos_uncounted {v : Tick} (hc : s.scan.state.counts = false) :
    (s.setNow v).acceptSos = (measured s v).takePulse false := by
  have hm : (s.setNow v).measure.scan.state.counts = false := hc
  simp [State.acceptSos, hm, measured]

/-- HOME missing at an accepted SOS is a slip (R93, R95). -/
theorem acceptSos_slips {v : Tick} (hc : s.scan.state.counts = true) (hf : s.scan.nextFacet = none) :
    (s.setNow v).acceptSos = (measured s v).slip.takePulse false := by
  have hnone : (measured s v).scan.nextFacet = none := hf
  rw [acceptSos_counts hc]
  simp only [State.countFacet, hnone]

/-- The measured state with the next facet under the beam (R93). -/
def faceted (s : State) (v : Tick) (f : Nat) : State :=
  (measured s v).setScan { (measured s v).scan with facet := f, homeMark := false }

/-- The judgement of an SOS at tick `v` (R97). -/
def judgement (s : State) (v : Tick) : Judgement :=
  judge s.scan.live.period s.scan.live.window (s.scan.lastSos.map fun t0 => v - t0)

/-- An accepted SOS at the next facet is judged and handed on (R93, R97, R100). -/
theorem acceptSos_judged {v : Tick} {f : Nat} (hc : s.scan.state.counts = true) (hf : s.scan.nextFacet = some f) :
    (s.setNow v).acceptSos =
      ((faceted s v f).applyJudgement (judgement s v)).takePulse (judgement s v == .outOfWindow) := by
  have hsome : (measured s v).scan.nextFacet = some f := hf
  rw [acceptSos_counts hc]
  simp only [State.countFacet, hsome]
  rfl

/-- The scan unit after an accepted SOS (R90 to R99). -/
theorem acceptSos_scan (s : State) (v : Tick) : (s.setNow v).acceptSos.scan =
    if s.scan.state.counts then
      match s.scan.nextFacet with
      | none => slipped (measured s v).scan
      | some f => afterJudgement { (measured s v).scan with facet := f, homeMark := false } (judgement s v)
    else (measured s v).scan := by
  cases hc : s.scan.state.counts with
  | false => rw [acceptSos_uncounted hc, takePulse_scan]; rfl
  | true =>
    cases hf : s.scan.nextFacet with
    | none => rw [acceptSos_slips hc hf, takePulse_scan, slip_scan]; rfl
    | some f => rw [acceptSos_judged hc hf, takePulse_scan, applyJudgement_scan]; rfl

/-! ## HOME and silence (R92, R94) -/

/-- The scan unit after a HOME (R94). -/
theorem takeHome_scan (s : State) : s.takeHome.scan = match s.scan.state with
    | .off => s.scan
    | .seeking => { s.scan with state := .counting, facet := s.scan.live.facets - 1, homeMark := true }
    | _ => if s.scan.facet + 1 = s.scan.live.facets ∧ s.scan.homeMark = false then { s.scan with homeMark := true }
      else slipped s.scan := by
  unfold State.takeHome
  cases hx : s.scan.state <;> dsimp only
  case seeking => simp [State.primeFacets]
  case counting | locked | unsteady => split <;> simp [slip_scan]

/-- The scan unit after silence (R92). -/
theorem fallSilent_scan (s : State) : s.fallSilent.scan =
    if s.scan.state.counts then
      { s.scan with state := .seeking, facet := 0, homeMark := false, inRun := 0, outRun := 0, lastSos := none }
    else { s.scan with lastSos := none } := by
  unfold State.fallSilent
  cases hc : s.scan.state.counts <;> simp [hc, seek_scan]

end Sys2Proof.Safety
end

section
/-! Every step keeps the scanner sound (R85, R90 to R95, R98, R99): the tick gate keeps the last accepted SOS within
4·T_nom, and each row of the scanner keeps the facets, the runs and the statistics in their bounds. -/

namespace Sys2Proof.Safety

open Machine

variable {s t : State} {x : ScanUnit} {v : Tick}

/-- The period statistics within their bounds (R91). -/
structure PeriodsSound (x : PeriodStats) : Prop where
  empty : x.empty = true → x = PeriodStats.cleared
  last : x.last ≤ 8000000
  min : x.min ≤ 8000000
  max : x.max ≤ 8000000

/-- `ScanSound`, of a scan unit at a tick. -/
structure UnitSound (v : Tick) (x : ScanUnit) : Prop where
  live : settingsInRange x.live
  facets : facetsSound x
  mark : x.homeMark = true → x.facet + 1 = x.live.facets
  recent : ∀ t ∈ x.lastSos, t ≤ v ∧ v ≤ t + 4 * x.live.period
  periods : PeriodsSound x.stats
  glitches : x.glitches ≤ 65535
  slips : x.slips ≤ 65535

theorem scanSound_iff : ScanSound s ↔ UnitSound s.now s.scan :=
  ⟨fun ⟨h1, h2, h3, h4, h5, h6, h7, h8, h9, h10⟩ => ⟨h1, h2, h3, h4, ⟨h5, h6, h7, h8⟩, h9, h10⟩,
    fun ⟨h1, h2, h3, h4, ⟨h5, h6, h7, h8⟩, h9, h10⟩ => ⟨h1, h2, h3, h4, h5, h6, h7, h8, h9, h10⟩⟩

/-! ## The tick gate (R92) -/

/-- The silence timer is one of the timers the gate waits for. -/
theorem before_silence {t0 : Tick} (h0 : s.scan.lastSos = some t0) (hr : s.mayReach v = true) :
    v ≤ t0 + 4 * s.scan.live.period := by
  obtain ⟨-, htimers, -⟩ := (State.mayReach_iff s v).1 hr
  exact htimers ⟨t0, 4 * s.scan.live.period⟩ (by simp [State.timers, State.silenceTimer, h0])

theorem ScanSound.at_tick (h : ScanSound s) (hr : s.mayReach v = true) : UnitSound v s.scan := by
  have hs := scanSound_iff.1 h
  refine { hs with recent := fun t0 h0 => ⟨?_, before_silence h0 hr⟩ }
  obtain ⟨hpast, -⟩ := hs.recent t0 h0
  obtain ⟨hv, -⟩ := (State.mayReach_iff s v).1 hr
  exact hpast.trans hv

theorem ScanRests.sound (h : ScanRests s t) (hs : ScanSound s) : ScanSound t := by
  rw [scanSound_iff, h.scan]
  exact hs.at_tick h.reach

/-! ## Resets and SCAN_APPLY (R86, R87, R104) -/

/-- The scan unit with settings just installed, or kept over a bridge reset (R86, R104). -/
def freshScan (live : ScanSettings) : ScanUnit :=
  ⟨live, ScanState.afterApply live.period, 0, false, 0, 0, none, PeriodStats.cleared, 0, 0⟩

theorem periodsSound_cleared : PeriodsSound PeriodStats.cleared := by
  constructor <;> simp [PeriodStats.cleared]

/-- A period of at most 4·T_nom enters the statistics (R91). -/
theorem PeriodsSound.enter {x : PeriodStats} (h : PeriodsSound x) {p : Nat} (hp : p ≤ 8000000) :
    PeriodsSound (x.enter p) := by
  unfold PeriodStats.enter
  split
  · exact ⟨nofun, hp, hp, hp⟩
  · exact ⟨nofun, hp, (Nat.min_le_right _ _).trans hp, Nat.max_le.2 ⟨h.max, hp⟩⟩

theorem unitSound_freshScan {live : ScanSettings} (h : settingsInRange live) : UnitSound v (freshScan live) where
  live := h
  facets := by
    by_cases h0 : live.period = 0 <;> simp [facetsSound, freshScan, ScanState.afterApply, h0]
  mark := nofun
  recent := nofun
  periods := periodsSound_cleared
  glitches := Nat.zero_le _
  slips := Nat.zero_le _

/-- The clamped settings lie in their ranges (R87). -/
theorem clamped_inRange (x : ScanSettings) : settingsInRange x.clamped := by
  have hperiod : clampPeriod x.period = 0 ∨ 2000 ≤ clampPeriod x.period ∧ clampPeriod x.period ≤ 2000000 := by
    unfold clampPeriod clampNat
    split <;> omega
  simp only [settingsInRange, ScanSettings.clamped]
  generalize clampPeriod x.period = p at *
  simp only [clampNat]
  omega

/-- Acceptance of a SCAN_APPLY starts the scan unit afresh with the clamped settings (R86, R87). -/
theorem applyScan_scan (s : State) :
    s.applyScan.scan = freshScan (ScanSettings.ofStaging s.control.scanStaging).clamped := by
  simp [State.applyScan, State.clearScanStats, ScanUnit.forgotten, freshScan]

theorem scanApplied_sound (h : ScanSound s) : ScanSound s.scanApplied.1 := by
  have happly : ScanSound s.applyScan := by
    rw [scanSound_iff, applyScan_scan]
    exact unitSound_freshScan (clamped_inRange _)
  unfold State.scanApplied
  split
  · exact h
  · exact h
  · exact happly

theorem clearScanStats_sound (h : ScanSound s) : ScanSound s.clearScanStats := by
  have hs := scanSound_iff.1 h
  exact scanSound_iff.2 { hs with
    periods := periodsSound_cleared, glitches := Nat.zero_le _, slips := Nat.zero_le _ }

theorem bridgeReset_sound (h : ScanSound s) : ScanSound s.bridgeReset := by
  have hfresh : s.bridgeReset.scan = freshScan s.scan.live := by
    rw [bridgeReset_eq]
    simp [bridgeBlocks, ScanUnit.forgotten, freshScan]
  rw [scanSound_iff, hfresh]
  exact unitSound_freshScan (scanSound_iff.1 h).live

theorem powerUp_sound (s : State) (straps : Straps) (gate interlock lselLow : Bool) :
    ScanSound (s.powerUp straps gate interlock lselLow).resample := by
  have hfresh : (s.powerUp straps gate interlock lselLow).resample.scan = freshScan ScanSettings.powerOn := by
    simp [State.powerUp, State.reset, ScanUnit.powerOn, freshScan, ScanState.afterApply, ScanSettings.powerOn]
  rw [scanSound_iff, hfresh]
  exact unitSound_freshScan (scanSound_iff.1 scanSound_reset).live

/-! ## Facets and runs (R93, R95, R98, R99) -/

/-- Facets are counted only with a nominal period, below P (R89, R93). -/
theorem UnitSound.of_counts (h : UnitSound v x) (hc : x.state.counts = true) :
    x.live.period ≠ 0 ∧ x.facet < x.live.facets ∧ x.inRun ≤ x.live.lockCount := by
  have hf := h.facets
  unfold facetsSound at hf
  cases hx : x.state <;> simp_all [ScanState.counts]
  omega

/-- A state other than OFF has a nominal period (R89). -/
theorem UnitSound.period_ne_zero (h : UnitSound v x) (hx : x.state ≠ .off) : x.live.period ≠ 0 := by
  have hf := h.facets
  unfold facetsSound at hf
  cases hs : x.state <;> simp_all

/-- Facet counting given up (R92, R95). -/
theorem UnitSound.seeking (h : UnitSound v x) (hx : x.state ≠ .off) :
    UnitSound v { x with state := .seeking, facet := 0, homeMark := false, inRun := 0, outRun := 0 } :=
  { h with facets := ⟨h.period_ne_zero hx, rfl, rfl, rfl, rfl⟩, mark := nofun }

theorem UnitSound.slipped (h : UnitSound v x) (hx : x.state ≠ .off) : UnitSound v (slipped x) :=
  { h.seeking hx with slips := Nat.min_le_right _ _ }

/-- The next facet lies below P (R93). -/
theorem nextFacet_lt {f : Nat} (hx : x.nextFacet = some f) (hp : x.facet < x.live.facets) : f < x.live.facets := by
  unfold ScanUnit.nextFacet at hx
  split_ifs at hx <;> cases hx <;> omega

theorem UnitSound.faceted {f : Nat} (h : UnitSound v x) (hc : x.state.counts = true) (hf : f < x.live.facets) :
    UnitSound v { x with facet := f, homeMark := false } := by
  refine { h with facets := ?_, mark := nofun }
  have hold := h.facets
  unfold facetsSound at hold ⊢
  cases hx : x.state <;> simp_all [ScanState.counts]

/-- After lock loss facets are counted on, with both runs 0 (R99). -/
theorem facetsSound_lockLost (h0 : x.live.period ≠ 0) (hf : x.facet < x.live.facets) (hl : 4 ≤ x.live.lockCount) :
    facetsSound (lockLost x) := ⟨h0, hf, Nat.lt_of_lt_of_le (show 0 < 4 by decide) hl, rfl⟩

/-- A judgement keeps the runs below their limits (R98, R99). -/
theorem afterJudgement_facetsSound (h : facetsSound x) (hl : settingsInRange x.live) (j : Judgement) :
    facetsSound (afterJudgement x j) := by
  obtain ⟨-, -, -, -, hlock, -, hloss, -⟩ := hl
  unfold afterJudgement
  cases hx : x.state <;> cases j <;> dsimp only
  case counting.inWindow =>
    simp only [facetsSound, hx] at h
    by_cases hn : x.live.lockCount ≤ x.inRun + 1 <;> simp only [facetsSound, hn, if_true, if_false] <;> omega
  case counting.outOfWindow =>
    simp only [facetsSound, hx] at h ⊢
    omega
  case locked.outOfWindow =>
    simp only [facetsSound, hx] at h
    obtain ⟨h0, hf, hin, -⟩ := h
    split
    · exact ⟨h0, hf, hin, le_rfl, ‹_›⟩
    · exact facetsSound_lockLost h0 hf hlock
  case unsteady.inWindow =>
    simp only [facetsSound, hx] at h
    obtain ⟨h0, hf, hin, -⟩ := h
    exact ⟨h0, hf, hin, rfl⟩
  case unsteady.outOfWindow =>
    simp only [facetsSound, hx] at h
    obtain ⟨h0, hf, hin, hout, -⟩ := h
    split
    · exact facetsSound_lockLost h0 hf hlock
    · simp only [facetsSound]
      omega
  all_goals exact h

theorem UnitSound.afterJudgement (h : UnitSound v x) (j : Judgement) : UnitSound v (afterJudgement x j) := by
  have hfacets := afterJudgement_facetsSound h.facets h.live j
  rw [afterJudgement_eq] at hfacets ⊢
  exact { h with facets := hfacets }

/-! ## SOS, HOME and silence -/

/-- A measured period enters the statistics within 4·T_nom (R91, R92). -/
theorem ScanSound.measured (h : ScanSound s) (hr : s.mayReach v = true) (hx : s.scan.state ≠ .off) :
    UnitSound v (measured s v).scan := by
  have hs := h.at_tick hr
  obtain ⟨-, -, hperiod, -⟩ := hs.live
  rw [measured_scan]
  refine { hs with facets := ?_, recent := ?_, periods := ?_ }
  · have hf := hs.facets
    unfold facetsSound at hf ⊢
    cases hst : s.scan.state <;> simp_all
  · rintro t0 ht0
    cases ht0
    exact ⟨le_rfl, Nat.le_add_right _ _⟩
  · cases h0 : s.scan.lastSos with
    | none => exact hs.periods
    | some t0 =>
      have hfour : 4 * s.scan.live.period ≤ 8000000 := by omega
      exact hs.periods.enter ((Nat.sub_le_of_le_add (Nat.add_comm t0 _ ▸ before_silence h0 hr)).trans hfour)

theorem ScanSound.acceptSos (h : ScanSound s) (hr : s.mayReach v = true) (hx : s.scan.state ≠ .off) :
    UnitSound v (s.setNow v).acceptSos.scan := by
  have hm := h.measured hr hx
  rw [acceptSos_scan]
  split
  · rename_i hc
    obtain ⟨-, hlt, -⟩ := (h.at_tick hr).of_counts hc
    split
    · exact hm.slipped hx
    · rename_i f hf
      exact (hm.faceted hc (nextFacet_lt hf hlt)).afterJudgement _
  · exact hm

theorem sos_sound {dt : Nat} (h : execSos dt s = .next t) (hs : ScanSound s) : ScanSound t := by
  obtain ⟨hr, hbody⟩ := State.after_next h
  have hs' := hs.at_tick hr
  cases hbody
  split
  · exact scanSound_iff.2 hs'
  · rename_i hoff
    split
    · exact scanSound_iff.2 { hs' with glitches := Nat.min_le_right _ _ }
    · have hnow := (acceptSos_keeps s (s.now + dt)).2
      rw [scanSound_iff, hnow]
      exact hs.acceptSos hr fun hx => hoff (by simp [hx])

theorem UnitSound.takeHome (h : UnitSound v s.scan) : UnitSound v s.takeHome.scan := by
  rw [takeHome_scan]
  obtain ⟨hfour, -, -, -, hlock, -⟩ := id h.live
  have hf := h.facets
  have hcounting (hx : s.scan.state.counts = true) : UnitSound v
      (if s.scan.facet + 1 = s.scan.live.facets ∧ s.scan.homeMark = false then { s.scan with homeMark := true }
        else Safety.slipped s.scan) := by
    split
    · rename_i hplace
      refine { h with facets := ?_, mark := fun _ => hplace.1 }
      unfold facetsSound at hf ⊢
      cases hst : s.scan.state <;> simp_all [ScanState.counts]
    · exact h.slipped fun hoff => by simp [hoff, ScanState.counts] at hx
  cases hx : s.scan.state with
  | off => exact h
  | seeking =>
    simp only [facetsSound, hx] at hf
    refine { h with facets := ?_, mark := fun _ => ?_ }
    · simp only [facetsSound]
      omega
    · show s.scan.live.facets - 1 + 1 = s.scan.live.facets
      omega
  | counting | locked | unsteady => exact hcounting (by rw [hx]; rfl)

theorem takeHome_now (s : State) : s.takeHome.now = s.now := by
  unfold State.takeHome
  repeat' split
  all_goals simp [State.primeFacets]

theorem home_sound {dt : Nat} (h : execHome dt s = .next t) (hs : ScanSound s) : ScanSound t := by
  obtain ⟨hr, hbody⟩ := State.after_next h
  have hs' := hs.at_tick hr
  cases hbody
  split
  · exact scanSound_iff.2 hs'
  · rw [scanSound_iff, takeHome_now]
    exact UnitSound.takeHome (s := s.setNow (s.now + dt)) hs'

theorem fallSilent_now (s : State) : s.fallSilent.now = s.now := by
  simp only [State.fallSilent]
  split <;> simp

theorem UnitSound.fallSilent (h : UnitSound v s.scan) : UnitSound v s.fallSilent.scan := by
  have hf := h.facets
  rw [fallSilent_scan]
  split
  · rename_i hc
    exact { h.seeking fun hoff => by simp [hoff, ScanState.counts] at hc with recent := nofun }
  · refine { h with facets := ?_, recent := nofun }
    unfold facetsSound at hf ⊢
    cases hst : s.scan.state <;> simp_all

theorem silence_sound (h : execSilenceExpiry s = .next t) (hs : ScanSound s) : ScanSound t := by
  obtain ⟨y, -, hr, hbody⟩ := State.atEnd_next h
  cases hbody
  rw [scanSound_iff, fallSilent_now]
  exact UnitSound.fallSilent (s := s.setNow y.ends) (hs.at_tick hr)

/-! ## Every step -/

/-- A command whose effect keeps the scanner sound (R146). -/
theorem runCommand_sound {dt : Nat} {c : Cmd} {effect : State → Word → State × CmdOutcome}
    (h : s.runCommand dt c effect = .next t) (hs : ScanSound s)
    (he : ∀ v w, ScanSound v → ScanSound (effect v w).1) : ScanSound t := by
  obtain ⟨hr, b, left, hold, rest, -, -, -, hbody⟩ := State.place_next h
  have htaken : ScanSound ((s.setNow (s.now + dt)).dropBeat.storeBeat b) := by
    rw [scanSound_iff]
    simpa using hs.at_tick hr
  split at hbody
  · split at hbody <;> cases hbody
    have heffect := he _ b.data htaken
    rw [scanSound_iff] at heffect ⊢
    simpa using heffect
  · cases hbody

theorem exec_keeps_scanSound {c : Instr} (h : exec c s = .next t) (hs : ScanSound s) : ScanSound t := by
  cases hc : scanRow c with
  | false => exact (exec_scanRests c hc h).sound hs
  | true =>
    unfold exec at h
    cases c with
    | powerOn => cases h; exact powerUp_sound _ _ _ _ _
    | rstAssert =>
      obtain ⟨hr, hbody⟩ := State.after_next h
      cases hbody
      exact bridgeReset_sound (scanSound_iff.2 (hs.at_tick hr))
    | scanApply => exact runCommand_sound h hs fun _ _ => scanApplied_sound
    | clearScanStats => exact runCommand_sound h hs fun _ _ => clearScanStats_sound
    | sos => exact sos_sound h hs
    | home => exact home_sound h hs
    | silenceExpiry => exact silence_sound h hs
    | _ => cases hc

/-- Settles O54: a command outside the seven rows leaves the scan unit at a tick before silence, and each of the seven
keeps it sound. -/
theorem scannerStaysSound : Obligations.ScannerStaysSound := by
  intro s t hs h
  unfold step at h
  split at h
  · cases h
    exact hs
  · exact exec_keeps_scanSound h hs

end Sys2Proof.Safety
end

section
/-! What an SOS, a HOME and silence leave in the Event Unit: SCAN_UNLOCKED follows the scanner, and of the pulse sources
only those of a slip, an abort, a late sweep and a frame end are raised (R95, R102, R113, R119, R126). -/

namespace Sys2Proof.Safety

open Machine

variable {s t u w : State} {l m : List Source} {v : Tick} {n : Fin 8}

/-- Every source outside the list keeps its sticky bit and its stretch. -/
def EventsBut (l : List Source) (s t : State) : Prop :=
  ∀ i, i ∉ l → t.stuck i = s.stuck i ∧ t.events.stretch[i.index] = s.events.stretch[i.index]

theorem eventsBut_of_events (h : t.events = s.events) : EventsBut l s t := fun i _ => ⟨stuck_congr h i, by rw [h]⟩

theorem EventsBut.trans (h : EventsBut l s t) (h' : EventsBut l t u) : EventsBut l s u := fun i hi =>
  ⟨(h' i hi).1.trans (h i hi).1, (h' i hi).2.trans (h i hi).2⟩

theorem EventsBut.mono (h : EventsBut l s t) (hsub : l ⊆ m) : EventsBut m s t := fun i hi => h i fun hl => hi (hsub hl)

/-- A change of other blocks. -/
theorem EventsBut.same (h : EventsBut l s t) (he : u.events = t.events) : EventsBut l s u :=
  h.trans (eventsBut_of_events he)

theorem eventsBut_raise (s : State) {i : Source} (hi : i ∈ l) : EventsBut l s (s.raise i) := by
  intro j hj
  have hne : j ≠ i := fun h => hj (h ▸ hi)
  rw [stuck_raise, stretch_raise]
  simp [hne]

/-- The report of a sweep touches the activity envelope alone (R180). -/
theorem eventsBut_reportSweep (s : State) : EventsBut l s s.reportSweep := by
  rw [reportSweep_eq]
  exact fun i _ => ⟨rfl, rfl⟩

/-! ## The sweep an SOS begins, taken apart (R112, R119) -/

/-- The engine at the begin of an image sweep of line `k` (R112). -/
def lined (s : State) (k : Nat) (first : Bool) : State :=
  s.setEngine { s.engine with
    state := .imaging
    line := if first then some k else s.engine.line
    spoiled := if first then false else s.engine.spoiled }

/-- The state with the banks below line `k` freed (R119). -/
def cleared (s : State) (k : Nat) : State := (s.releaseBelow k 0).releaseBelow k 1

/-- The bank that line `k` of slot `n` is sent from: FULL, or SENDING for a repeat (R119). -/
def readyBank (s : State) (n : Fin 8) (k : Nat) : Option (Fin 2) :=
  s.bankTagged n k (fun x => x == .full || x == .sending)

/-- A sweep that sends its bank (R119). -/
theorem chooseBank_sends {k : Nat} {b : Fin 2} (h : readyBank (cleared s k) n k = some b) : s.chooseBank n k =
    ((cleared s k).setBank b { (cleared s k).bank b with state := .sending }).startSweep true (some b) := by
  unfold readyBank cleared at h
  simp only [State.chooseBank, h, cleared]

/-- A late sweep (R119). -/
theorem chooseBank_late {k : Nat} (h : readyBank (cleared s k) n k = none) : s.chooseBank n k =
    (((cleared s k).raise .lineLate).markSpoiled).startSweep true none := by
  unfold readyBank cleared at h
  simp only [State.chooseBank, h, cleared]

theorem imageSweep_eq (s : State) (n : Fin 8) (k : Nat) (first out : Bool) : s.imageSweep n k first out =
    (let u := (lined s k first).chooseBank n k
     let u := if first then u.setFeeder { u.feeder with target := max u.feeder.target k } else u
     if out then u.markSpoiled else u) := rfl

/-- The events of an image sweep are those of the choice of its bank. -/
theorem imageSweep_events (s : State) (k : Nat) (first out : Bool) :
    (s.imageSweep n k first out).events = ((lined s k first).chooseBank n k).events := by
  rw [imageSweep_eq]
  cases first <;> cases out <;> simp

/-- The accepted SOS of a frame in progress ends a sweep, and begins the next or ends the frame (R112, R113). -/
theorem nextSweep_eq (s : State) (n : Fin 8) (out : Bool) : s.nextSweep n out =
    if s.engine.sweep + 1 = (s.slot n).sweeps then (sweepEnded s n).endFrame n
    else (sweepEnded s n).beginSweep n out := by
  have hengine : (s.reportSweep.countExposed n).engine = s.engine := by simp
  have hslot : ((sweepEnded s n).slot n).sweeps = (s.slot n).sweeps := by
    have hcounted : (sweepEnded s n).slot n = (s.reportSweep.countExposed n).slot n := rfl
    rw [hcounted, slot_congr (countExposed_slots _ n), State.slot_setSlot_same]
    simp [Slot.sweeps]
  rw [← hslot]
  unfold State.nextSweep
  simp only [hengine]
  rfl

/-! ## The engine's sources (R113, R119, R126) -/

theorem eventsBut_abortFrame (s : State) (c : FaultCause) : EventsBut [.frameFault] s (s.abortFrame c) := by
  simp only [State.abortFrame]
  split
  · have hraise (a : State) (h : a.events = s.reportSweep.events) :
        EventsBut [.frameFault] s (a.raise .frameFault).enterStopped :=
      (((eventsBut_reportSweep s).same h).trans (eventsBut_raise a (List.mem_singleton_self _))).same (by simp)
    split
    · exact hraise _ (by simp)
    · exact hraise _ rfl
  · exact eventsBut_of_events rfl

theorem eventsBut_chooseBank (s : State) (n : Fin 8) (k : Nat) : EventsBut [.lineLate] s (s.chooseBank n k) := by
  have hcleared : EventsBut [.lineLate] s (cleared s k) := eventsBut_of_events (by simp [cleared])
  cases h : readyBank (cleared s k) n k with
  | some b =>
    rw [chooseBank_sends h]
    exact hcleared.same (by simp)
  | none =>
    rw [chooseBank_late h]
    exact (hcleared.trans (eventsBut_raise _ (List.mem_singleton_self _))).same (by simp)

theorem eventsBut_beginSweep (s : State) (n : Fin 8) (out : Bool) : EventsBut [.lineLate] s (s.beginSweep n out) := by
  have hindicate (a : State) : EventsBut [.lineLate] a a.indicateSweep := fun i _ => ⟨rfl, rfl⟩
  simp only [State.beginSweep]
  split
  · exact (eventsBut_of_events (by simp)).trans (hindicate _)
  · exact ((eventsBut_chooseBank (lined s _ _) n _).same (imageSweep_events s _ _ _)).trans (hindicate _)

theorem eventsBut_nextSweep (s : State) (n : Fin 8) (out : Bool) :
    EventsBut [.frameDone, .lineLate] s (s.nextSweep n out) := by
  have hended : EventsBut [.frameDone, .lineLate] s (sweepEnded s n) :=
    (eventsBut_reportSweep s).same (by simp [sweepEnded])
  rw [nextSweep_eq]
  split
  · unfold State.endFrame
    exact (hended.same (by simp)).trans (eventsBut_raise _ (by simp))
  · exact hended.trans ((eventsBut_beginSweep _ n out).mono (by simp))

theorem eventsBut_takePulse (s : State) (out : Bool) : EventsBut [.frameDone, .lineLate] s (s.takePulse out) := by
  have hsame : EventsBut [.frameDone, .lineLate] s s := eventsBut_of_events rfl
  unfold State.takePulse
  split
  · split
    · have hstart (a : State) (k : Fin 8) : EventsBut [.frameDone, .lineLate] a (a.beginSweep k out) :=
        (eventsBut_beginSweep a k out).mono (by simp)
      simp only [State.startFrame]
      exact EventsBut.trans (fun i _ => ⟨rfl, rfl⟩) (hstart _ _)
    · exact hsame
  · split
    · exact eventsBut_nextSweep s _ out
    · exact hsame
  · split
    · exact eventsBut_nextSweep s _ out
    · exact hsame
  · exact hsame

/-! ## The scanner's sources (R95, R102) -/

/-- SCAN_UNLOCKED is the only source that follows the scanner (R102). -/
theorem eventsBut_scanFollowed (s : State) (x : ScanState) : EventsBut [.scanUnlocked] s (scanFollowed s x) := by
  unfold scanFollowed
  split
  · exact eventsBut_of_events rfl
  · intro i hi
    rw [stuck_setScanState, setScanState_events]
    simp [show i ≠ .scanUnlocked from fun h => hi (h ▸ List.mem_singleton_self _)]

/-- A change of the scanner's state is followed by SCAN_UNLOCKED (R102). -/
theorem Onward.followed (h : Onward s w) {y : ScanState} (hy : y ≠ s.scan.state) :
    (w.setScanState y).events = (scanFollowed s y).events := by
  rw [scanFollowed, if_neg hy]
  exact setScanState_events_congr h.scanState h.events h.control y

/-- What a judgement does: a change of the scan unit that keeps the scanner's state, one that takes another state, or
the latter with the abort trigger of lock loss (R98, R99). -/
inductive JudgedTo (w : State) : State → Prop
  | stays (x : ScanUnit) (hx : x.state = w.scan.state) : JudgedTo w (w.setScan x)
  | changes (x : ScanUnit) (hx : x.state = w.scan.state) (y : ScanState) (hy : y ≠ w.scan.state) :
      JudgedTo w ((w.setScan x).setScanState y)
  | loses (x : ScanUnit) (hx : x.state = w.scan.state) (hy : .counting ≠ w.scan.state) :
      JudgedTo w (((w.setScan x).setScanState .counting).abortFrame .scanLost)

theorem applyJudgement_to (w : State) (j : Judgement) : JudgedTo w (w.applyJudgement j) := by
  have hlost (hy : .counting ≠ w.scan.state) : JudgedTo w w.loseLock :=
    .loses { w.scan with inRun := 0, outRun := 0 } rfl hy
  unfold State.applyJudgement
  dsimp only
  split
  case h_1 hs =>
    split
    · exact .changes { w.scan with inRun := w.scan.inRun + 1 } rfl .locked (by simp [hs])
    · exact .stays _ rfl
  case h_2 => exact .stays _ rfl
  case h_3 hs =>
    split
    · exact .changes { w.scan with outRun := 1 } rfl .unsteady (by simp [hs])
    · exact hlost (by simp [hs])
  case h_4 hs => exact .changes { w.scan with outRun := 0 } rfl .locked (by simp [hs])
  case h_5 hs =>
    split
    · exact hlost (by simp [hs])
    · exact .stays _ rfl
  case h_6 => exact .stays w.scan rfl

/-- A change of the scan unit that keeps the scanner's state leaves SCAN_UNLOCKED (R102). -/
theorem Onward.stays (h : Onward s w) {x : ScanUnit} (hx : x.state = w.scan.state) :
    (w.setScan x).events = (scanFollowed s x.state).events := by
  rw [scanFollowed, if_pos (hx.trans h.scanState)]
  exact h.events

/-- A judgement is followed by SCAN_UNLOCKED, and aborts the frame where the lock is lost (R98, R99, R102). -/
theorem eventsBut_applyJudgement (h : Onward s w) (j : Judgement) :
    EventsBut [.frameFault] (scanFollowed s (w.applyJudgement j).scan.state) (w.applyJudgement j) := by
  have hto := applyJudgement_to w j
  generalize w.applyJudgement j = a at hto ⊢
  cases hto with
  | stays x hx => exact eventsBut_of_events (h.stays hx)
  | changes x hx y hy =>
    rw [setScanState_scan]
    exact eventsBut_of_events ((h.setScan x hx).followed (h.scanState ▸ hy))
  | loses x hx hy =>
    have hfollowed := (h.setScan x hx).followed (h.scanState ▸ hy)
    have habort := eventsBut_abortFrame ((w.setScan x).setScanState .counting) .scanLost
    simpa using EventsBut.trans (eventsBut_of_events hfollowed) habort

/-- The state of a slip before its abort trigger (R95). -/
def slipRaised (s : State) : State :=
  (s.seek.setScan { s.seek.scan with slips := satIncr s.seek.scan.slips }).raise .facetSlip

theorem slip_eq (s : State) : s.slip = (slipRaised s).abortFrame .facetSlip := rfl

/-- A slip changes the scanner and the events before its abort trigger (R95). -/
theorem slipRaised_eq (s : State) :
    slipRaised s = { s with scan := slipped s.scan, events := (slipRaised s).events } := by
  unfold slipRaised State.seek
  rw [setScanState_eq]
  rfl

/-- A slip raises FACET_SLIP as the scanner goes to SEEKING (R95). -/
theorem Onward.slipRaised (h : Onward s u) : Prepared [.facetSlip] (s.setScanState .seeking) (slipRaised u) :=
  (h.seek.setScan { u.seek.scan with slips := satIncr u.seek.scan.slips }).raise .facetSlip

/-- A slip raises FACET_SLIP, and FRAME_FAULT where it aborts a frame (R95, R126). -/
theorem slip_events (h : Onward s u) :
    EventsBut [.facetSlip, .frameFault] (s.setScanState .seeking) u.slip
      ∧ u.slip.stuck .facetSlip = true ∧ u.slip.events.stretch[Source.facetSlip.index] = some ⟨u.now, 1000⟩ := by
  obtain ⟨hslip, hothers, -⟩ := h.slipRaised.raised
  obtain ⟨hstuck, hstretch⟩ := hslip .facetSlip (List.mem_singleton_self _)
  have habort := eventsBut_abortFrame (slipRaised u) .facetSlip
  obtain ⟨hkept, hkept'⟩ := habort .facetSlip (by simp)
  have hnow : (slipRaised u).now = u.now := by rw [slipRaised_eq]
  rw [slip_eq]
  exact ⟨EventsBut.trans (EventsBut.mono hothers (by simp)) (habort.mono (by simp)), hkept.trans hstuck,
    hkept'.trans (hnow ▸ hstretch)⟩

/-- Where no frame is exposed an abort trigger does nothing (R126). -/
theorem abortFrame_idle (h : s.expo = false) (c : FaultCause) : s.abortFrame c = s := by
  unfold State.abortFrame
  rw [h]
  rfl

/-- A slip where no frame is exposed (R95). -/
theorem slip_idle (h : s.expo = false) : s.slip = slipRaised s := by
  have hidle : (slipRaised s).expo = false := by
    rw [slipRaised_eq]
    exact h
  rw [slip_eq, abortFrame_idle hidle]

end Sys2Proof.Safety
end

section
/-! SCAN_APPLY and CLEAR_SCAN_STATS (R86 to R88, R181). -/

namespace Sys2Proof.Safety

open Machine

variable {s a r t : State}

/-- A change of the tick, the scan unit and the events alone. -/
theorem keeps_scan_events {v : Tick} {x : ScanUnit} {e : EventUnit}
    (h : r = { a with now := v, scan := x, events := e }) : Keeps [.scan, .events] a r := by
  subst h
  intro b hb
  cases b <;> simp_all [Block.same, State.storeByte]

/-- All that acceptance of a SCAN_APPLY does (R86). -/
theorem applyScan_eq (s : State) : s.applyScan = { s with
    scan := freshScan (ScanSettings.ofStaging s.control.scanStaging).clamped, events := s.applyScan.events } := by
  rw [← applyScan_scan]
  unfold State.applyScan
  rw [setScanState_eq]
  rfl

/-- Of the events, SCAN_UNLOCKED follows the scanner at a SCAN_APPLY (R86, R102). -/
theorem applyScan_events (hs : a.scan.state = s.scan.state) (he : a.events = s.events) (hc : a.control = s.control) :
    a.applyScan.events
      = (s.setScanState (ScanState.afterApply (ScanSettings.ofStaging s.control.scanStaging).clamped.period)).events := by
  rw [← hc]
  unfold State.applyScan
  exact setScanState_events_congr (by exact hs) (by exact he) (by exact hc) _

/-- The staged scan settings at their bits (section 11.3). -/
theorem scanStaging_eq (w : Vector Word 7) : ScanSettings.ofStaging w = ⟨w[0].toNat % 256, w[1].toNat, w[2].toNat,
    w[3].toNat % 65536, w[4].toNat % 65536, w[5].toNat % 65536, w[6].toNat % 65536⟩ := by
  simp only [ScanSettings.ofStaging, field_low, Nat.reducePow]

/-- The clamped settings, each at its range (R87). -/
theorem clamped_eq (x : ScanSettings) {p : Nat} (hp : p = if x.period = 0 then 0 else max 2000 (min 2000000 x.period)) :
    x.clamped = ⟨max 4 (min 16 x.facets), p, min x.window (p / 4), max 4 (min 255 x.lockCount),
      max 1 (min 64 x.lossLimit), min x.margin 4095, max 10 (min 5000 x.gateWait)⟩ := by
  subst hp
  simp [ScanSettings.clamped, clampPeriod, clampNat, Nat.min_comm]

/-- SCAN_APPLY while a frame is exposed (R86). -/
theorem scanApplied_busy (h : s.expo = true) : s.scanApplied = (s, .busy) := by
  unfold State.scanApplied
  rcases leading_or_imaging h with hst | hst <;> simp only [hst]

/-- SCAN_APPLY where no frame is exposed (R86, R87). -/
theorem scanApplied_idle (h : s.expo = false) : s.scanApplied = (s.applyScan,
    if (ScanSettings.ofStaging s.control.scanStaging).clamped = ScanSettings.ofStaging s.control.scanStaging then .done
    else .doneClamped) := by
  unfold State.expo at h
  unfold State.scanApplied
  cases hst : s.engine.state <;> simp_all

theorem exec_scanApply (dt : Nat) (s : State) :
    exec (.scanApply dt) s = s.runCommand dt .scanApply fun v _ => v.scanApplied := rfl

theorem exec_clearScanStats (dt : Nat) (s : State) :
    exec (.clearScanStats dt) s = s.runCommand dt .clearScanStats fun v _ => (v.clearScanStats, .done) := rfl

/-- Settles O31: SCAN_APPLY is its refusal or `applyScan`, whose scan unit is a fresh one with the clamped settings;
CLEAR_SCAN_STATS changes three fields of the scan unit. -/
theorem scanApplyInstallsClampedSettings : Obligations.ScanApplyInstallsClampedSettings := by
  unfold Obligations.ScanApplyInstallsClampedSettings
  refine ⟨scanStaging_eq, ?_, ?_⟩
  · rintro dt s b left hold rest target w p staged new hcmd rfl hstaged hp hnew
    have hclamped : new = staged.clamped := hnew.trans (clamped_eq staged hp).symm
    have hperiod : p = staged.clamped.period := by rw [← hclamped, hnew]
    obtain rfl : staged = ScanSettings.ofStaging s.control.scanStaging := hstaged.trans (scanStaging_eq _).symm
    subst hclamped hperiod
    rw [exec_scanApply]
    refine ⟨fun hexpo => ⟨_, run_eq' hcmd rfl (scanApplied_busy hexpo), refused_of _⟩, fun hidle => ?_⟩
    have happly := applyScan_eq (taken s dt b left hold rest)
    have hevents := applyScan_events (s := s) (a := taken s dt b left hold rest) rfl rfl rfl
    have hkeeps : Keeps [.control, .events, .scan] (taken s dt b left hold rest) (taken s dt b left hold rest).applyScan :=
      (keeps_scan_events happly).mono (by simp)
    refine ⟨_, run_eq' hcmd rfl (scanApplied_idle hidle), recorded_of hkeeps ?_ ?_ ?_ ?_ ?_ ?_, ?_, ?_, ?_⟩
    · rw [happly]; rfl
    · rw [happly]; rfl
    · rw [happly]; rfl
    · rw [happly]; rfl
    · exact hkeeps .store (by simp)
    · rw [happly]; rfl
    · rw [ReloadKept, happly]
      exact ⟨rfl, rfl⟩
    · show (State.applyScan _).scan = _
      rw [applyScan_scan]
      rfl
    · exact raised_record (raised_nil hevents) _ _ _
  · rintro dt s b left hold rest target hcmd
    have hkeeps : Keeps [.control, .events, .scan] (taken s dt b left hold rest) (taken s dt b left hold rest).clearScanStats :=
      (keeps_scan_events (e := s.events) rfl).mono (by simp)
    obtain ⟨hcommanded, hreload⟩ := commanded_of hkeeps rfl rfl rfl rfl (fun _ => rfl) rfl (raised_nil (s := s) rfl)
    rw [exec_clearScanStats]
    exact ⟨_, run_eq' hcmd rfl rfl, hcommanded, hreload, rfl⟩

end Sys2Proof.Safety
end

section
/-! HOME and silence in the Scan Timing Unit (R89, R92, R94, R95). -/

namespace Sys2Proof.Safety

open Machine

variable {s u : State} {v : Tick}

/-- A HOME runs its row (R94). -/
theorem exec_home {dt : Nat} (hm : s.mayReach (s.now + dt) = true) (hr : s.pins.rst = false) :
    exec (.home dt) s = .next (s.setNow (s.now + dt)).takeHome := by
  have hrun : exec (.home dt) s
      = .next (if s.pins.rst then s.setNow (s.now + dt) else (s.setNow (s.now + dt)).takeHome) :=
    s.after_of_mayReach dt (fun s => .next (if s.pins.rst then s else s.takeHome)) hm
  rw [hrun, hr]
  rfl

/-- The silence timer runs its row (R92). -/
theorem exec_silenceExpiry {t0 : Tick} (h0 : s.scan.lastSos = some t0)
    (hm : s.mayReach (t0 + 4 * s.scan.live.period) = true) :
    exec .silenceExpiry s = .next (s.setNow (t0 + 4 * s.scan.live.period)).fallSilent := by
  have htimer : s.silenceTimer = some ⟨t0, 4 * s.scan.live.period⟩ := by simp [State.silenceTimer, h0]
  have hrow : exec .silenceExpiry s = s.atEnd s.silenceTimer fun s => .next s.fallSilent := rfl
  rw [hrow, htimer]
  exact s.atEnd_of_mayReach ⟨t0, 4 * s.scan.live.period⟩ (fun s => .next s.fallSilent) hm

theorem onward_setNow (s : State) (v : Tick) : Onward s (s.setNow v) := ⟨rfl, rfl, rfl, rfl, rfl, rfl, rfl, rfl, rfl⟩

/-! ## HOME by the scanner's state (R94) -/

theorem takeHome_off (h : s.scan.state = .off) : s.takeHome = s := by
  simp [State.takeHome, h]

theorem takeHome_seeking (h : s.scan.state = .seeking) : s.takeHome = s.primeFacets := by
  simp [State.takeHome, h]

/-- HOME where facets are counted: the mark, or a slip (R94, R95). -/
theorem takeHome_counts (h : s.scan.state.counts = true) : s.takeHome =
    if s.scan.facet + 1 = s.scan.live.facets ∧ s.scan.homeMark = false then
      s.setScan { s.scan with homeMark := true }
    else s.slip := by
  unfold State.takeHome
  cases hx : s.scan.state <;> simp_all [ScanState.counts]

/-- HOME in SEEKING starts the counting, and the events follow (R94, R102). -/
theorem primeFacets_spec (s : State) (v : Tick) : (s.setNow v).primeFacets = { s with
    now := v
    scan := { s.scan with state := .counting, facet := s.scan.live.facets - 1, homeMark := true }
    events := (s.setScanState .counting).events } := by
  have hprimed := (onward_setNow s v).setScan { s.scan with facet := s.scan.live.facets - 1, homeMark := true } rfl
  have hevents := setScanState_events_congr hprimed.scanState hprimed.events hprimed.control .counting
  have hprime : (s.setNow v).primeFacets = ((s.setNow v).setScan
      { s.scan with facet := s.scan.live.facets - 1, homeMark := true }).setScanState .counting := rfl
  rw [hprime, setScanState_eq, hevents]
  rfl

/-- What a slip keeps (R95, R126). -/
theorem slip_keeps (s : State) (v : Tick) : Keeps (.scan :: abortBlocks) s (s.setNow v).slip := by
  refine keeps_of ?_ ?_ ?_ ?_ ?_ ?_ ?_ ?_ ?_ ?_ ?_ ?_ ?_ ?_ ?_ ?_
  case refine_6 => exact .inr fun cell => storeByte_of (by simp) (by simp) cell
  all_goals simp [abortBlocks]

/-- A slip outside a frame changes the scanner, and of the events SCAN_UNLOCKED follows and FACET_SLIP is raised (R95,
R102). -/
theorem slip_outside (h : s.expo = false) (v : Tick) : Keeps [.scan, .events] s (s.setNow v).slip
    ∧ Raised [.facetSlip] (s.setScanState .seeking) (s.setNow v).slip := by
  rw [slip_idle (s := s.setNow v) h]
  exact ⟨keeps_scan_events (slipRaised_eq (s.setNow v)), (onward_setNow s v).slipRaised.raised⟩

/-! ## Silence (R92) -/

theorem fallSilent_uncounted (h : s.scan.state.counts = false) :
    s.fallSilent = s.setScan { s.scan with lastSos := none } := by
  have hsilent : (s.setScan { s.scan with lastSos := none }).scan.state.counts = false := h
  unfold State.fallSilent
  dsimp only
  rw [hsilent]
  rfl

theorem fallSilent_counts (h : s.scan.state.counts = true) :
    s.fallSilent = (s.setScan { s.scan with lastSos := none }).seek.abortFrame .scanLost := by
  unfold State.fallSilent
  exact if_pos h

/-- What silence keeps (R92, R126). -/
theorem fallSilent_keeps (s : State) (v : Tick) : Keeps (.scan :: abortBlocks) s (s.setNow v).fallSilent := by
  cases hc : s.scan.state.counts with
  | true =>
    rw [fallSilent_counts (s := s.setNow v) hc]
    refine keeps_of ?_ ?_ ?_ ?_ ?_ ?_ ?_ ?_ ?_ ?_ ?_ ?_ ?_ ?_ ?_ ?_
    case refine_6 => exact .inr fun cell => storeByte_of (by simp) (by simp) cell
    all_goals simp [abortBlocks]
  | false =>
    rw [fallSilent_uncounted (s := s.setNow v) hc]
    exact (keeps_scan_events (e := s.events) rfl).mono (by simp [abortBlocks])

/-- Silence outside a frame gives up counting, and SCAN_UNLOCKED follows (R92, R102). -/
theorem fallSilent_outside (hc : s.scan.state.counts = true) (h : s.expo = false) (v : Tick) :
    Keeps [.scan, .events] s (s.setNow v).fallSilent
      ∧ (s.setNow v).fallSilent.events = (s.setScanState .seeking).events := by
  have hsilent := ((onward_setNow s v).setScan { s.scan with lastSos := none } rfl).setScan
    { s.scan with lastSos := none, facet := 0, homeMark := false, inRun := 0, outRun := 0 } rfl
  have hevents := setScanState_events_congr hsilent.scanState hsilent.events hsilent.control .seeking
  have hseek : ((s.setNow v).setScan { s.scan with lastSos := none }).seek = { s with
      now := v
      scan := { s.scan with
        lastSos := none, state := .seeking, facet := 0, homeMark := false, inRun := 0, outRun := 0 }
      events := (s.setScanState .seeking).events } := by
    unfold State.seek
    rw [setScanState_eq, ← hevents]
    rfl
  have hidle : ((s.setNow v).setScan { s.scan with lastSos := none }).seek.expo = false := by
    rw [hseek]
    exact h
  have hfall : (s.setNow v).fallSilent = ((s.setNow v).setScan { s.scan with lastSos := none }).seek :=
    (fallSilent_counts (s := s.setNow v) hc).trans (abortFrame_idle hidle _)
  rw [hfall]
  exact ⟨keeps_scan_events hseek, by rw [hseek]⟩

/-- Settles O35: each clause is one case of the scanner's state; outside a frame the abort trigger of a slip or of silence
does nothing. -/
theorem homeAndSilenceMoveTheScanner : Obligations.HomeAndSilenceMoveTheScanner := by
  unfold Obligations.HomeAndSilenceMoveTheScanner
  refine fun dt s => ⟨fun hm hr => ?_, fun t0 h0 hm => ?_⟩
  · rw [exec_home hm hr]
    refine ⟨fun hoff => ?_, fun hseeking => ?_, fun hc hfacet hmark => ?_, fun hc hplace => ?_⟩
    · exact congrArg _ (takeHome_off hoff)
    · refine ⟨_, rfl, ?_⟩
      rw [takeHome_seeking (s := s.setNow (s.now + dt)) hseeking, primeFacets_spec]
      exact ⟨rfl, keeps_scan_events rfl, rfl, rfl⟩
    · exact congrArg _ ((takeHome_counts (s := s.setNow (s.now + dt)) hc).trans (if_pos ⟨hfacet, hmark⟩))
    · have hslip : (s.setNow (s.now + dt)).takeHome = (s.setNow (s.now + dt)).slip :=
        (takeHome_counts (s := s.setNow (s.now + dt)) hc).trans (if_neg fun ⟨hfacet, hmark⟩ =>
          hplace.elim (· hfacet) fun hmarked => Bool.false_ne_true (hmark.symm.trans hmarked))
      obtain ⟨-, hstuck, hstretch⟩ := slip_events (onward_setNow s (s.now + dt))
      have hnow : (s.setNow (s.now + dt)).slip.now = s.now + dt := by simp
      refine ⟨_, rfl, ?_⟩
      rw [hslip]
      exact ⟨hnow, slip_keeps s _, slip_scan _, hstuck, hstretch.trans (by rw [hnow]; rfl), fun hidle => slip_outside hidle _⟩
  · rw [exec_silenceExpiry h0 hm]
    refine ⟨_, rfl, fallSilent_now _, fallSilent_keeps s _, fallSilent_scan _, fun hc => ?_, fun hc hidle => ?_⟩
    · rw [fallSilent_uncounted (s := s.setNow (t0 + 4 * s.scan.live.period)) hc]
      intro b hb
      cases b <;> simp_all [Block.same, State.storeByte]
    · exact fallSilent_outside hc hidle _

end Sys2Proof.Safety
end

section
/-! SOS in the Scan Timing Unit: glitch, period, facet, slip, judgement and lock (R89 to R99). -/

namespace Sys2Proof.Safety

open Machine

variable {s t u w : State} {v : Tick} {x : ScanUnit}

/-! ## The row (R89, R90) -/

/-- An SOS runs its row: ignored in OFF, a glitch, or accepted (R89, R90). -/
theorem exec_sos_row {dt : Nat} (hm : s.mayReach (s.now + dt) = true) (hr : s.pins.rst = false) : exec (.sos dt) s = .next
    (if s.scan.state = .off then s.setNow (s.now + dt)
      else if (s.setNow (s.now + dt)).isGlitch then (s.setNow (s.now + dt)).countGlitch
      else (s.setNow (s.now + dt)).acceptSos) := by
  have hrow : exec (.sos dt) s = .next (
      if s.pins.rst || s.scan.state == .off then s.setNow (s.now + dt)
      else if (s.setNow (s.now + dt)).isGlitch then (s.setNow (s.now + dt)).countGlitch
      else (s.setNow (s.now + dt)).acceptSos) :=
    s.after_of_mayReach dt (fun s => .next (
      if s.pins.rst || s.scan.state == .off then s else if s.isGlitch then s.countGlitch else s.acceptSos)) hm
  simpa [hr] using hrow

/-- A period below half of T_nom is a glitch (R90). -/
theorem isGlitch_of_short {t0 : Tick} (h0 : s.scan.lastSos = some t0) (h : v - t0 < s.scan.live.period / 2) :
    (s.setNow v).isGlitch = true := by
  unfold State.isGlitch State.period
  simp only [State.setNow, h0, Option.map_some]
  exact decide_eq_true h

/-- The facet-counting states (R93). -/
theorem counts_iff (y : ScanState) : y.counts = true ↔ y = .counting ∨ y = .locked ∨ y = .unsteady := by
  cases y <;> simp [ScanState.counts]

/-! ## The judgement of a period (R97) -/

theorem judgement_eq (s : State) (v : Tick) : judgement s v = match periodError s v with
    | none => .none
    | some e => if e ≤ s.scan.live.window then .inWindow else .outOfWindow := by
  unfold judgement periodError judge
  cases s.scan.lastSos <;> rfl

theorem judgement_none (h : periodError s v = none) : judgement s v = .none := by
  rw [judgement_eq, h]

theorem judgement_inWindow (h : InWindow s v) : judgement s v = .inWindow := by
  obtain ⟨e, he, hw⟩ := h
  rw [judgement_eq, Option.mem_def.1 he]
  exact if_pos hw

theorem judgement_outOfWindow_iff : judgement s v = .outOfWindow ↔ OutOfWindow s v := by
  rw [judgement_eq]
  unfold OutOfWindow
  cases periodError s v with
  | none => simp
  | some e =>
    by_cases h : e ≤ s.scan.live.window
    · simp [h]
    · simp [h, Nat.lt_of_not_le h]

/-! ## The lock rules, case by case (R98, R99) -/

theorem afterJudgement_none (x : ScanUnit) : afterJudgement x .none = x := by
  unfold afterJudgement
  split <;> simp_all

/-- In COUNTING, in window: the lock count is reached, or counting goes on (R98). -/
theorem afterJudgement_counting_in (hx : x.state = .counting) (hin : x.inRun < x.live.lockCount) :
    afterJudgement x .inWindow = { x with
      state := if x.inRun + 1 = x.live.lockCount then .locked else .counting, inRun := x.inRun + 1 } := by
  have hreach : x.live.lockCount ≤ x.inRun + 1 ↔ x.inRun + 1 = x.live.lockCount := by omega
  simp only [afterJudgement, hx, hreach]

/-- In COUNTING, out of window: the run starts afresh (R98). -/
theorem afterJudgement_counting_out (hx : x.state = .counting) :
    afterJudgement x .outOfWindow = { x with inRun := 0 } := by
  simp only [afterJudgement, hx]

/-- With lock, in window (R99). -/
theorem afterJudgement_lock_in (hx : x.state = .locked ∧ x.outRun = 0 ∨ x.state = .unsteady) :
    afterJudgement x .inWindow = { x with state := .locked, outRun := 0 } := by
  obtain ⟨hx, h0⟩ | hx := hx <;> simp only [afterJudgement, hx]
  rw [← hx, ← h0]

/-- With lock, out of window: the lock is lost at the loss limit, and UNSTEADY before it (R99). -/
theorem afterJudgement_lock_out (hx : x.state = .locked ∧ x.outRun = 0 ∨ x.state = .unsteady)
    (hl : x.outRun + 1 ≤ x.live.lossLimit) : afterJudgement x .outOfWindow =
      if x.outRun + 1 = x.live.lossLimit then lockLost x
      else { x with state := .unsteady, outRun := x.outRun + 1 } := by
  obtain ⟨hx, h0⟩ | hx := hx
  · have hlimit : 1 < x.live.lossLimit ↔ ¬ x.outRun + 1 = x.live.lossLimit := by omega
    simp only [afterJudgement, hx, hlimit, ite_not, h0, Nat.zero_add]
  · have hlimit : x.live.lossLimit ≤ x.outRun + 1 ↔ x.outRun + 1 = x.live.lossLimit := by omega
    simp only [afterJudgement, hx, hlimit]

/-! ## The scan unit after an accepted SOS -/

/-- An accepted SOS enters its period and becomes the last one; the settings and the glitch count stay (R90, R91). -/
theorem acceptSos_measures (s : State) (v : Tick) :
    (s.setNow v).acceptSos.scan.lastSos = some v ∧ (s.setNow v).acceptSos.scan.live = s.scan.live
      ∧ (s.setNow v).acceptSos.scan.glitches = s.scan.glitches
      ∧ (s.setNow v).acceptSos.scan.stats = (measured s v).scan.stats := by
  rw [acceptSos_scan]
  split
  · split
    · exact ⟨rfl, rfl, rfl, rfl⟩
    · rw [afterJudgement_eq]
      exact ⟨rfl, rfl, rfl, rfl⟩
  · exact ⟨rfl, rfl, rfl, rfl⟩

/-- The statistics with the measured period (R91). -/
theorem measured_stats (s : State) (v : Tick) : (measured s v).scan.stats = match s.scan.lastSos with
    | none => s.scan.stats
    | some t0 =>
      if s.scan.stats.empty then ⟨false, v - t0, v - t0, v - t0⟩
      else ⟨false, v - t0, min s.scan.stats.min (v - t0), max s.scan.stats.max (v - t0)⟩ := by
  rw [measured_scan]
  cases s.scan.lastSos <;> rfl

/-- Where facets are not counted, the SOS is measured alone (R90). -/
theorem acceptSos_scan_uncounted (hc : s.scan.state.counts = false) :
    (s.setNow v).acceptSos.scan = (measured s v).scan := by
  rw [acceptSos_scan, hc]
  rfl

/-- HOME missing is a slip (R93, R95). -/
theorem acceptSos_scan_slips (h : HomeMissing s.scan) : (s.setNow v).acceptSos.scan = slipped (measured s v).scan := by
  rw [acceptSos_scan, if_pos h.1, nextFacet_none h]

/-- The next facet is the one after, modulo P (R93). -/
theorem nextFacet_eq {f : Nat} (hlt : s.scan.facet < s.scan.live.facets) (hf : s.scan.nextFacet = some f) :
    f = (s.scan.facet + 1) % s.scan.live.facets := by
  unfold ScanUnit.nextFacet at hf
  split_ifs at hf with hnext hmark <;> cases hf
  · exact (Nat.mod_eq_of_lt hnext).symm
  · rw [show s.scan.facet + 1 = s.scan.live.facets by omega, Nat.mod_self]

/-- The scan unit of an SOS at the next facet, before its judgement (R90, R93). -/
def atFacet (s : State) (v : Tick) : ScanUnit :=
  { (measured s v).scan with facet := (s.scan.facet + 1) % s.scan.live.facets, homeMark := false }

/-- An SOS at the next facet is judged (R93, R97). -/
theorem acceptSos_scan_judged (hs : ScanSound s) (hc : s.scan.state.counts = true) (h : ¬ HomeMissing s.scan) :
    (s.setNow v).acceptSos.scan = afterJudgement (atFacet s v) (judgement s v) := by
  obtain ⟨f, hf⟩ := nextFacet_some hs hc h
  obtain ⟨-, hlt, -⟩ := (scanSound_iff.1 hs).of_counts hc
  rw [acceptSos_scan, if_pos hc, hf]
  obtain rfl := nextFacet_eq hlt hf
  rfl

/-- In COUNTING the lock count is not reached, and no period was out of window (R98). -/
theorem runs_of_counting (hs : ScanSound s) (hst : s.scan.state = .counting) :
    s.scan.inRun < s.scan.live.lockCount ∧ s.scan.outRun = 0 := by
  have hf := (scanSound_iff.1 hs).facets
  simp only [facetsSound, hst] at hf
  omega

/-- With lock the loss limit is not reached (R99). -/
theorem runs_of_lock (hs : ScanSound s) (hc : s.scan.state.counts = true) (hst : s.scan.state ≠ .counting) :
    (s.scan.state = .locked ∧ s.scan.outRun = 0 ∨ s.scan.state = .unsteady)
      ∧ s.scan.outRun + 1 ≤ s.scan.live.lossLimit := by
  have hf := (scanSound_iff.1 hs).facets
  obtain ⟨-, -, -, -, -, -, hloss, -⟩ := (scanSound_iff.1 hs).live
  obtain hcounting | hlocked | hunsteady := (counts_iff _).1 hc
  · exact absurd hcounting hst
  · have h0 := outRun_of_locked hs hlocked
    exact ⟨.inl ⟨hlocked, h0⟩, by omega⟩
  · simp only [facetsSound, hunsteady] at hf
    exact ⟨.inr hunsteady, by omega⟩

/-! ## The events of an accepted SOS (R95, R102) -/

/-- The sources an accepted SOS without a slip may raise are the engine's (R102, R113, R119, R126). -/
theorem acceptSos_events (hs : ScanSound s) (h : ¬ HomeMissing s.scan) :
    EventsBut [.frameFault, .frameDone, .lineLate] (scanFollowed s (s.setNow v).acceptSos.scan.state)
      (s.setNow v).acceptSos := by
  cases hc : s.scan.state.counts with
  | false =>
    rw [acceptSos_scan_uncounted hc, acceptSos_uncounted hc, scanFollowed,
      if_pos (onward_measured s v).scanState]
    exact EventsBut.trans (t := measured s v) (eventsBut_of_events rfl) ((eventsBut_takePulse _ _).mono (by simp))
  | true =>
    obtain ⟨f, hf⟩ := nextFacet_some hs hc h
    have hjudged := eventsBut_applyJudgement (w := faceted s v f) ((onward_measured s v).setScan _ rfl) (judgement s v)
    rw [acceptSos_judged hc hf, takePulse_scan]
    exact (hjudged.mono (by simp)).trans ((eventsBut_takePulse _ _).mono (by simp))

/-- HOME missing raises FACET_SLIP, and else the engine's sources alone (R95). -/
theorem acceptSos_slip_events (h : HomeMissing s.scan) :
    EventsBut [.facetSlip, .frameFault, .frameDone, .lineLate] (scanFollowed s (s.setNow v).acceptSos.scan.state)
      (s.setNow v).acceptSos
    ∧ (s.setNow v).acceptSos.stuck .facetSlip = true
    ∧ (s.setNow v).acceptSos.events.stretch[Source.facetSlip.index] = some ⟨v, 1000⟩ := by
  obtain ⟨hbut, hstuck, hstretch⟩ := slip_events (onward_measured s v)
  have hseeking : ScanState.seeking ≠ s.scan.state := fun heq => by simp [HomeMissing, ← heq, ScanState.counts] at h
  have hpulse := eventsBut_takePulse (measured s v).slip false
  obtain ⟨hkept, hkept'⟩ := hpulse .facetSlip (by simp)
  rw [acceptSos_slips h.1 (nextFacet_none h), takePulse_scan, slip_state, scanFollowed, if_neg hseeking]
  exact ⟨(hbut.mono (by simp)).trans (hpulse.mono (by simp)), hkept.trans hstuck, hkept'.trans hstretch⟩

/-- An SOS that finds the scanner with facets counted and HOME not missing: the facet and the judgement (R93, R97 to
R99). -/
theorem acceptSos_judgement (hs : ScanSound s) (hc : s.scan.state.counts = true) (h : ¬ HomeMissing s.scan)
    (ht : x = (s.setNow v).acceptSos.scan) :
    x.facet = (s.scan.facet + 1) % s.scan.live.facets ∧ x.homeMark = false ∧ x.slips = s.scan.slips
      ∧ (periodError s v = none → x.state = s.scan.state ∧ x.inRun = s.scan.inRun ∧ x.outRun = s.scan.outRun)
      ∧ (s.scan.state = .counting → InWindow s v →
          x.state = (if s.scan.inRun + 1 = s.scan.live.lockCount then .locked else .counting)
            ∧ x.inRun = s.scan.inRun + 1 ∧ x.outRun = 0)
      ∧ (s.scan.state = .counting → OutOfWindow s v → x.state = .counting ∧ x.inRun = 0 ∧ x.outRun = 0)
      ∧ (s.scan.state ≠ .counting → InWindow s v →
          x.state = .locked ∧ x.inRun = s.scan.inRun ∧ x.outRun = 0)
      ∧ (s.scan.state ≠ .counting → OutOfWindow s v →
          if s.scan.outRun + 1 = s.scan.live.lossLimit then x.state = .counting ∧ x.inRun = 0 ∧ x.outRun = 0
          else x.state = .unsteady ∧ x.inRun = s.scan.inRun ∧ x.outRun = s.scan.outRun + 1) := by
  rw [acceptSos_scan_judged hs hc h] at ht
  refine ⟨?_, ?_, ?_, fun hnone => ?_, fun hst hin => ?_, fun hst hout => ?_, fun hst hin => ?_, fun hst hout => ?_⟩
  · rw [ht, afterJudgement_eq]; rfl
  · rw [ht, afterJudgement_eq]; rfl
  · rw [ht, afterJudgement_eq]; rfl
  · rw [ht, judgement_none hnone, afterJudgement_none]
    exact ⟨rfl, rfl, rfl⟩
  · rw [ht, judgement_inWindow hin, afterJudgement_counting_in (x := atFacet s v) hst (runs_of_counting hs hst).1]
    exact ⟨rfl, rfl, (runs_of_counting hs hst).2⟩
  · rw [ht, judgement_outOfWindow_iff.2 hout, afterJudgement_counting_out (x := atFacet s v) hst]
    exact ⟨hst, rfl, (runs_of_counting hs hst).2⟩
  · rw [ht, judgement_inWindow hin, afterJudgement_lock_in (x := atFacet s v) (runs_of_lock hs hc hst).1]
    exact ⟨rfl, rfl, rfl⟩
  · obtain ⟨hstate, hlimit⟩ := runs_of_lock hs hc hst
    rw [ht, judgement_outOfWindow_iff.2 hout, afterJudgement_lock_out (x := atFacet s v) hstate hlimit]
    by_cases hl : s.scan.outRun + 1 = s.scan.live.lossLimit
    · rw [if_pos hl, if_pos (show (atFacet s v).outRun + 1 = (atFacet s v).live.lossLimit from hl)]
      exact ⟨rfl, rfl, rfl⟩
    · rw [if_neg hl, if_neg (show ¬ (atFacet s v).outRun + 1 = (atFacet s v).live.lossLimit from hl)]
      exact ⟨rfl, rfl, rfl⟩

/-- Settles O34: the row's three outcomes; of an accepted SOS the scan unit is `acceptSos_scan` case by case, and the events
are those of the judgement or the slip and of the engine. -/
theorem sosAdvancesTheScanner : Obligations.SosAdvancesTheScanner := by
  unfold Obligations.SosAdvancesTheScanner
  refine ⟨counts_iff, fun dt s => ⟨fun hm hr hoff => ?_, fun t0 hm hr hoff h0 hshort => ?_, fun ha hs => ?_⟩⟩
  · rw [exec_sos_row hm hr, if_pos hoff]
    rfl
  · rw [exec_sos_row hm hr, if_neg hoff, if_pos (isGlitch_of_short h0 hshort)]
    rfl
  · obtain ⟨hkeeps, hnow⟩ := acceptSos_keeps s (s.now + dt)
    obtain ⟨hlast, hlive, hglitches, hstats⟩ := acceptSos_measures s (s.now + dt)
    refine ⟨_, exec_sos ha, hnow, hkeeps.mono (by simp [abortBlocks]), ?_⟩
    rw [hnow]
    refine ⟨hlast, hlive, hglitches, hstats.trans (measured_stats s _), ?_, fun i hi hdone hfault hlate hslip => ?_,
      fun hseeking => ?_, fun hmiss => ?_, fun hc hmiss => acceptSos_judgement hs hc hmiss rfl⟩
    · by_cases hmiss : HomeMissing s.scan
      · exact ((acceptSos_slip_events hmiss).1 .scanUnlocked (by simp)).1
      · exact (acceptSos_events hs hmiss .scanUnlocked (by simp)).1
    · have hfollowed := eventsBut_scanFollowed s (s.setNow (s.now + dt)).acceptSos.scan.state
      by_cases hmiss : HomeMissing s.scan
      · have hneq := hslip.resolve_right (not_not_intro hmiss)
        exact ((hfollowed.mono (by simp)).trans ((acceptSos_slip_events hmiss).1.mono
          (m := [.scanUnlocked, .facetSlip, .frameFault, .frameDone, .lineLate]) (by simp))) i (by simp [*])
      · exact ((hfollowed.mono (by simp)).trans ((acceptSos_events hs hmiss).mono
          (m := [.scanUnlocked, .frameFault, .frameDone, .lineLate]) (by simp))) i (by simp [*])
    · have hc : s.scan.state.counts = false := by rw [hseeking]; rfl
      rw [acceptSos_scan_uncounted hc]
      rfl
    · obtain ⟨-, hstuck, hstretch⟩ := acceptSos_slip_events (v := s.now + dt) hmiss
      refine ⟨?_, hstuck, hstretch⟩
      rw [acceptSos_scan_slips hmiss]
      rfl

end Sys2Proof.Safety
end

section
/-! What an accepted SOS hands to the engine, and when the engine starts a frame on it (R100, R110). -/

namespace Sys2Proof.Safety

open Machine

variable {s t u w : State} {v : Tick} {n : Fin 8}

/-! ## The state and the mark handed on (R93, R97, R100) -/

/-- The state an accepted SOS hands to the engine, and whether its period was out of window (R100). -/
def handed (s : State) (v : Tick) : State × Bool :=
  if s.scan.state.counts then
    match s.scan.nextFacet with
    | none => ((measured s v).slip, false)
    | some f => ((faceted s v f).applyJudgement (judgement s v), judgement s v == .outOfWindow)
  else (measured s v, false)

theorem handed_uncounted (hc : s.scan.state.counts = false) : handed s v = (measured s v, false) := by
  unfold handed
  rw [hc]
  rfl

theorem handed_slips (hc : s.scan.state.counts = true) (hf : s.scan.nextFacet = none) :
    handed s v = ((measured s v).slip, false) := by
  unfold handed
  rw [if_pos hc, hf]

theorem handed_faceted {f : Nat} (hc : s.scan.state.counts = true) (hf : s.scan.nextFacet = some f) :
    handed s v = ((faceted s v f).applyJudgement (judgement s v), judgement s v == .outOfWindow) := by
  unfold handed
  rw [if_pos hc, hf]

theorem acceptSos_handed (s : State) (v : Tick) : (s.setNow v).acceptSos = (handed s v).1.takePulse (handed s v).2 := by
  cases hc : s.scan.state.counts with
  | false => rw [handed_uncounted hc, acceptSos_uncounted hc]
  | true =>
    cases hf : s.scan.nextFacet with
    | none => rw [handed_slips hc hf, acceptSos_slips hc hf]
    | some f => rw [handed_faceted hc hf, acceptSos_judged hc hf]

theorem onward_faceted (s : State) (v : Tick) (f : Nat) : Onward s (faceted s v f) := (onward_measured s v).setScan _ rfl

theorem handed_scan (s : State) (v : Tick) : (handed s v).1.scan = (s.setNow v).acceptSos.scan := by
  rw [acceptSos_handed, takePulse_scan]

theorem handed_now (s : State) (v : Tick) : (handed s v).1.now = v := by
  have hpulse : ((handed s v).1.takePulse (handed s v).2).now = (handed s v).1.now := by simp
  rw [← hpulse, ← acceptSos_handed]
  exact (acceptSos_keeps s v).2

/-- An SOS out of window never leaves the scanner LOCKED (R98, R99). -/
theorem afterJudgement_out_unlocked (x : ScanUnit) : (afterJudgement x .outOfWindow).state ≠ .locked := by
  unfold afterJudgement lockLost
  cases hx : x.state <;> dsimp only
  case locked => split <;> simp
  case unsteady => split <;> simp
  all_goals simp [hx]

/-- With lock after the pulse, the SOS was judged (R97 to R99). -/
theorem nextFacet_of_locked (h : (handed s v).1.scan.state = .locked ∨ (handed s v).1.scan.state = .unsteady) :
    s.scan.state.counts = true ∧ ∃ f, s.scan.nextFacet = some f := by
  cases hc : s.scan.state.counts with
  | false =>
    rw [handed_uncounted hc] at h
    exact absurd ((counts_iff _).2 (.inr h)) (by rw [(onward_measured s v).scanState, hc]; simp)
  | true =>
    cases hf : s.scan.nextFacet with
    | none => simp [handed_slips hc hf, slip_state] at h
    | some f => exact ⟨rfl, f, rfl⟩

theorem handed_locked (h : (handed s v).1.scan.state = .locked) : (handed s v).2 = false := by
  obtain ⟨hc, f, hf⟩ := nextFacet_of_locked (.inl h)
  rw [handed_faceted hc hf] at h ⊢
  rw [applyJudgement_scan] at h
  refine beq_false_of_ne fun hj => ?_
  rw [hj] at h
  exact afterJudgement_out_unlocked _ h

/-- With lock after the pulse, the exposure is handed on as it was, and the mark is that of the period (R97, R100). -/
theorem handed_judged (h : (handed s v).1.scan.state = .locked ∨ (handed s v).1.scan.state = .unsteady) :
    Judged s (handed s v).1 ∧ ((handed s v).2 = true ↔ OutOfWindow s v) := by
  obtain ⟨hc, f, hf⟩ := nextFacet_of_locked h
  rw [handed_faceted hc hf] at h ⊢
  rw [beq_iff_eq, judgement_outOfWindow_iff]
  exact ⟨applyJudgement_judged (onward_faceted s v f) rfl _ h, .rfl⟩

/-! ## Outside a frame (R95, R99, R130) -/

/-- The tick, the scanner and the events alone have moved. -/
def ScannerMoved (s w : State) : Prop := ∃ v x e, w = { s with now := v, scan := x, events := e }

theorem ScannerMoved.keeps (h : ScannerMoved s w) : Keeps [.scan, .events] s w := by
  obtain ⟨v, x, e, h⟩ := h
  exact keeps_scan_events h

theorem ScannerMoved.setScanState (h : ScannerMoved s w) (y : ScanState) : ScannerMoved s (w.setScanState y) := by
  obtain ⟨v, x, e, rfl⟩ := h
  exact ⟨v, _, _, setScanState_eq _ y⟩

theorem ScannerMoved.expo (h : ScannerMoved s w) : w.expo = s.expo := by
  obtain ⟨v, x, e, rfl⟩ := h
  rfl

theorem ScannerMoved.slip (h : ScannerMoved s w) (he : s.expo = false) : ScannerMoved s w.slip := by
  rw [slip_idle (h.expo.trans he)]
  obtain ⟨v, x, e, rfl⟩ := h
  exact ⟨v, _, _, slipRaised_eq _⟩

/-- A judgement outside a frame moves the scanner alone (R98, R99). -/
theorem ScannerMoved.applyJudgement (h : ScannerMoved s w) (he : s.expo = false) (j : Judgement) :
    ScannerMoved s (w.applyJudgement j) := by
  have hscan (x : ScanUnit) : ScannerMoved s (w.setScan x) := by
    obtain ⟨v, y, e, rfl⟩ := h
    exact ⟨v, x, e, rfl⟩
  have hto := applyJudgement_to w j
  generalize w.applyJudgement j = a at hto ⊢
  cases hto with
  | stays x hx => exact hscan x
  | changes x hx y hy => exact (hscan x).setScanState y
  | loses x hx hy =>
    have hlost := (hscan x).setScanState .counting
    rw [abortFrame_idle (hlost.expo.trans he)]
    exact hlost

/-- After a judgement outside a frame SCAN_UNLOCKED follows the scanner (R102). -/
theorem applyJudgement_events (h : Onward s w) (he : w.expo = false) (j : Judgement) :
    (w.applyJudgement j).events = (scanFollowed s (w.applyJudgement j).scan.state).events := by
  have hto := applyJudgement_to w j
  generalize w.applyJudgement j = a at hto ⊢
  cases hto with
  | stays x hx => exact h.stays hx
  | changes x hx y hy =>
    rw [setScanState_scan]
    exact (h.setScan x hx).followed (h.scanState ▸ hy)
  | loses x hx hy =>
    rw [abortFrame_idle (by simpa using he), setScanState_scan]
    exact (h.setScan x hx).followed (h.scanState ▸ hy)

theorem handed_outside (he : s.expo = false) (v : Tick) : ScannerMoved s (handed s v).1 := by
  cases hc : s.scan.state.counts with
  | false => rw [handed_uncounted hc]; exact ⟨_, _, _, rfl⟩
  | true =>
    cases hf : s.scan.nextFacet with
    | none => rw [handed_slips hc hf]; exact ScannerMoved.slip ⟨_, _, _, rfl⟩ he
    | some f => rw [handed_faceted hc hf]; exact ScannerMoved.applyJudgement ⟨_, _, _, rfl⟩ he _

/-- Outside a frame, of the events SCAN_UNLOCKED follows the scanner and a slip raises FACET_SLIP (R95, R102). -/
theorem handed_scanEvents (he : s.expo = false) (hs : ScanSound s) (v : Tick) : ScanEvents s (handed s v).1 := by
  refine ⟨fun hmiss => ?_, fun hmiss => raised_nil ?_⟩
  · have hseeking : ScanState.seeking ≠ s.scan.state := fun heq => by simp [HomeMissing, ← heq, ScanState.counts] at hmiss
    rw [handed_slips hmiss.1 (nextFacet_none hmiss), slip_state, scanFollowed, if_neg hseeking,
      slip_idle (s := measured s v) he]
    exact (onward_measured s v).slipRaised.raised
  · cases hc : s.scan.state.counts with
    | false =>
      rw [handed_uncounted hc, scanFollowed, if_pos (onward_measured s v).scanState]
      rfl
    | true =>
      obtain ⟨f, hf⟩ := nextFacet_some hs hc hmiss
      rw [handed_faceted hc hf]
      exact applyJudgement_events (onward_faceted s v f) he _

/-! ## The conditions of a start (R110) -/

theorem bankTagged_none_iff {l : Nat} {p : BankState → Bool} :
    s.bankTagged n l p = none ↔ ¬ ∃ j, (s.bank j).tag = some (n, l) ∧ p (s.bank j).state = true := by
  simp [State.bankTagged, Fin.exists_fin_two]

theorem bankTagged_some {l : Nat} {p : BankState → Bool} {b : Fin 2} (h : s.bankTagged n l p = some b) :
    (s.bank b).tag = some (n, l) ∧ p (s.bank b).state = true := by
  have hfound := List.find?_some h
  simpa using hfound

theorem eligibleHead_iff : EligibleHead s n ↔ s.eligibleHead = some n := by
  unfold EligibleHead State.eligibleHead State.slotEligible State.head
  rw [Option.filter_eq_some_iff]
  refine and_congr_right fun _ => ?_
  cases hx : (s.slot n).state <;> simp

/-- What R110 asks of the state a pulse finds. -/
theorem firstBlock_none_iff : s.firstBlock = .none ↔ ∃ n, EligibleHead s n
    ∧ (∃ k, (s.bank k).tag = some (n, 0) ∧ (s.bank k).state = .full)
    ∧ s.tableState .modulator = .valid ∧ s.tableState .facet = .valid ∧ s.scan.state = .locked
    ∧ s.pins.interlock = false ∧ s.pins.gate = true := by
  simp only [eligibleHead_iff]
  unfold State.firstBlock
  cases hhead : s.eligibleHead with
  | none => simp
  | some m =>
    have hbank : (s.bankTagged m 0 (· == .full)).isNone = true
        ↔ ¬ ∃ k, (s.bank k).tag = some (m, 0) ∧ (s.bank k).state = .full := by
      rw [Option.isNone_iff_eq_none, bankTagged_none_iff]
      simp only [beq_iff_eq]
    have htables : (!(s.tableState .modulator == .valid && s.tableState .facet == .valid)) = true
        ↔ ¬ (s.tableState .modulator = .valid ∧ s.tableState .facet = .valid) := by
      rw [Bool.not_eq_true', ← Bool.not_eq_true, Bool.and_eq_true, beq_iff_eq, beq_iff_eq]
    have hscan : (s.scan.state != .locked) = true ↔ ¬ s.scan.state = .locked := bne_iff_ne
    simp only [Option.some.injEq, exists_eq_left', hbank, htables, hscan, ite_not, Bool.not_eq_true']
    split_ifs with hstaged hvalid hlocked hopen hgate
    · exact iff_of_false nofun fun ⟨_, _, _, _, h, _⟩ => Bool.false_ne_true (h.symm.trans hopen)
    · exact iff_of_false nofun fun ⟨_, _, _, _, _, h⟩ => Bool.false_ne_true (hgate.symm.trans h)
    · exact iff_of_true rfl ⟨hstaged, hvalid.1, hvalid.2, hlocked, Bool.eq_false_of_not_eq_true hopen,
        Bool.eq_true_of_not_eq_false hgate⟩
    · exact iff_of_false nofun fun ⟨_, _, _, h, _⟩ => hlocked h
    · exact iff_of_false nofun fun ⟨_, h, h', _⟩ => hvalid ⟨h, h'⟩
    · exact iff_of_false nofun fun ⟨h, _⟩ => hstaged h

end Sys2Proof.Safety
end

section
/-! The sweep an SOS begins: what it does to the banks and the fetch, the engine, the slot, the drives and the events
(R112, R119, R120, R122, R125). -/

namespace Sys2Proof.Safety

open Machine

variable {s u : State} {n : Fin 8} {k : Nat} {b : Fin 2}

/-! ## Banks below the line (R119, R120) -/

/-- A bank below line `k` is freed (R119). -/
def unbelow (k : Nat) (x : Bank) : Bank :=
  if x.tag.any (fun y => y.2 < k) then { x with state := .free, tag := none } else x

theorem unbelow_below {x : Bank} (h : ∃ y ∈ x.tag, y.2 < k) : unbelow k x = { x with state := .free, tag := none } := by
  obtain ⟨y, hy, hlt⟩ := h
  simp [unbelow, Option.mem_def.1 hy, hlt]

theorem unbelow_kept {x : Bank} (h : ∀ y ∈ x.tag, k ≤ y.2) : unbelow k x = x := by
  unfold unbelow
  cases hx : x.tag with
  | none => rfl
  | some y =>
    have hle := h y hx
    simp [Nat.not_lt.2 hle]

theorem releaseBank_bank (s : State) (b j : Fin 2) :
    (s.releaseBank b).bank j = if j = b then { s.bank b with state := .free, tag := none } else s.bank j := by
  rw [← State.bank_setBank]
  unfold State.releaseBank
  dsimp only
  split <;> rfl

theorem releaseBelow_bank (s : State) (k : Nat) (b j : Fin 2) :
    (s.releaseBelow k b).bank j = if j = b then unbelow k (s.bank b) else s.bank j := by
  unfold State.releaseBelow unbelow
  split
  · exact releaseBank_bank s b j
  · split
    · rw [‹j = b›]
    · rfl

/-- Every bank below the line is freed, and the others are unchanged (R119). -/
theorem cleared_bank (s : State) (k : Nat) (j : Fin 2) : (cleared s k).bank j = unbelow k (s.bank j) := by
  unfold cleared
  rw [releaseBelow_bank, releaseBelow_bank, releaseBelow_bank]
  match j with
  | 0 => rfl
  | 1 => rfl

theorem releaseBelow_target (s : State) (k : Nat) (b : Fin 2) : (s.releaseBelow k b).feeder.target = s.feeder.target := by
  unfold State.releaseBelow State.releaseBank
  dsimp only
  split
  · split <;> rfl
  · rfl

theorem cleared_target (s : State) (k : Nat) : (cleared s k).feeder.target = s.feeder.target := by
  rw [cleared, releaseBelow_target, releaseBelow_target]

/-- A fetch into another bank, or into one that is not below the line, goes on (R120). -/
theorem releaseBelow_fetch_kept (h : ∀ f ∈ s.feeder.fetch, f.bank = b → ∀ y ∈ (s.bank b).tag, k ≤ y.2) :
    (s.releaseBelow k b).feeder.fetch = s.feeder.fetch ∧ (s.releaseBelow k b).sc = s.sc := by
  unfold State.releaseBelow
  split
  · rename_i hbelow
    have hother : s.feeder.fetch.any (fun f => f.bank == b) = false := by
      cases hf : s.feeder.fetch with
      | none => rfl
      | some f =>
        refine beq_false_of_ne fun hb => ?_
        cases hy : (s.bank b).tag with
        | none => simp [hy] at hbelow
        | some y => exact Nat.not_lt.2 (h f hf hb y hy) (by simpa [hy] using hbelow)
    unfold State.releaseBank
    simp only [hother]
    exact ⟨rfl, rfl⟩
  · exact ⟨rfl, rfl⟩

/-- A fetch into a bank below the line is abandoned (R120). -/
theorem releaseBelow_fetch_dropped {f : Fetch} (hf : s.feeder.fetch = some f) (hb : f.bank = b)
    (h : ∃ y ∈ (s.bank b).tag, y.2 < k) : (s.releaseBelow k b).feeder.fetch = none
      ∧ (s.releaseBelow k b).sc = (s.mapUnit GrantUnit.dropFetch).sc := by
  obtain ⟨y, hy, hlt⟩ := h
  have hbelow : (s.bank b).tag.any (fun y => y.2 < k) = true := by simp [Option.mem_def.1 hy, hlt]
  have hany : s.feeder.fetch.any (fun f => f.bank == b) = true := by simp [hf, hb]
  unfold State.releaseBelow State.releaseBank
  simp only [hbelow, hany, if_true]
  exact ⟨rfl, rfl⟩

/-- With no bank of the fetch below the line, the fetch goes on (R120). -/
theorem cleared_fetch_kept (h : ∀ f ∈ s.feeder.fetch, ∀ y ∈ (s.bank f.bank).tag, k ≤ y.2) :
    (cleared s k).feeder.fetch = s.feeder.fetch ∧ (cleared s k).sc = s.sc := by
  obtain ⟨hfetch, hsc⟩ := releaseBelow_fetch_kept (b := 0) fun f hf hb => hb ▸ h f hf
  have hbank : (s.releaseBelow k 0).bank 1 = s.bank 1 := by rw [releaseBelow_bank, if_neg (by decide)]
  obtain ⟨hfetch', hsc'⟩ := releaseBelow_fetch_kept (s := s.releaseBelow k 0) (b := 1) (k := k) (by
    rw [hfetch, hbank]
    exact fun f hf hb => hb ▸ h f hf)
  exact ⟨hfetch'.trans hfetch, hsc'.trans hsc⟩

/-- A fetch into a bank below the line is abandoned (R120). -/
theorem cleared_fetch_dropped {f : Fetch} (hf : s.feeder.fetch = some f) (h : ∃ y ∈ (s.bank f.bank).tag, y.2 < k) :
    (cleared s k).feeder.fetch = none ∧ (cleared s k).sc = (s.mapUnit GrantUnit.dropFetch).sc := by
  unfold cleared
  match hb : f.bank with
  | 0 =>
    obtain ⟨hfetch, hsc⟩ := releaseBelow_fetch_dropped hf hb (hb ▸ h)
    obtain ⟨hfetch', hsc'⟩ := releaseBelow_fetch_kept (s := s.releaseBelow k 0) (b := 1) (k := k) (by simp [hfetch])
    exact ⟨hfetch'.trans hfetch, hsc'.trans hsc⟩
  | 1 =>
    obtain ⟨hfetch, hsc⟩ := releaseBelow_fetch_kept (s := s) (b := 0) (k := k) (by
      rintro g hg h0
      cases hf.symm.trans hg
      exact absurd (hb.symm.trans h0) (by decide))
    have hbank : (s.releaseBelow k 0).bank 1 = s.bank 1 := by rw [releaseBelow_bank, if_neg (by decide)]
    obtain ⟨hfetch', hsc'⟩ := releaseBelow_fetch_dropped (hfetch.trans hf) hb (k := k) (hbank ▸ hb ▸ h)
    exact ⟨hfetch', hsc'.trans (mapUnit_sc_congr hsc _)⟩

/-! ## The bank a line is sent from (R119) -/

theorem readyBank_none_iff : readyBank s n k = none
    ↔ ¬ ∃ j, (s.bank j).tag = some (n, k) ∧ ((s.bank j).state = .full ∨ (s.bank j).state = .sending) := by
  unfold readyBank
  rw [bankTagged_none_iff]
  simp only [Bool.or_eq_true, beq_iff_eq]

theorem readyBank_some (h : readyBank s n k = some b) :
    (s.bank b).tag = some (n, k) ∧ ((s.bank b).state = .full ∨ (s.bank b).state = .sending) := by
  simpa using bankTagged_some h

/-- A bank of line `k` is not below it. -/
theorem unbelow_tag_iff (x : Bank) : (unbelow k x).tag = some (n, k) ↔ x.tag = some (n, k) := by
  unfold unbelow
  split
  · rename_i hbelow
    refine iff_of_false nofun fun htag => ?_
    rw [htag] at hbelow
    simp at hbelow
  · rfl

/-- The banks below the line are no candidates (R119). -/
theorem readyBank_cleared (s : State) (n : Fin 8) (k : Nat) : readyBank (cleared s k) n k = readyBank s n k := by
  have hcandidate (x : Bank) : ((unbelow k x).tag == some (n, k)
      && ((unbelow k x).state == .full || (unbelow k x).state == .sending))
      = (x.tag == some (n, k) && (x.state == .full || x.state == .sending)) := by
    by_cases htag : x.tag = some (n, k)
    · rw [unbelow_kept (x := x) (by simp [htag])]
    · have htag' := (unbelow_tag_iff x).not.2 htag
      rw [beq_false_of_ne htag, beq_false_of_ne htag', Bool.false_and, Bool.false_and]
  unfold readyBank State.bankTagged
  simp only [cleared_bank, hcandidate]

/-! ## The spoiled line (R125) -/

theorem markSpoiled_engine (s : State) : s.markSpoiled.engine = { s.engine with spoiled := true } := by
  unfold State.markSpoiled
  split
  · rename_i h
    rw [← h]
  · split <;> rfl

/-- A line is marked once (R125). -/
theorem markSpoiled_again (h : s.engine.spoiled = true) : s.markSpoiled = s := if_pos h

theorem markSpoiled_first (hs : s.engine.slot = some n) (h : s.engine.spoiled = false) : s.markSpoiled
    = (s.setEngine { s.engine with spoiled := true }).setSlot n { s.slot n with spoiled := (s.slot n).spoiled + 1 } := by
  unfold State.markSpoiled
  simp only [h, hs]
  rfl

theorem markSpoiled_slot (hs : s.engine.slot = some n) (m : Fin 8) : s.markSpoiled.slot m = if m = n then
    { s.slot n with spoiled := (s.slot n).spoiled + if s.engine.spoiled then 0 else 1 } else s.slot m := by
  cases h : s.engine.spoiled with
  | true =>
    rw [markSpoiled_again h]
    split
    · rw [‹m = n›]; rfl
    · rfl
  | false =>
    rw [markSpoiled_first hs h]
    exact State.slot_setSlot _ n m _

theorem markSpoiled_queue (s : State) : s.markSpoiled.slots.queue = s.slots.queue := by
  unfold State.markSpoiled
  split
  · rfl
  · split
    · exact State.setSlot_queue _ _ _
    · rfl

theorem markSpoiled_users (s : State) (y : StockSet) : s.markSpoiled.users y = s.users y := by
  unfold State.markSpoiled
  split
  · rfl
  · split
    · exact State.users_setSlot _ _ _ _
    · rfl

/-! ## An image sweep (R112, R119, R125) -/

/-- The state with its bank sent, or with the sweep late, before the spoiled mark (R119). -/
def chosen (s : State) (n : Fin 8) (k : Nat) : State :=
  match readyBank s n k with
  | some b => ((cleared s k).setBank b { (cleared s k).bank b with state := .sending }).startSweep true (some b)
  | none => ((cleared s k).raise .lineLate).startSweep true none

/-- The spoiled mark, where it is due. -/
def spoiledIf (s : State) (c : Bool) : State := if c then s.markSpoiled else s

/-- The fetch target follows the line of a first sweep (R120). -/
def aimed (s : State) (k : Nat) (first : Bool) : State :=
  if first then s.setFeeder { s.feeder with target := max s.feeder.target k } else s

theorem aimed_engine (s : State) (k : Nat) (first : Bool) : (aimed s k first).engine = s.engine := by cases first <;> rfl

theorem aimed_slots (s : State) (k : Nat) (first : Bool) : (aimed s k first).slots = s.slots := by cases first <;> rfl

theorem spoiledIf_engine (s : State) (c : Bool) :
    (spoiledIf s c).engine = { s.engine with spoiled := c || s.engine.spoiled } := by
  cases c
  · rfl
  · exact markSpoiled_engine s

theorem spoiledIf_slot (hs : s.engine.slot = some n) (c : Bool) (m : Fin 8) : (spoiledIf s c).slot m = if m = n then
    { s.slot n with spoiled := (s.slot n).spoiled + if c && !s.engine.spoiled then 1 else 0 } else s.slot m := by
  cases c
  · by_cases hm : m = n
    · rw [if_pos hm, hm]; rfl
    · rw [if_neg hm]; rfl
  · refine (markSpoiled_slot hs m).trans ?_
    cases s.engine.spoiled <;> rfl

theorem spoiledIf_or (s : State) (c d : Bool) : spoiledIf (spoiledIf s c) d = spoiledIf s (c || d) := by
  cases c <;> cases d
  case true.true => exact markSpoiled_again (by rw [spoiledIf, if_pos rfl, markSpoiled_engine])
  all_goals rfl

/-- The mark does not look at what a step of other blocks changes. -/
theorem markSpoiled_commutes {f : State → State} (hs : s.engine.slot = some n) (hengine : ∀ a, (f a).engine = a.engine)
    (hslots : ∀ a, (f a).slots = a.slots) (hcommutes : ∀ a e x, f ((a.setEngine e).setSlot n x) = ((f a).setEngine e).setSlot n x) :
    f s.markSpoiled = (f s).markSpoiled := by
  cases h : s.engine.spoiled with
  | true => rw [markSpoiled_again h, markSpoiled_again (by rw [hengine, h])]
  | false =>
    rw [markSpoiled_first hs h, markSpoiled_first (by rw [hengine, hs]) (by rw [hengine, h]), hengine,
      slot_congr (hslots s), hcommutes]

/-- A sweep chooses its bank, and a late one spoils its line (R119, R125). -/
theorem chooseBank_eq (hs : s.engine.slot = some n) (k : Nat) :
    s.chooseBank n k = spoiledIf (chosen s n k) (readyBank s n k).isNone := by
  unfold chosen
  cases h : readyBank s n k with
  | some b => exact chooseBank_sends ((readyBank_cleared s n k).trans h)
  | none =>
    rw [chooseBank_late ((readyBank_cleared s n k).trans h)]
    exact markSpoiled_commutes (f := fun a => a.startSweep true none) (by simpa [cleared] using hs) (fun _ => rfl)
      (fun _ => rfl) fun _ _ _ => rfl

theorem aimed_spoiledIf (hs : s.engine.slot = some n) (k : Nat) (first c : Bool) :
    aimed (spoiledIf s c) k first = spoiledIf (aimed s k first) c := by
  cases c
  · rfl
  · refine markSpoiled_commutes (f := fun a => aimed a k first) hs ?_ ?_ ?_ <;> cases first <;> exact fun _ => by intros; rfl

theorem chosen_engine (s : State) (n : Fin 8) (k : Nat) : (chosen s n k).engine = s.engine := by
  unfold chosen cleared
  split <;> simp

theorem chosen_slots (s : State) (n : Fin 8) (k : Nat) : (chosen s n k).slots = s.slots := by
  unfold chosen cleared
  split <;> simp

/-- An image sweep: the line, the bank, the target and the mark (R112, R119, R120, R125). -/
theorem imageSweep_steps (hs : s.engine.slot = some n) (k : Nat) (first out : Bool) : s.imageSweep n k first out =
    spoiledIf (aimed (chosen (lined s k first) n k) k first) ((readyBank s n k).isNone || out) := by
  have hchoose : (lined s k first).chooseBank n k
      = spoiledIf (chosen (lined s k first) n k) (readyBank s n k).isNone := chooseBank_eq (s := lined s k first) hs k
  have haimed := aimed_spoiledIf (s := chosen (lined s k first) n k) (n := n)
    (by rw [chosen_engine]; exact hs) k first (readyBank s n k).isNone
  rw [imageSweep_eq, hchoose, ← spoiledIf_or, ← haimed]
  rfl

/-- The bank sent, the banks freed, and the others (R119). -/
theorem chosen_bank (s : State) (n : Fin 8) (k : Nat) (j : Fin 2) : (chosen s n k).bank j =
    if readyBank s n k = some j then { s.bank j with state := .sending } else unbelow k (s.bank j) := by
  unfold chosen
  cases h : readyBank s n k with
  | none => exact (cleared_bank s k j).trans (if_neg nofun).symm
  | some b =>
    have hkept : unbelow k (s.bank b) = s.bank b := unbelow_kept (by simp [(readyBank_some h).1])
    have hbank := State.bank_setBank (cleared s k) b j { (cleared s k).bank b with state := .sending }
    refine Eq.trans hbank ?_
    rw [cleared_bank, cleared_bank, hkept]
    by_cases hj : j = b
    · rw [if_pos hj, if_pos (by rw [hj]), hj]
    · rw [if_neg hj, if_neg fun h => hj (Option.some.inj h).symm]

theorem chosen_fetch (s : State) (n : Fin 8) (k : Nat) :
    (chosen s n k).feeder.fetch = (cleared s k).feeder.fetch ∧ (chosen s n k).sc = (cleared s k).sc
      ∧ (chosen s n k).feeder.target = s.feeder.target := by
  rw [← cleared_target s k]
  unfold chosen
  split <;> exact ⟨rfl, rfl, rfl⟩

theorem chosen_drive (s : State) (n : Fin 8) (k : Nat) : (chosen s n k).drive =
    ⟨some ⟨true, readyBank s n k, s.scan.facet, s.scan.live.margin, 0, false⟩, 0, 0, 0⟩ := by
  have hscan : (cleared s k).scan = s.scan := by simp [cleared]
  unfold chosen
  rw [← hscan]
  cases readyBank s n k <;> rfl

/-- A late sweep raises LINE_LATE (R119). -/
theorem chosen_events (s : State) (n : Fin 8) (k : Nat) :
    (chosen s n k).events = if readyBank s n k = none then (s.raise .lineLate).events else s.events := by
  have hevents : (cleared s k).events = s.events := by simp [cleared]
  have hnow : (cleared s k).now = s.now := by simp [cleared]
  unfold chosen
  cases readyBank s n k with
  | some b => exact hevents
  | none =>
    show ((cleared s k).raise .lineLate).events = (s.raise .lineLate).events
    simp [State.raise, hevents, hnow]

/-! ## What an image sweep leaves -/

theorem aimed_chosen_engine (s : State) (n : Fin 8) (k : Nat) (first : Bool) :
    (aimed (chosen (lined s k first) n k) k first).engine = (lined s k first).engine := by
  rw [aimed_engine, chosen_engine]

theorem aimed_chosen_slots (s : State) (n : Fin 8) (k : Nat) (first : Bool) :
    (aimed (chosen (lined s k first) n k) k first).slots = s.slots := by
  rw [aimed_slots, chosen_slots]
  rfl

theorem spoiledIf_kept (s : State) (c : Bool) : (spoiledIf s c).feeder = s.feeder ∧ (spoiledIf s c).sc = s.sc
    ∧ (spoiledIf s c).drive = s.drive ∧ (spoiledIf s c).events = s.events := by
  cases c <;> simp [spoiledIf]

section
variable (hs : s.engine.slot = some n) (k : Nat) (first out : Bool)
include hs

theorem imageSweep_engine : (s.imageSweep n k first out).engine = { s.engine with
    state := .imaging
    line := if first then some k else s.engine.line
    spoiled := (readyBank s n k).isNone || out || if first then false else s.engine.spoiled } := by
  rw [imageSweep_steps hs, spoiledIf_engine, aimed_chosen_engine]
  rfl

/-- The slot counts its spoiled line once (R125). -/
theorem imageSweep_slot (m : Fin 8) : (s.imageSweep n k first out).slot m = if m = n then { s.slot n with
      spoiled := (s.slot n).spoiled
        + if ((readyBank s n k).isNone || out) && (first || !s.engine.spoiled) then 1 else 0 }
    else s.slot m := by
  rw [imageSweep_steps hs, spoiledIf_slot (by rw [aimed_chosen_engine]; exact hs), slot_congr (aimed_chosen_slots s n k first),
    slot_congr (aimed_chosen_slots s n k first), aimed_chosen_engine]
  cases first <;> rfl

theorem imageSweep_queue : (s.imageSweep n k first out).slots.queue = s.slots.queue
    ∧ ∀ y, (s.imageSweep n k first out).users y = s.users y := by
  have hslots := aimed_chosen_slots s n k first
  rw [imageSweep_steps hs, ← hslots]
  unfold spoiledIf
  split
  · exact ⟨markSpoiled_queue _, fun y => (markSpoiled_users _ y).trans (users_congr hslots y)⟩
  · exact ⟨rfl, users_congr hslots⟩

theorem imageSweep_feeder : (s.imageSweep n k first out).feeder = (aimed (chosen (lined s k first) n k) k first).feeder
    ∧ (s.imageSweep n k first out).sc = (chosen (lined s k first) n k).sc
    ∧ (s.imageSweep n k first out).drive = (chosen (lined s k first) n k).drive
    ∧ (s.imageSweep n k first out).events = (chosen (lined s k first) n k).events := by
  obtain ⟨hfeeder, hsc, hdrive, hevents⟩ := spoiledIf_kept (aimed (chosen (lined s k first) n k) k first)
    ((readyBank s n k).isNone || out)
  rw [imageSweep_steps hs, hfeeder, hsc, hdrive, hevents]
  cases first <;> exact ⟨rfl, rfl, rfl, rfl⟩

/-- The bank sent, the banks freed, and the others (R119). -/
theorem imageSweep_bank (j : Fin 2) : (s.imageSweep n k first out).bank j =
    if readyBank s n k = some j then { s.bank j with state := .sending } else unbelow k (s.bank j) := by
  obtain ⟨hfeeder, -⟩ := imageSweep_feeder hs k first out
  have hbank : (s.imageSweep n k first out).bank j = (chosen (lined s k first) n k).bank j := by
    unfold State.bank
    rw [hfeeder]
    cases first <;> rfl
  exact hbank.trans (chosen_bank (lined s k first) n k j)

theorem imageSweep_target : (s.imageSweep n k first out).feeder.target =
    if first then max s.feeder.target k else s.feeder.target := by
  obtain ⟨hfeeder, -⟩ := imageSweep_feeder hs k first out
  obtain ⟨-, -, htarget⟩ := chosen_fetch (lined s k first) n k
  have haimed : (aimed (chosen (lined s k first) n k) k first).feeder.target
      = if first then max (chosen (lined s k first) n k).feeder.target k
        else (chosen (lined s k first) n k).feeder.target := by cases first <;> rfl
  rw [hfeeder, haimed, htarget]
  rfl

/-- The fetch and the Store Controller are those after the banks below the line were freed (R119, R120). -/
theorem imageSweep_fetch : (s.imageSweep n k first out).feeder.fetch = (cleared (lined s k first) k).feeder.fetch
    ∧ (s.imageSweep n k first out).sc = (cleared (lined s k first) k).sc := by
  obtain ⟨hfeeder, hsc, -⟩ := imageSweep_feeder hs k first out
  obtain ⟨hfetch, hchosen, -⟩ := chosen_fetch (lined s k first) n k
  rw [hfeeder, hsc, ← hfetch, ← hchosen]
  cases first <;> exact ⟨rfl, rfl⟩

theorem imageSweep_fetch_kept (h : ∀ f ∈ s.feeder.fetch, ∀ y ∈ (s.bank f.bank).tag, k ≤ y.2) :
    (s.imageSweep n k first out).feeder.fetch = s.feeder.fetch ∧ (s.imageSweep n k first out).sc = s.sc := by
  obtain ⟨hfetch, hsc⟩ := imageSweep_fetch hs k first out
  rw [hfetch, hsc]
  exact cleared_fetch_kept (s := lined s k first) h

theorem imageSweep_fetch_dropped {f : Fetch} (hf : s.feeder.fetch = some f)
    (h : ∃ y ∈ (s.bank f.bank).tag, y.2 < k) : (s.imageSweep n k first out).feeder.fetch = none
      ∧ (s.imageSweep n k first out).sc = (s.mapUnit GrantUnit.dropFetch).sc := by
  obtain ⟨hfetch, hsc⟩ := imageSweep_fetch hs k first out
  rw [hfetch, hsc]
  exact cleared_fetch_dropped (s := lined s k first) hf h

theorem imageSweep_drive : (s.imageSweep n k first out).drive =
    ⟨some ⟨true, readyBank s n k, s.scan.facet, s.scan.live.margin, 0, false⟩, 0, 0, 0⟩ := by
  obtain ⟨-, -, hdrive, -⟩ := imageSweep_feeder hs k first out
  exact hdrive.trans (chosen_drive (lined s k first) n k)

theorem imageSweep_raises : (s.imageSweep n k first out).events =
    if readyBank s n k = none then (s.raise .lineLate).events else s.events := by
  obtain ⟨-, -, -, hevents⟩ := imageSweep_feeder hs k first out
  exact hevents.trans (chosen_events (lined s k first) n k)

end

/-! ## The begin of a sweep (R111, R112) -/

theorem beginSweep_lead (h : s.engine.sweep < (s.slot n).lead) (out : Bool) :
    s.beginSweep n out = (s.startSweep false none).indicateSweep := by
  unfold State.beginSweep
  simp only [h, if_true]

theorem beginSweep_image (h : (s.slot n).lead ≤ s.engine.sweep) (out : Bool) : s.beginSweep n out =
    (s.imageSweep n ((s.engine.sweep - (s.slot n).lead) / (s.slot n).rep)
      (decide ((s.engine.sweep - (s.slot n).lead) % (s.slot n).rep = 0)) out).indicateSweep := by
  unfold State.beginSweep
  simp only [Nat.not_lt.2 h, if_false]

/-- The indication of a sweep (R179). -/
theorem indicateSweep_eq (s : State) : s.indicateSweep = swept s s.now := rfl

end Sys2Proof.Safety
end

section
/-! The frame start at an accepted SOS, and when nothing starts (R100, R110, R111, R130). -/

namespace Sys2Proof.Safety

open Machine

variable {s t u w : State} {v : Tick} {n : Fin 8}

/-! ## When the engine is left alone (R110, R130) -/

/-- Outside LEADING, IMAGING and WAITING the engine takes no pulse (R130). -/
theorem takePulse_ignored (h : s.engine.state = .stopped ∨ s.engine.state = .closing) (out : Bool) :
    s.takePulse out = s := by
  unfold State.takePulse
  obtain h | h := h <;> rw [h]

/-- In WAITING a start condition that fails leaves the engine waiting (R110). -/
theorem takePulse_blocked (hw : s.engine.state = .waiting) (h : s.firstBlock ≠ .none) (out : Bool) :
    s.takePulse out = s := by
  unfold State.takePulse
  rw [hw]
  dsimp only
  split
  · rename_i hnone _
    exact absurd hnone h
  · rfl

/-- In WAITING the frame of the eligible head starts (R110, R111). -/
theorem takePulse_starts (hw : s.engine.state = .waiting) (h : s.firstBlock = .none) (hn : s.head = some n) (out : Bool) :
    s.takePulse out = s.startFrame n out := by
  unfold State.takePulse
  rw [hw]
  simp only [h, hn]

/-- A pulse that the engine leaves moves the scanner and the events alone. -/
theorem acceptSos_left (he : s.expo = false) (h : (handed s v).1.takePulse (handed s v).2 = (handed s v).1) :
    Keeps [.scan, .events] s (s.setNow v).acceptSos ∧ (ScanSound s → ScanEvents s (s.setNow v).acceptSos) := by
  rw [acceptSos_handed, h]
  exact ⟨(handed_outside he v).keeps, fun hs => handed_scanEvents he hs v⟩

theorem ScannerMoved.engine (h : ScannerMoved s w) : w.engine = s.engine := by
  obtain ⟨v, x, e, rfl⟩ := h
  rfl

/-- What R110 asks, of the state before the pulse and the scanner after it. -/
theorem ScannerMoved.firstBlock (h : ScannerMoved s w) : w.firstBlock = .none ↔ ∃ n, EligibleHead s n
    ∧ (∃ k, (s.bank k).tag = some (n, 0) ∧ (s.bank k).state = .full)
    ∧ s.tableState .modulator = .valid ∧ s.tableState .facet = .valid ∧ w.scan.state = .locked
    ∧ s.pins.interlock = false ∧ s.pins.gate = true := by
  obtain ⟨v, x, e, rfl⟩ := h
  exact firstBlock_none_iff

/-! ## The first sweep (R111, R112) -/

/-- The state at a frame start, before the first sweep begins (R111). -/
def frameStarted (s : State) (n : Fin 8) : State :=
  ((s.setSlot n { s.slot n with state := .exposing }).setEngine { s.engine with
    state := .leading, slot := some n, sweep := 0, line := none, spoiled := false }).indicateFrameStart

theorem startFrame_eq (s : State) (n : Fin 8) (out : Bool) : s.startFrame n out = (frameStarted s n).beginSweep n out := rfl

theorem frameStarted_slot (s : State) (n m : Fin 8) :
    (frameStarted s n).slot m = if m = n then { s.slot n with state := .exposing } else s.slot m :=
  State.slot_setSlot _ n m _

/-- What a frame start does with the slots and the events whatever its first sweep is (R111, R179). -/
structure Started (s t : State) (n : Fin 8) : Prop where
  slot : ∀ m, t.slot m = if m = n then { s.slot n with state := .exposing } else s.slot m
  queue : t.slots.queue = s.slots.queue
  users : ∀ y, t.users y = s.users y
  sc : t.sc = s.sc
  target : t.feeder.target = s.feeder.target
  fetch : t.feeder.fetch = s.feeder.fetch
  events : t.events = { s.events with sweepPulse := some ⟨s.now, 1000⟩, framePulse := some ⟨s.now, 1000⟩ }

/-- A frame that starts with a lead sweep (R111). -/
theorem startFrame_lead (h : 0 < (s.slot n).lead) : Started s (s.startFrame n false) n
    ∧ (s.startFrame n false).engine = { s.engine with
        state := .leading, slot := some n, sweep := 0, line := none, spoiled := false }
    ∧ (s.startFrame n false).feeder = s.feeder
    ∧ (s.startFrame n false).drive = ⟨some ⟨false, none, s.scan.facet, s.scan.live.margin, 0, false⟩, 0, 0, 0⟩ := by
  have hlead : (frameStarted s n).engine.sweep < ((frameStarted s n).slot n).lead := by
    rw [frameStarted_slot, if_pos rfl]
    exact h
  rw [startFrame_eq, beginSweep_lead hlead]
  exact ⟨⟨frameStarted_slot s n, rfl, fun y => State.users_setSlot _ _ _ y, rfl, rfl, rfl, rfl⟩, rfl, rfl, rfl⟩

/-- A frame that starts with the first image sweep of its line 0 (R111, R112). -/
theorem startFrame_image (h : (s.slot n).lead = 0) {b : Fin 2} (hb : readyBank s n 0 = some b) :
    Started s (s.startFrame n false) n
    ∧ (s.startFrame n false).engine = { s.engine with
        state := .imaging, slot := some n, sweep := 0, line := some 0, spoiled := false }
    ∧ (∀ j, (s.startFrame n false).bank j = if j = b then { s.bank j with state := .sending } else s.bank j)
    ∧ (s.startFrame n false).drive = ⟨some ⟨true, some b, s.scan.facet, s.scan.live.margin, 0, false⟩, 0, 0, 0⟩ := by
  have hslot := frameStarted_slot s n
  have hlead : ((frameStarted s n).slot n).lead = 0 := by
    rw [hslot, if_pos rfl]
    exact h
  have hbegin : s.startFrame n false = ((frameStarted s n).imageSweep n 0 true false).indicateSweep := by
    have hsweep : (frameStarted s n).engine.sweep = 0 := rfl
    rw [startFrame_eq, beginSweep_image (by rw [hlead]; exact Nat.zero_le _), hsweep, Nat.zero_sub, Nat.zero_div,
      Nat.zero_mod]
    rfl
  have hs : (frameStarted s n).engine.slot = some n := rfl
  have hready : readyBank (frameStarted s n) n 0 = some b := hb
  have hbank := imageSweep_bank hs 0 true false
  have hmarked := imageSweep_slot hs 0 true false
  have hengine := imageSweep_engine hs 0 true false
  have hdrive := imageSweep_drive hs 0 true false
  have hevents := imageSweep_raises hs 0 true false
  have htarget := imageSweep_target hs 0 true false
  obtain ⟨hqueue, husers⟩ := imageSweep_queue hs 0 true false
  obtain ⟨hfetch, hsc⟩ := imageSweep_fetch_kept hs 0 true false fun _ _ _ _ => Nat.zero_le _
  simp only [hready] at hbank hmarked hengine hdrive hevents
  have hnow : ((frameStarted s n).imageSweep n 0 true false).now = s.now := by simp [frameStarted]
  rw [hbegin]
  generalize (frameStarted s n).imageSweep n 0 true false = u at *
  refine ⟨⟨fun m => ?_, hqueue, fun y => ?_, hsc, ?_, hfetch, ?_⟩, hengine, fun j => ?_, hdrive⟩
  · refine (hmarked m).trans ?_
    by_cases hm : m = n
    · rw [if_pos hm, if_pos hm, hslot, if_pos rfl]; rfl
    · rw [if_neg hm, if_neg hm, hslot, if_neg hm]
  · exact (husers y).trans (State.users_setSlot _ _ _ y)
  · exact htarget.trans (Nat.max_zero _)
  · rw [indicateSweep_eq, swept, hnow]
    simp only [hevents]
    rfl
  · refine (hbank j).trans ?_
    rw [unbelow_kept fun _ _ => Nat.zero_le _]
    by_cases hj : j = b
    · rw [if_pos hj, if_pos (by rw [hj])]; rfl
    · rw [if_neg hj, if_neg fun h => hj (Option.some.inj h).symm]; rfl

/-! ## The start, seen from before the pulse -/

/-- The slots at a start, seen from a state with the same slots and coverage. -/
theorem Started.slots (h : Started w t n) (hslots : w.slots = s.slots) (hfill : t.fill = s.fill) :
    OtherSlotsKept n s t ∧ t.slot n = { s.slot n with state := .exposing } ∧ t.slots.queue = s.slots.queue
      ∧ ∀ y, t.users y = s.users y := by
  refine ⟨fun m hm => ⟨?_, cover_congr hfill m⟩, ?_, h.queue.trans (by rw [hslots]),
    fun y => (h.users y).trans (users_congr hslots y)⟩
  · rw [h.slot, if_neg hm, slot_congr hslots]
  · rw [h.slot, if_pos rfl, slot_congr hslots]

/-- The blocks an SOS that starts a frame changes (R111). -/
theorem acceptSos_keeps_store (hsc : (s.setNow v).acceptSos.sc = s.sc) (hfill : (s.setNow v).acceptSos.fill = s.fill) :
    Keeps [.slots, .scan, .engine, .feeder, .drive, .events] s (s.setNow v).acceptSos := by
  obtain ⟨hkeeps, -⟩ := acceptSos_keeps s v
  intro b hb
  by_cases hother : b = .sc ∨ b = .fill
  · obtain rfl | rfl := hother
    · exact hsc
    · exact hfill
  · refine hkeeps b fun hmem => ?_
    simp only [abortBlocks, List.mem_cons, List.not_mem_nil, or_false] at hb hmem
    tauto

theorem bank_congr (h : w.feeder = s.feeder) (j : Fin 2) : w.bank j = s.bank j := by
  unfold State.bank
  rw [h]

/-- A FULL bank of the line is ready (R119). -/
theorem readyBank_of_full {k : Nat} (h : ∃ j, (s.bank j).tag = some (n, k) ∧ (s.bank j).state = .full) :
    ∃ b, readyBank s n k = some b := by
  obtain ⟨j, htag, hfull⟩ := h
  refine Option.ne_none_iff_exists'.1 fun hnone => ?_
  exact readyBank_none_iff.1 hnone ⟨j, htag, .inl hfull⟩

theorem readyBank_congr (h : w.feeder = s.feeder) (n : Fin 8) (k : Nat) : readyBank w n k = readyBank s n k := by
  unfold readyBank State.bankTagged
  simp only [bank_congr h]

/-- In WAITING the accepted SOS starts the frame of the eligible head, where the conditions hold (R110, R111). -/
theorem acceptSos_starts (hw : s.engine.state = .waiting) (hhead : EligibleHead s n)
    (hfull : ∃ k, (s.bank k).tag = some (n, 0) ∧ (s.bank k).state = .full) (hmod : s.tableState .modulator = .valid)
    (hfac : s.tableState .facet = .valid) (hl : (s.setNow v).acceptSos.scan.state = .locked)
    (hi : s.pins.interlock = false) (hg : s.pins.gate = true) :
    (s.setNow v).acceptSos = (handed s v).1.startFrame n false := by
  have hidle : s.expo = false := by simp [State.expo, hw]
  have hmoved := handed_outside hidle v
  have hlocked : (handed s v).1.scan.state = .locked := by rw [handed_scan, hl]
  have hfirst : (handed s v).1.firstBlock = .none :=
    hmoved.firstBlock.2 ⟨n, hhead, hfull, hmod, hfac, hlocked, hi, hg⟩
  have hqueue : (handed s v).1.head = some n := by
    obtain ⟨u, x, e, hmoved⟩ := hmoved
    rw [hmoved]
    exact hhead.1
  rw [acceptSos_handed, handed_locked hlocked]
  exact takePulse_starts (by rw [hmoved.engine, hw]) hfirst hqueue false

/-- Settles O36: the pulse reaches the engine with the scanner and the events alone moved; the engine leaves it, or starts
the frame with a lead sweep or with the first image sweep of line 0. -/
theorem sosStartsAFrameOrLeavesTheEngine : Obligations.SosStartsAFrameOrLeavesTheEngine := by
  unfold Obligations.SosStartsAFrameOrLeavesTheEngine
  intro dt s t ha ht
  rw [exec_sos ha] at ht
  cases ht
  refine ⟨fun hst => ?_, fun hw hnot => ?_, fun n x hw hx hhead hfull hmod hfac hl hi hg => ?_⟩
  · have hidle : s.expo = false := by obtain h | h := hst <;> simp [State.expo, h]
    exact acceptSos_left hidle (takePulse_ignored (by rw [(handed_outside hidle _).engine]; exact hst) _)
  · have hidle : s.expo = false := by simp [State.expo, hw]
    have hmoved := handed_outside hidle (s.now + dt)
    refine acceptSos_left hidle (takePulse_blocked (by rw [hmoved.engine, hw]) (fun hfirst => ?_) _)
    obtain ⟨n, hstart⟩ := hmoved.firstBlock.1 hfirst
    rw [handed_scan] at hstart
    exact hnot n hstart
  · subst hx
    have hnow := (acceptSos_keeps s (s.now + dt)).2
    have hscan := handed_scan s (s.now + dt)
    have hwnow := handed_now s (s.now + dt)
    have hstart := acceptSos_starts hw hhead hfull hmod hfac hl hi hg
    obtain ⟨hjudged, -⟩ := handed_judged (s := s) (v := s.now + dt) (.inl (by rw [hscan, hl]))
    have hkeeps := acceptSos_keeps_store (s := s) (v := s.now + dt)
    have hevents := hjudged.events
    rw [hscan, hl] at hevents
    have hfill : (s.setNow (s.now + dt)).acceptSos.fill = s.fill := by rw [hstart]; simp [hjudged.fill]
    generalize (s.setNow (s.now + dt)).acceptSos = t at *
    generalize (handed s (s.now + dt)).1 = w at *
    have hslot : w.slot n = s.slot n := slot_congr hjudged.slots n
    have hevents_of (h : Started w t n) : t.events = { (scanFollowed s .locked).events with
        sweepPulse := some ⟨t.now, 1000⟩, framePulse := some ⟨t.now, 1000⟩ } := by
      rw [h.events, hevents, hwnow, hnow]
    have hexpo (e : t.engine.state = .leading ∨ t.engine.state = .imaging) : t.expo = true := by
      obtain e | e := e <;> simp [State.expo, e]
    obtain hlead | hlead := Nat.eq_zero_or_pos (s.slot n).lead
    · obtain ⟨b, hb⟩ := readyBank_of_full hfull
      obtain ⟨hstarted, hengine, hbank, hdrive⟩ := startFrame_image (s := w) (hslot ▸ hlead)
        ((readyBank_congr hjudged.feeder n 0).trans hb)
      rw [← hstart] at hstarted hengine hbank hdrive
      obtain ⟨hothers, hself, hqueue, husers⟩ := hstarted.slots hjudged.slots hfill
      obtain ⟨htag, hstate⟩ := readyBank_some hb
      refine ⟨hkeeps (hstarted.sc.trans hjudged.sc) hfill, hothers, hself, hqueue, husers, ?_,
        by rw [hstarted.target, hjudged.feeder], by rw [hstarted.fetch, hjudged.feeder],
        fun hpos => absurd hlead hpos.ne', fun _ => ⟨b, htag, hstate, ?_, fun j hj => ?_, ?_⟩,
        hexpo (.inr (by rw [hengine])), hevents_of hstarted⟩
      · rw [hengine, hjudged.engine, if_pos hlead, if_pos hlead]
      · rw [hbank, if_pos rfl, bank_congr hjudged.feeder]
      · rw [hbank, if_neg hj, bank_congr hjudged.feeder]
      · rw [hdrive, hjudged.live, hscan]
    · obtain ⟨hstarted, hengine, hfeeder, hdrive⟩ := startFrame_lead (s := w) (hslot ▸ hlead)
      rw [← hstart] at hstarted hengine hfeeder hdrive
      obtain ⟨hothers, hself, hqueue, husers⟩ := hstarted.slots hjudged.slots hfill
      refine ⟨hkeeps (hstarted.sc.trans hjudged.sc) hfill, hothers, hself, hqueue, husers, ?_,
        by rw [hstarted.target, hjudged.feeder], by rw [hstarted.fetch, hjudged.feeder],
        fun _ => ⟨hfeeder.trans hjudged.feeder, ?_⟩, fun hzero => absurd hzero hlead.ne',
        hexpo (.inl (by rw [hengine])), hevents_of hstarted⟩
      · rw [hengine, hjudged.engine, if_neg hlead.ne', if_neg hlead.ne']
      · rw [hdrive, hjudged.live, hscan]

end Sys2Proof.Safety
end

section
/-! The next sweep of a frame at an accepted SOS (R112, R119, R120, R122, R125). -/

namespace Sys2Proof.Safety

open Machine

variable {s t u w : State} {v : Tick} {n : Fin 8}

/-- A sweep that begins in `u`: what the engine, the slots and the events show of it (R112, R119, R125, R179). -/
structure SweepFrom (u t : State) (n : Fin 8) (l : List Source) : Prop where
  self : t.slot n = { u.slot n with spoiled := (t.slot n).spoiled }
  others : ∀ m, m ≠ n → t.slot m = u.slot m
  queue : t.slots.queue = u.slots.queue
  users : ∀ y, t.users y = u.users y
  engine : t.engine = { u.engine with
    state := t.engine.state, line := t.engine.line, spoiled := t.engine.spoiled }
  raised : Raised l (swept u u.now) t

theorem sweepFrom_lead (s : State) (n : Fin 8) : SweepFrom s (s.startSweep false none).indicateSweep n [] :=
  ⟨rfl, fun _ _ => rfl, rfl, fun _ => rfl, rfl, raised_nil rfl⟩

theorem sweepFrom_image (hs : s.engine.slot = some n) (k : Nat) (first out : Bool) :
    SweepFrom s (s.imageSweep n k first out).indicateSweep n (if readyBank s n k = none then [.lineLate] else []) := by
  have hslot := imageSweep_slot hs k first out
  have hengine := imageSweep_engine hs k first out
  have hevents := imageSweep_raises hs k first out
  obtain ⟨hqueue, husers⟩ := imageSweep_queue hs k first out
  have hnow : (s.imageSweep n k first out).now = s.now := by simp
  generalize s.imageSweep n k first out = u at *
  refine ⟨?_, fun m hm => (hslot m).trans (if_neg hm), hqueue, husers, ?_, ?_⟩
  · have hself := (hslot n).trans (if_pos rfl)
    show u.slot n = { s.slot n with spoiled := (u.slot n).spoiled }
    rw [hself]
  · show u.engine = { s.engine with state := u.engine.state, line := u.engine.line, spoiled := u.engine.spoiled }
    rw [hengine]
  · rw [indicateSweep_eq, hnow]
    split at hevents
    · rw [if_pos ‹_›]
      refine raised_congr (raised_cons (raised_nil rfl) .lineLate) ?_ hnow
      simp only [swept, hevents]
      rfl
    · rw [if_neg ‹_›]
      exact raised_nil (by simp only [swept, hevents])

/-! ## The sweep that ends (R112, R125, R180) -/

/-- A frame in progress after the sweep that ended at tick `v`, with the scanner in state `x` (R112, R125, R180). -/
structure Ended (s u : State) (x : ScanState) (v : Tick) : Prop where
  engine : u.engine = { s.engine with sweep := s.engine.sweep + 1 }
  feeder : u.feeder = s.feeder
  sc : u.sc = s.sc
  fill : u.fill = s.fill
  live : u.scan.live = s.scan.live
  now : u.now = v
  events : u.events = (reported (scanFollowed s x) v).events

theorem Judged.ended (h : Judged s w) (n : Fin 8) : Ended s (sweepEnded w n) w.scan.state w.now where
  engine := by simp [sweepEnded, h.engine]
  feeder := by simp [sweepEnded, h.feeder]
  sc := by simp [sweepEnded, h.sc]
  fill := by simp [sweepEnded, h.fill]
  live := by simp [sweepEnded, h.live]
  now := by simp [sweepEnded]
  events := by
    have hreport : (sweepEnded w n).events = (reported w w.now).events := by simp [sweepEnded, reportSweep_events]
    rw [hreport]
    exact (reported_events_congr h.events (by rw [h.drive, (scanFollowed_kept s _).1]) _).symm

/-- SCAN_UNLOCKED leaves the indication of a frame start (R102, R179). -/
theorem scanFollowed_framePulse (s : State) (x : ScanState) :
    (scanFollowed s x).events.framePulse = s.events.framePulse := by
  unfold scanFollowed
  split
  · rfl
  · rw [setScanState_events]

/-- The events of a sweep's begin, seen from before the pulse (R102, R119, R179, R180). -/
theorem SweepFrom.events {x : ScanState} {l : List Source} (h : SweepFrom u t n l) (he : Ended s u x v) :
    Raised l (swept (reported (scanFollowed s x) v) v) t ∧ t.events.sweepPulse = some ⟨v, 1000⟩
      ∧ t.events.framePulse = s.events.framePulse ∧ t.events.activity = activityAfter s v := by
  have hraised : Raised l (swept (reported (scanFollowed s x) v) v) t := by
    refine raised_from h.raised ?_
    simp only [swept, he.events, he.now]
  obtain ⟨hdrive, hactivity⟩ := scanFollowed_kept s x
  obtain ⟨-, -, hsweep, hframe, hact⟩ := id hraised
  exact ⟨hraised, hsweep, hframe.trans (scanFollowed_framePulse s x),
    hact.trans (activityAfter_congr (by rw [hdrive]) hactivity v)⟩

/-- The accepted SOS of a frame in progress ends a sweep and begins the next (R112). -/
theorem acceptSos_next (he : s.expo = true) (hs : s.engine.slot = some n)
    (hl : (s.setNow v).acceptSos.scan.state = .locked ∨ (s.setNow v).acceptSos.scan.state = .unsteady)
    (hk : s.engine.sweep + 1 ≠ (s.slot n).lead + (s.slot n).height * (s.slot n).rep) :
    (s.setNow v).acceptSos = (sweepEnded (handed s v).1 n).beginSweep n (handed s v).2 := by
  rw [← handed_scan] at hl
  obtain ⟨hjudged, -⟩ := handed_judged hl
  have hexpo : (handed s v).1.expo = true := by
    unfold State.expo
    rw [hjudged.engine]
    exact he
  rw [acceptSos_handed, takePulse_exposing hexpo (by rw [hjudged.engine, hs]), nextSweep_eq, hjudged.engine,
    slot_congr hjudged.slots]
  exact if_neg hk

/-- What a frame in progress keeps at a sweep's begin, but for the Store Controller (R112). -/
theorem acceptSos_keeps_fill (hfill : (s.setNow v).acceptSos.fill = s.fill) :
    Keeps [.sc, .slots, .scan, .engine, .feeder, .drive, .events] s (s.setNow v).acceptSos := by
  obtain ⟨hkeeps, -⟩ := acceptSos_keeps s v
  intro b hb
  by_cases hf : b = .fill
  · subst hf
    exact hfill
  · refine hkeeps b fun hmem => ?_
    simp only [abortBlocks, List.mem_cons, List.not_mem_nil, or_false] at hb hmem
    tauto

/-- A source that is not SCAN_UNLOCKED, at the sweep's begin (R102, R119). -/
theorem lineLate_of_raised {x : ScanState} {l : List Source} (h : Raised l (swept (reported (scanFollowed s x) v) v) t) :
    t.stuck .lineLate = true ↔ s.stuck .lineLate = true ∨ .lineLate ∈ l := by
  obtain ⟨hmem, hnot, -⟩ := h
  by_cases hl : Source.lineLate ∈ l
  · exact iff_of_true (hmem _ hl).1 (.inr hl)
  · have hfollowed := (eventsBut_scanFollowed s x .lineLate (by simp)).1
    have hkept : t.stuck .lineLate = s.stuck .lineLate := (hnot _ hl).1.trans hfollowed
    rw [hkept]
    simp [hl]

/-- An image sweep of line `k` begun in `t`, seen from before the pulse (R112, R119, R120, R122, R125). -/
structure ImageFrom (s t : State) (n : Fin 8) (k facet : Nat) (first out : Bool) : Prop where
  state : t.engine.state = .imaging
  line : t.engine.line = if first then some k else s.engine.line
  mark : t.engine.spoiled = ((readyBank s n k).isNone || out || if first then false else s.engine.spoiled)
  spoiled : (t.slot n).spoiled = (s.slot n).spoiled
    + if ((readyBank s n k).isNone || out) && (first || !s.engine.spoiled) then 1 else 0
  target : t.feeder.target = if first then max s.feeder.target k else s.feeder.target
  bank : ∀ j, t.bank j = if readyBank s n k = some j then { s.bank j with state := .sending } else unbelow k (s.bank j)
  kept : (∀ f ∈ s.feeder.fetch, ∀ y ∈ (s.bank f.bank).tag, k ≤ y.2) → t.feeder.fetch = s.feeder.fetch ∧ t.sc = s.sc
  dropped : ∀ f ∈ s.feeder.fetch, (∃ y ∈ (s.bank f.bank).tag, y.2 < k) → FetchAbandoned s t
  drive : t.drive = ⟨some ⟨true, readyBank s n k, facet, s.scan.live.margin, 0, false⟩, 0, 0, 0⟩

theorem Ended.image {x : ScanState} (he : Ended s u x v) (hs : s.engine.slot = some n)
    (hspoiled : (u.slot n).spoiled = (s.slot n).spoiled) (k : Nat) (first out : Bool) :
    ImageFrom s (u.imageSweep n k first out).indicateSweep n k u.scan.facet first out := by
  have hus : u.engine.slot = some n := by rw [he.engine, hs]
  have hready := readyBank_congr he.feeder n k
  have hbank := bank_congr he.feeder
  have hengine := imageSweep_engine hus k first out
  have hmarked : u.engine.spoiled = s.engine.spoiled := by rw [he.engine]
  have hline : u.engine.line = s.engine.line := by rw [he.engine]
  constructor
  case state => exact congrArg Engine.state hengine
  case line => exact (congrArg Engine.line hengine).trans (by rw [hline])
  case mark => exact (congrArg Engine.spoiled hengine).trans (by rw [hready, hmarked])
  case spoiled =>
    have hself := (imageSweep_slot hus k first out n).trans (if_pos rfl)
    exact (congrArg Slot.spoiled hself).trans (by rw [hready, hmarked, hspoiled])
  case target => exact (imageSweep_target hus k first out).trans (by rw [he.feeder])
  case bank => exact fun j => (imageSweep_bank hus k first out j).trans (by rw [hready, hbank])
  case kept =>
    intro hkept
    obtain ⟨hfetch, hsc⟩ := imageSweep_fetch_kept hus k first out (by simpa only [he.feeder, hbank] using hkept)
    exact ⟨hfetch.trans (by rw [he.feeder]), hsc.trans he.sc⟩
  case dropped =>
    intro f hf hbelow
    obtain ⟨hfetch, hsc⟩ := imageSweep_fetch_dropped hus k first out (f := f) (by rw [he.feeder]; exact hf)
      (by rw [hbank]; exact hbelow)
    exact ⟨hfetch, fetchDropped_of (hsc.trans (mapUnit_sc_congr he.sc _))⟩
  case drive => exact (imageSweep_drive hus k first out).trans (by rw [hready, he.live])

/-- Banks freed, sent and kept (R119). -/
theorem ImageFrom.bank_freed {k facet : Nat} {first out : Bool} (h : ImageFrom s t n k facet first out) {j : Fin 2}
    (hj : ∃ y ∈ (s.bank j).tag, y.2 < k) : t.bank j = { s.bank j with state := .free, tag := none } := by
  have hnot : readyBank s n k ≠ some j := fun hsome => by
    obtain ⟨y, hy, hlt⟩ := hj
    cases hy.symm.trans (readyBank_some hsome).1
    exact Nat.lt_irrefl _ hlt
  rw [h.bank, if_neg hnot, unbelow_below hj]

theorem ImageFrom.bank_kept {k facet : Nat} {first out : Bool} (h : ImageFrom s t n k facet first out) {j : Fin 2}
    (hnot : readyBank s n k ≠ some j) (hj : ∀ y ∈ (s.bank j).tag, k ≤ y.2) : t.bank j = s.bank j := by
  rw [h.bank, if_neg hnot, unbelow_kept hj]

/-- Settles O37: the sweep that ends is counted and reported, and the next begins as a lead sweep or as an image sweep,
each seen from before the pulse. -/
theorem sosBeginsTheNextSweep : Obligations.SosBeginsTheNextSweep := by
  unfold Obligations.SosBeginsTheNextSweep
  intro dt s t n x k l first ready ha ht he hs hx hl hk hlast hline hfirst hready
  rw [exec_sos ha] at ht
  cases ht
  subst hx
  have hnow := (acceptSos_keeps s (s.now + dt)).2
  have hnext := acceptSos_next he hs hl (hk ▸ hlast)
  have hscan := handed_scan s (s.now + dt)
  obtain ⟨hjudged, hout⟩ := handed_judged (s := s) (v := s.now + dt) (hscan ▸ hl)
  have hkeeps := acceptSos_keeps_fill (s := s) (v := s.now + dt)
  have hended := hjudged.ended n
  rw [handed_now, hscan] at hended
  obtain ⟨hslot, hqueue, husers⟩ := sweepEnded_slots hjudged n
  have hfacet : (sweepEnded (handed s (s.now + dt)).1 n).scan.facet = (s.setNow (s.now + dt)).acceptSos.scan.facet := by
    rw [← hscan]
    simp [sweepEnded]
  have hfill : (s.setNow (s.now + dt)).acceptSos.fill = s.fill := by
    rw [hnext]
    simp [hended.fill]
  rw [hnow]
  generalize (s.setNow (s.now + dt)).acceptSos = t at *
  generalize sweepEnded (handed s (s.now + dt)).1 n = u at *
  generalize (handed s (s.now + dt)).2 = out at *
  have huself := (hslot n).trans (if_pos rfl)
  have hus : u.engine.slot = some n := by rw [hended.engine, hs]
  have hulead : (u.slot n).lead = (s.slot n).lead := by rw [huself]
  have hurep : (u.slot n).rep = (s.slot n).rep := by rw [huself]
  have husweep : u.engine.sweep = k := by rw [hended.engine, hk]
  have hnone : readyBank s n l = none ↔ ready = false := by
    rw [readyBank_none_iff, ← hready, Bool.not_eq_true]
  have hlead (h : k < (s.slot n).lead) : t = (u.startSweep false none).indicateSweep :=
    hnext.trans (beginSweep_lead (by rw [husweep, hulead]; exact h) out)
  have himage (h : (s.slot n).lead ≤ k) : t = (u.imageSweep n l first out).indicateSweep := by
    rw [hnext, beginSweep_image (by rw [husweep, hulead]; exact h), husweep, hulead, hurep, ← hline, ← hfirst]
  have hfrom : SweepFrom u t n (if (s.slot n).lead ≤ k ∧ ready = false then [.lineLate] else []) := by
    by_cases hle : (s.slot n).lead ≤ k
    · have hsweep := sweepFrom_image hus l first out
      rw [← himage hle] at hsweep
      simpa only [readyBank_congr hended.feeder, hnone, hle, true_and] using hsweep
    · rw [if_neg fun h => hle h.1, hlead (Nat.lt_of_not_le hle)]
      exact sweepFrom_lead u n
  obtain ⟨hraised, hsweepPulse, hframePulse, hactivity⟩ := hfrom.events hended
  refine ⟨hkeeps hfill, fun m hm => ⟨?_, cover_congr hfill m⟩, hfrom.queue.trans hqueue,
    fun y => (hfrom.users y).trans (husers y), hsweepPulse, hframePulse, hactivity, hraised, ?_, ?_, ?_, ?_, ?_,
    fun hlt => ?_, fun hle => ?_⟩
  · rw [hfrom.others m hm, hslot, if_neg hm]
  · rw [hfrom.engine, husweep]
  · rw [hfrom.engine, hus]
  · rw [hfrom.engine, hended.engine]
  · rw [hk]
    exact hfrom.engine.trans (by rw [hended.engine])
  · exact hfrom.self.trans (by rw [huself])
  · obtain ⟨hstate, hcurrent, hmark⟩ : u.engine.state = s.engine.state ∧ u.engine.line = s.engine.line
        ∧ u.engine.spoiled = s.engine.spoiled := by
      rw [hended.engine]
      exact ⟨rfl, rfl, rfl⟩
    have hspoiled : (u.slot n).spoiled = (s.slot n).spoiled := by rw [huself]
    rw [← hfacet, ← hended.live, hlead hlt]
    exact ⟨hstate, hcurrent, hmark, hspoiled, hended.feeder, hended.sc, rfl⟩
  · have hseen := hended.image hs (by rw [huself]) l first out
    rw [← himage hle, hfacet] at hseen
    have hdrive := hseen.drive
    have hmark := hseen.mark
    have hspoiled := hseen.spoiled
    refine ⟨hseen.state, hseen.line, hseen.target, fun j => hseen.bank_freed, hseen.dropped, hseen.kept, ?_,
      fun hlate => ?_, fun hsent => ?_, fun hbad => ?_, fun hsent hin => ?_⟩
    · refine (lineLate_of_raised hraised).trans (or_congr_right ?_)
      by_cases hlate : ready = false <;> simp [hle, hlate]
    · have hbank := hnone.2 hlate
      rw [hbank] at hdrive
      exact ⟨hdrive, fun j => hseen.bank_kept (by simp [hbank])⟩
    · obtain ⟨j, hj⟩ := Option.ne_none_iff_exists'.1 (hnone.not.2 (by simp [hsent]))
      rw [hj] at hdrive
      refine ⟨j, (readyBank_some hj).1, (hseen.bank j).trans (if_pos hj), hdrive, fun i hi => hseen.bank_kept ?_⟩
      rw [hj]
      exact fun hij => hi (Option.some.inj hij).symm
    · have hdue : ((readyBank s n l).isNone || out) = true := by
        rw [Bool.or_eq_true, Option.isNone_iff_eq_none, hnone, hout]
        exact hbad
      rw [hdue] at hmark hspoiled
      refine ⟨hmark, hspoiled.trans ?_⟩
      simp
    · have hdue : ((readyBank s n l).isNone || out) = false := by
        rw [← Bool.not_eq_true, Bool.or_eq_true, Option.isNone_iff_eq_none, hnone, hout]
        simp [hsent, hin]
      rw [hdue] at hmark hspoiled
      exact ⟨hmark, hspoiled⟩

end Sys2Proof.Safety
end

section
/-! What a step does to the tick, the line banks and the drives: every command but power-on is taken at a tick the part
may reach, and leaves the banks sound and the drives blank where they were (R114, R115, R122). -/

namespace Sys2Proof.Safety

open Machine

variable {s t u : State} {n : Fin 8} {k : Nat}

/-! ## The banks, part by part (R114, R115) -/

/-- A wanted fetch segment that holds the store belongs to the fetch in flight (R117). -/
def SegmentOfFetch (s : State) : Prop :=
  ∀ g ∈ s.sc.grant, ∀ b p l a, g.unit = .feeder b p l a true → ∃ f ∈ s.feeder.fetch, f.bank = b ∧ f.pos = p

/-- `BanksSound` with its parts named, and the two banks alike. -/
structure BankFacts (s : State) : Prop where
  free : ∀ b, (s.bank b).state = .free ↔ (s.bank b).tag = none
  below : ∀ b, ∀ x ∈ (s.bank b).tag, x.2 < s.feeder.target
  apart : ∀ b c, b ≠ c → ∀ x ∈ (s.bank b).tag, (s.bank c).tag ≠ some x
  filling : ∀ b, (s.bank b).state = .filling ↔ ∃ f ∈ s.feeder.fetch, f.bank = b
  fetched : ∀ f ∈ s.feeder.fetch, (s.bank f.bank).tag = some (f.slot, f.line)
  segment : SegmentOfFetch s

theorem banksSound_iff : BanksSound s ↔ BankFacts s := by
  have hapart : (∀ x ∈ (s.bank 0).tag, (s.bank 1).tag ≠ some x)
      ↔ ∀ b c, b ≠ c → ∀ x ∈ (s.bank b).tag, (s.bank c).tag ≠ some x := by
    refine ⟨fun h b c hbc x hx hc => ?_, fun h => h 0 1 (by decide)⟩
    match b, c with
    | 0, 1 => exact h x hx hc
    | 1, 0 => exact h x hc hx
    | 0, 0 | 1, 1 => exact hbc rfl
  constructor
  · rintro ⟨hfree, hbelow, h, hfilling, hfetched, hsegment⟩
    exact ⟨hfree, hbelow, hapart.1 h, hfilling, hfetched, hsegment⟩
  · rintro ⟨hfree, hbelow, h, hfilling, hfetched, hsegment⟩
    exact ⟨hfree, hbelow, hapart.2 h, hfilling, hfetched, hsegment⟩

/-- The banks look at the feeder and at the segment that holds the store alone. -/
theorem BankFacts.congr (h : BankFacts s) (hf : t.feeder = s.feeder) (hg : SegmentOfFetch t) : BankFacts t := by
  obtain ⟨hfree, hbelow, hapart, hfilling, hfetched, -⟩ := h
  have hbank := bank_congr (s := s) hf
  constructor
  case segment => exact hg
  all_goals simpa only [hbank, hf]

theorem not_wanted {g : Grant} (h : FetchDisowned s) (hg : g ∈ s.sc.grant) {b : Fin 2} {p l a : Nat}
    (hu : g.unit = .feeder b p l a true) : False :=
  Bool.false_ne_true (h g hg b p l a true hu).symm

/-- A cleared feeder is sound (R106, R113, R120). -/
theorem bankFacts_of_cleared (h : FeederCleared s t) : BankFacts t := by
  obtain ⟨hbank, -, hfetch, hdisowned⟩ := h
  have hfree (b) : (t.bank b).state = .free := by rw [hbank]
  have htag (b) : (t.bank b).tag = none := by rw [hbank]
  constructor
  case free => exact fun b => iff_of_true (hfree b) (htag b)
  case below => intro b x hx; rw [htag] at hx; cases hx
  case apart => intro b c _ x hx; rw [htag] at hx; cases hx
  case filling => intro b; rw [hfree, hfetch]; exact iff_of_false nofun nofun
  case fetched => intro f hf; rw [hfetch] at hf; cases hf
  case segment => exact fun g hg b p l a hu => (not_wanted hdisowned hg hu).elim

/-! ## What a step carries on -/

/-- No time passes, sound banks stay sound, and drives that are blank where they must be stay so. -/
structure Carries (s t : State) : Prop where
  now : t.now = s.now
  banks : BankFacts s → BankFacts t
  blank : DrivesBlank s → DrivesBlank t

theorem Carries.refl (s : State) : Carries s s := ⟨rfl, id, id⟩

theorem Carries.trans (h : Carries s t) (h' : Carries t u) : Carries s u :=
  ⟨h'.now.trans h.now, h'.banks ∘ h.banks, h'.blank ∘ h.blank⟩

/-- Neither the engine, the feeder, the drives nor INTERLOCK has moved, and a wanted segment belongs to its fetch. -/
theorem Carries.of_kept (hn : t.now = s.now) (hf : t.feeder = s.feeder) (he : t.engine = s.engine)
    (hd : t.drive = s.drive) (hp : t.pins.interlock = s.pins.interlock) (hg : SegmentOfFetch s → SegmentOfFetch t) :
    Carries s t where
  now := hn
  banks h := h.congr hf (hg h.segment)
  blank := by unfold DrivesBlank; rw [he, hp, hd]; exact id

/-- The Store Controller's grant has not moved either. -/
theorem Carries.of_same (hn : t.now = s.now) (hf : t.feeder = s.feeder) (he : t.engine = s.engine)
    (hd : t.drive = s.drive) (hp : t.pins.interlock = s.pins.interlock) (hg : t.sc.grant = s.sc.grant) : Carries s t :=
  .of_kept hn hf he hd hp (by unfold SegmentOfFetch; rw [hg, hf]; exact id)

/-- Drives at 0 need no more. -/
theorem drivesBlank_of_zero (hr : t.drive.red = 0) (hg : t.drive.green = 0) (hb : t.drive.blue = 0) : DrivesBlank t :=
  fun _ => ⟨hr, hg, hb⟩

/-! ## The Store Controller -/

/-- A unit granted for the feeder is the next segment of the fetch (R117, R156). -/
theorem segmentOfFetch_granted {g : GrantUnit} (h : s.nextGrant = some g) : SegmentOfFetch (granted s g) := by
  rintro x hx b p l a hu
  cases hx
  dsimp only at hu
  subst hu
  obtain h | h | h | h := requested_of_nextGrant h
  · cases h
  · obtain ⟨f, hf, hunit⟩ := Option.map_eq_some_iff.1 h
    cases hunit
    exact ⟨f, hf, rfl, rfl⟩
  · unfold State.linkRequest at h
    split at h
    · split at h
      · split at h
        · unfold State.readSegment at h
          split at h <;> cases h
        · cases h
      · cases h
    · cases h
  · unfold State.reloadRequest at h
    split at h
    · obtain ⟨x, -, hunit⟩ := Option.map_eq_some_iff.1 h
      cases hunit
    · cases h

theorem carries_arbitrate (s : State) : Carries s s.arbitrate := by
  refine .of_kept (by simp) (by simp) (by simp) (by simp) (by simp) fun hs => ?_
  obtain h | ⟨-, -, g, hg, h⟩ := arbitrate_cases s
  · rwa [h]
  · rw [h]
    exact segmentOfFetch_granted hg

theorem Carries.arbitrate (h : Carries s t) : Carries s t.arbitrate := h.trans (carries_arbitrate t)

theorem segmentOfFetch_none (h : s.sc.grant = none) : SegmentOfFetch s := by
  rintro g hg
  rw [h] at hg
  cases hg

theorem carries_endUnit (s : State) : Carries s s.endUnit :=
  have hfree : Carries s (s.setSc { s.sc with grant := none }) :=
    .of_kept rfl rfl rfl rfl rfl fun _ => segmentOfFetch_none rfl
  hfree.arbitrate

theorem Carries.endUnit (h : Carries s t) : Carries s t.endUnit := h.trans (carries_endUnit t)

/-- A change of the unit in progress that makes no wanted fetch segment. -/
theorem carries_mapUnit (s : State) {f : GrantUnit → GrantUnit}
    (hf : ∀ g b p l a, f g = .feeder b p l a true → g = .feeder b p l a true) : Carries s (s.mapUnit f) := by
  refine .of_kept rfl rfl rfl rfl rfl fun hs g hg b p l a hu => ?_
  obtain ⟨x, hx, rfl⟩ := Option.map_eq_some_iff.1 hg
  exact hs x hx b p l a (hf _ _ _ _ _ hu)

theorem carries_dropBeat (s : State) : Carries s s.dropBeat := by
  have hqueue : Carries s (s.setQueue s.queue.tail) := .of_same rfl rfl rfl rfl rfl rfl
  refine hqueue.trans (carries_mapUnit _ fun g b p l a h => ?_)
  cases g <;> first | exact h | cases h

/-! ## A step at a tick the part may reach -/

/-- A step taken at a tick the part may reach (log 2). -/
def StepCarries (s t : State) : Prop := ∃ v, s.mayReach v = true ∧ Carries (s.setNow v) t

theorem stepCarries_after {dt : Nat} {body : State → Result} (h : s.after dt body = .next t)
    (hb : ∀ v, body v = .next t → Carries v t) : StepCarries s t := by
  obtain ⟨hreach, hbody⟩ := State.after_next h
  exact ⟨_, hreach, hb _ hbody⟩

theorem stepCarries_atEnd {x : Option Timer} {body : State → Result} (h : s.atEnd x body = .next t)
    (hb : ∀ v, body v = .next t → Carries v t) : StepCarries s t := by
  obtain ⟨y, -, hreach, hbody⟩ := State.atEnd_next h
  exact ⟨_, hreach, hb _ hbody⟩

theorem stepCarries_place {dt : Nat} {body : State → Beat → BeatKind → Option State} (h : s.place dt body = .next t)
    (hb : ∀ v b k, body v b k = some t → Carries v t) : StepCarries s t := by
  obtain ⟨hreach, b, -, -, -, -, -, -, ht⟩ := State.place_next h
  exact ⟨_, hreach, (carries_dropBeat _).trans (hb _ _ _ ht)⟩

theorem carries_storeBeat (s : State) (b : Beat) : Carries s (s.storeBeat b) := by
  apply Carries.of_same <;> simp

theorem carries_recordCommand (s : State) (x y : Byte) (o : CmdOutcome) : Carries s (s.recordCommand x y o) := by
  apply Carries.of_same <;> simp

theorem stepCarries_runCommand {dt : Nat} {c : Cmd} {effect : State → Word → State × CmdOutcome}
    (h : s.runCommand dt c effect = .next t) (he : ∀ v w, Carries v (effect v w).1) : StepCarries s t := by
  refine stepCarries_place h fun v b k hv => ?_
  split at hv
  · split at hv <;> cases hv
    exact ((carries_storeBeat v b).trans (he _ _)).trans (carries_recordCommand _ _ _ _)
  · cases hv

theorem carries_slotCommand {effect : State → Fin 8 → State × CmdOutcome} (h : ∀ v n, Carries v (effect v n).1)
    (s : State) (w : Word) : Carries s (slotCommand effect s w).1 := by
  unfold slotCommand
  split
  · exact .refl s
  · exact h s _

/-! ## Entry to STOPPED, aborts and a discarded prefetch (R106, R118, R126) -/

theorem carries_raise (s : State) (i : Source) : Carries s (s.raise i) := by apply Carries.of_same <;> simp

theorem carries_enterStopped (s : State) : Carries s s.enterStopped where
  now := by simp
  banks _ := bankFacts_of_cleared (enterStopped_feeder s)
  blank _ := by apply drivesBlank_of_zero <;> simp

theorem carries_faultSlot (s : State) (n : Fin 8) (c : FaultCause) : Carries s (s.faultSlot n c) := by
  apply Carries.of_same <;> simp

theorem carries_reportSweep (s : State) : Carries s s.reportSweep := by apply Carries.of_same <;> simp

theorem carries_abortFrame (s : State) (c : FaultCause) : Carries s (s.abortFrame c) := by
  unfold State.abortFrame
  split
  · refine Carries.trans ?_ (carries_enterStopped _)
    refine Carries.trans ?_ (carries_raise _ _)
    split
    · exact (carries_reportSweep s).trans (carries_faultSlot _ _ _)
    · exact carries_reportSweep s
  · exact .refl s

theorem carries_discardPrefetch (s : State) (n : Fin 8) : Carries s (s.discardPrefetch n) where
  now := by simp
  banks h := by
    obtain ⟨-, hd⟩ | ⟨-, hd⟩ := discardPrefetch_cases s n
    · rw [hd]
      exact bankFacts_of_cleared (clearFeeder_spec _)
    · rwa [hd]
  blank := by unfold DrivesBlank; simp

/-- Outside IMAGING the drives are 0 already, and the engine may wait (R106, R122). -/
theorem carries_enterWaiting (h : s.engine.state ≠ .imaging) : Carries s s.enterWaiting where
  now := rfl
  banks hs := hs.congr rfl hs.segment
  blank hs _ := hs (.inl h)

theorem carries_setHalt (s : State) (b : Bool) : Carries s (s.setHalt b) :=
  ⟨rfl, fun hs => hs.congr rfl hs.segment, id⟩

end Sys2Proof.Safety
end

section
/-! The exposure side of an accepted SOS: sweeps, frame starts and frame ends carry the banks and the drives on (R111 to
R113, R119, R120, R122). -/

namespace Sys2Proof.Safety

open Machine

variable {s t u : State} {n : Fin 8} {k : Nat}

/-! ## Sweeps (R112, R119, R120) -/

/-- A bank that may be sent is not being filled. -/
theorem not_filling_of_ready {j : Fin 2} (h : readyBank s n k = some j) : (s.bank j).state ≠ .filling := by
  obtain ⟨-, hfull | hsending⟩ := readyBank_some h
  · rw [hfull]; nofun
  · rw [hsending]; nofun

/-- A bank at an image sweep of line `k`: sent, freed, or kept (R119). -/
inductive BankAtSweep (k : Nat) (x y : Bank) : Prop
  | sent (hy : y = { x with state := .sending }) (htag : x.tag ≠ none) (hx : x.state ≠ .filling)
  | freed (hy : y = { x with state := .free, tag := none }) (hx : ∃ z ∈ x.tag, z.2 < k)
  | kept (hy : y = x) (hx : ∀ z ∈ x.tag, k ≤ z.2)

theorem imageSweep_bankAt (hs : s.engine.slot = some n) (k : Nat) (first out : Bool) (j : Fin 2) :
    BankAtSweep k (s.bank j) ((s.imageSweep n k first out).bank j) := by
  rw [imageSweep_bank hs]
  split
  · rename_i h
    exact .sent rfl (by rw [(readyBank_some h).1]; nofun) (not_filling_of_ready h)
  · by_cases h : ∃ z ∈ (s.bank j).tag, z.2 < k
    · exact .freed (unbelow_below h) h
    · push Not at h
      exact .kept (unbelow_kept h) h

theorem BankAtSweep.tag {x y : Bank} (h : BankAtSweep k x y) : y.tag = x.tag ∨ y.tag = none := by
  cases h with
  | sent hy => exact .inl (by rw [hy])
  | freed hy => exact .inr (by rw [hy])
  | kept hy => exact .inl (by rw [hy])

/-- A tag at a sweep was there before it. -/
theorem BankAtSweep.mem_tag {x y : Bank} (h : BankAtSweep k x y) {z : Fin 8 × Nat} (hz : z ∈ y.tag) : z ∈ x.tag := by
  obtain h | h := h.tag
  · rwa [h] at hz
  · rw [h] at hz; cases hz

/-- A sweep begins to fill no bank, and a bank that was filled goes on unless it is freed. -/
theorem BankAtSweep.filling_iff {x y : Bank} (h : BankAtSweep k x y) :
    y.state = .filling ↔ x.state = .filling ∧ ∀ z ∈ x.tag, k ≤ z.2 := by
  cases h with
  | sent hy _ hx => rw [hy]; exact iff_of_false nofun fun h => hx h.1
  | freed hy hx =>
    obtain ⟨z, hz, hlt⟩ := hx
    rw [hy]
    exact iff_of_false nofun fun h => Nat.not_lt.2 (h.2 z hz) hlt
  | kept hy hx => rw [hy]; exact (and_iff_left hx).symm

/-- An image sweep leaves the fetch, or abandons one into a bank it frees (R120). -/
theorem bankFacts_imageSweep (hs : s.engine.slot = some n) (k : Nat) (first out : Bool) (h : BankFacts s) :
    BankFacts (s.imageSweep n k first out) := by
  have hbank := imageSweep_bankAt hs k first out
  have htarget := imageSweep_target hs k first out
  have hkept := imageSweep_fetch_kept hs k first out
  have hdropped {f} := imageSweep_fetch_dropped hs k first out (f := f)
  generalize s.imageSweep n k first out = t at *
  have hle : s.feeder.target ≤ t.feeder.target := by rw [htarget]; split <;> omega
  have hfetch : (∀ b, (∃ f ∈ t.feeder.fetch, f.bank = b) ↔ (∃ f ∈ s.feeder.fetch, f.bank = b)
      ∧ ∀ z ∈ (s.bank b).tag, k ≤ z.2) ∧ (∀ f ∈ t.feeder.fetch, f ∈ s.feeder.fetch) ∧ SegmentOfFetch t := by
    by_cases hbelow : ∀ f ∈ s.feeder.fetch, ∀ y ∈ (s.bank f.bank).tag, k ≤ y.2
    · obtain ⟨hsame, hsc⟩ := hkept hbelow
      have hsegment := h.segment
      unfold SegmentOfFetch at hsegment ⊢
      rw [hsame, hsc]
      refine ⟨fun b => ⟨fun ⟨f, hf, hb⟩ => ⟨⟨f, hf, hb⟩, hb ▸ hbelow f hf⟩, And.left⟩, fun _ => id, hsegment⟩
    · push Not at hbelow
      obtain ⟨f, hf, hlow⟩ := hbelow
      obtain ⟨hnone, hsc⟩ := hdropped hf hlow
      rw [hnone]
      refine ⟨fun b => iff_of_false nofun ?_, nofun, fun g hg b p l a hu => (not_wanted (fetchDisowned_of hsc) hg hu).elim⟩
      rintro ⟨⟨f', hf', rfl⟩, hhigh⟩
      cases hf.symm.trans hf'
      obtain ⟨y, hy, hlt⟩ := hlow
      exact Nat.not_lt.2 (hhigh y hy) hlt
  obtain ⟨hfilling, hmem, hsegment⟩ := hfetch
  refine ⟨fun b => ?_, fun b x hx => ?_, fun b c hbc x hx hc => ?_, fun b => ?_, fun f hf => ?_, hsegment⟩
  · cases hbank b with
    | sent hy htag => rw [hy]; exact iff_of_false nofun htag
    | freed hy => rw [hy]; exact iff_of_true rfl rfl
    | kept hy => rw [hy]; exact h.free b
  · exact (h.below b x ((hbank b).mem_tag hx)).trans_le hle
  · exact h.apart b c hbc x ((hbank b).mem_tag hx) ((hbank c).mem_tag hc)
  · rw [(hbank b).filling_iff, h.filling, hfilling]
  · have hhigh := ((hfilling f.bank).1 ⟨f, hf, rfl⟩).2
    have hstate := (h.filling f.bank).2 ⟨f, hmem f hf, rfl⟩
    have hfetched := h.fetched f (hmem f hf)
    cases hbank f.bank with
    | sent _ _ hx => exact absurd hstate hx
    | freed _ hx =>
      obtain ⟨z, hz, hlt⟩ := hx
      exact absurd hlt (Nat.not_lt.2 (hhigh z hz))
    | kept hy => rw [hy, hfetched]

theorem carries_imageSweep (hs : s.engine.slot = some n) (k : Nat) (first out : Bool) :
    Carries s (s.imageSweep n k first out) where
  now := by simp
  banks := bankFacts_imageSweep hs k first out
  blank _ := by
    have hdrive := imageSweep_drive hs k first out
    apply drivesBlank_of_zero <;> rw [hdrive]

theorem carries_startSweep (s : State) (image : Bool) (bank : Option (Fin 2)) : Carries s (s.startSweep image bank) :=
  ⟨rfl, fun h => h.congr rfl h.segment, fun _ => drivesBlank_of_zero rfl rfl rfl⟩

theorem carries_indicateSweep (s : State) : Carries s s.indicateSweep := .of_same rfl rfl rfl rfl rfl rfl

theorem carries_beginSweep (hs : s.engine.slot = some n) (out : Bool) : Carries s (s.beginSweep n out) := by
  by_cases h : s.engine.sweep < (s.slot n).lead
  · rw [beginSweep_lead h]
    exact (carries_startSweep s _ _).trans (carries_indicateSweep _)
  · rw [beginSweep_image (Nat.not_lt.1 h)]
    exact (carries_imageSweep hs _ _ _).trans (carries_indicateSweep _)

/-! ## Frame start and frame end (R111, R113) -/

theorem carries_startFrame (hw : s.engine.state = .waiting) (n : Fin 8) (out : Bool) :
    Carries s (s.startFrame n out) := by
  have hstarted : Carries s (frameStarted s n) :=
    ⟨rfl, fun h => h.congr rfl h.segment, fun h _ => h (.inl (by rw [hw]; nofun))⟩
  rw [startFrame_eq]
  exact hstarted.trans (carries_beginSweep rfl out)

theorem carries_endFrame (s : State) (n : Fin 8) : Carries s (s.endFrame n) where
  now := by simp
  banks _ := bankFacts_of_cleared (endFrame_feeder s n).1
  blank _ := by apply drivesBlank_of_zero <;> simp [State.endFrame, State.blankDrive]

theorem carries_sweepEnded (s : State) (n : Fin 8) : Carries s (sweepEnded s n) where
  now := by simp [sweepEnded]
  banks h := h.congr (by simp [sweepEnded]) fun g hg b p l a hu => by
    simpa [sweepEnded] using h.segment g (by simpa [sweepEnded] using hg) b p l a hu
  blank := by unfold DrivesBlank; simp [sweepEnded]

theorem carries_nextSweep (hs : s.engine.slot = some n) (out : Bool) : Carries s (s.nextSweep n out) := by
  rw [nextSweep_eq]
  split
  · exact (carries_sweepEnded s n).trans (carries_endFrame _ n)
  · exact (carries_sweepEnded s n).trans (carries_beginSweep (s := sweepEnded s n) hs out)

theorem carries_takePulse (s : State) (out : Bool) : Carries s (s.takePulse out) := by
  unfold State.takePulse
  split
  · split
    · exact carries_startFrame ‹_› _ out
    · exact .refl s
  · split
    · exact carries_nextSweep ‹_› out
    · exact .refl s
  · split
    · exact carries_nextSweep ‹_› out
    · exact .refl s
  · exact .refl s

/-! ## The scanner (R90 to R101) -/

theorem carries_setScan (s : State) (x : ScanUnit) : Carries s (s.setScan x) := .of_same rfl rfl rfl rfl rfl rfl

theorem carries_setScanState (s : State) (x : ScanState) : Carries s (s.setScanState x) := by
  apply Carries.of_same <;> simp

theorem carries_seek (s : State) : Carries s s.seek := (carries_setScan s _).trans (carries_setScanState _ _)

theorem carries_slip (s : State) : Carries s s.slip :=
  (((carries_seek s).trans (carries_setScan _ _)).trans (carries_raise _ _)).trans (carries_abortFrame _ _)

theorem carries_applyJudgement (s : State) (j : Judgement) : Carries s (s.applyJudgement j) := by
  have hto := applyJudgement_to s j
  generalize s.applyJudgement j = a at hto ⊢
  cases hto with
  | stays x => exact carries_setScan s x
  | changes x _ y => exact (carries_setScan s x).trans (carries_setScanState _ y)
  | loses x => exact ((carries_setScan s x).trans (carries_setScanState _ _)).trans (carries_abortFrame _ _)

theorem carries_acceptSos (s : State) : Carries s s.acceptSos := by
  have hmeasured : Carries s s.measure := carries_setScan s _
  simp only [State.acceptSos, State.countFacet]
  split
  · split
    · exact (hmeasured.trans (carries_slip _)).trans (carries_takePulse _ _)
    · exact ((hmeasured.trans (carries_setScan _ _)).trans (carries_applyJudgement _ _)).trans (carries_takePulse _ _)
  · exact hmeasured.trans (carries_takePulse _ _)

theorem carries_takeHome (s : State) : Carries s s.takeHome := by
  have hprimed : Carries s s.primeFacets := (carries_setScan s _).trans (carries_setScanState _ _)
  unfold State.takeHome
  repeat' split
  all_goals first | exact .refl s | exact hprimed | exact carries_setScan s _ | exact carries_slip s

theorem carries_fallSilent (s : State) : Carries s s.fallSilent := by
  dsimp only [State.fallSilent]
  split
  · exact ((carries_setScan s _).trans (carries_seek _)).trans (carries_abortFrame _ _)
  · exact carries_setScan s _

end Sys2Proof.Safety
end

section
/-! Every command but power-on carries the banks and the drives on, at a tick the part may reach; and the two invariants
of the exposure engine that follow (R114, R115, R122). -/

namespace Sys2Proof.Safety

open Machine

variable {s t u : State} {n : Fin 8} {b : Fin 2}

/-! ## The fetch (R115, R117) -/

/-- The fetch begins in a FREE bank while no other is in flight (R115). -/
theorem fetchReady_bank (h : s.fetchReady = some (n, b)) : s.feeder.fetch = none ∧ (s.bank b).state = .free := by
  unfold State.fetchReady at h
  split at h
  · rename_i hfree
    split at h
    · rename_i hcond
      cases h
      have hfound := List.find?_some (p := fun b => (s.bank b).state == .free) hfree
      obtain ⟨-, -, hfetch, -⟩ := hcond
      exact ⟨hfetch, by simpa using hfound⟩
    · cases h
  · cases h

theorem beginFetch_bank (s : State) (n : Fin 8) (b c : Fin 2) : (s.beginFetch n b).bank c =
    if c = b then { s.bank b with state := .filling, tag := some (n, s.feeder.target) } else s.bank c :=
  State.bank_setBank s b c _

/-- The new tag is of the target line, which no tag has yet (R114, R115). -/
theorem bankFacts_beginFetch (hr : s.fetchReady = some (n, b)) (h : BankFacts s) : BankFacts (s.beginFetch n b) := by
  obtain ⟨hnone, hfree⟩ := fetchReady_bank hr
  have hbank := beginFetch_bank s n b
  have htarget : (s.beginFetch n b).feeder.target = s.feeder.target + 1 := rfl
  have hfetch : (s.beginFetch n b).feeder.fetch = some ⟨b, n, s.feeder.target, 0⟩ := rfl
  have hsc : (s.beginFetch n b).sc = s.sc := rfl
  generalize s.beginFetch n b = t at *
  have hself : t.bank b = { s.bank b with state := .filling, tag := some (n, s.feeder.target) } := by
    rw [hbank, if_pos rfl]
  have hother {c} (hc : c ≠ b) : t.bank c = s.bank c := by rw [hbank, if_neg hc]
  have hnew {c} (hc : (t.bank c).tag = some (n, s.feeder.target)) : c = b := by
    by_contra hcb
    rw [hother hcb] at hc
    exact Nat.lt_irrefl _ (h.below c _ hc)
  constructor
  case free =>
    intro c
    by_cases hc : c = b
    · rw [hc, hself]; exact iff_of_false nofun nofun
    · rw [hother hc]; exact h.free c
  case below =>
    intro c x hx
    rw [htarget]
    by_cases hc : c = b
    · rw [hc, hself] at hx
      cases hx
      exact Nat.lt_succ_self _
    · rw [hother hc] at hx
      exact (h.below c x hx).trans (Nat.lt_succ_self _)
  case apart =>
    intro c d hcd x hx hd
    by_cases hx' : x = (n, s.feeder.target)
    · subst hx'
      exact hcd ((hnew hx).trans (hnew hd).symm)
    · have hne {c} (hc : (t.bank c).tag = some x) : c ≠ b := by
        rintro rfl
        rw [hself] at hc
        exact hx' (Option.some.inj hc).symm
      rw [hother (hne hd)] at hd
      rw [hother (hne hx)] at hx
      exact h.apart c d hcd x hx hd
  case filling =>
    intro c
    rw [hfetch]
    by_cases hc : c = b
    · rw [hc, hself]; exact iff_of_true rfl ⟨_, rfl, rfl⟩
    · rw [hother hc, h.filling, hnone]
      refine iff_of_false nofun ?_
      rintro ⟨f, hf, rfl⟩
      cases hf
      exact hc rfl
  case fetched =>
    intro f hf
    rw [hfetch] at hf
    cases hf
    rw [hself]
  case segment =>
    intro g hg c p l a hu
    rw [hsc] at hg
    obtain ⟨f, hf, -⟩ := h.segment g hg c p l a hu
    rw [hnone] at hf
    cases hf

theorem carries_beginFetch (hr : s.fetchReady = some (n, b)) : Carries s (s.beginFetch n b) :=
  ⟨rfl, bankFacts_beginFetch hr, id⟩

/-- The tags, the bank states and the fetch have not moved: the words of a bank are free to change. -/
theorem BankFacts.of_shape (h : BankFacts s) (hstate : ∀ c, (t.bank c).state = (s.bank c).state)
    (htag : ∀ c, (t.bank c).tag = (s.bank c).tag) (htarget : t.feeder.target = s.feeder.target)
    (hfetch : t.feeder.fetch = s.feeder.fetch) (hg : SegmentOfFetch t) : BankFacts t where
  free c := by rw [hstate, htag]; exact h.free c
  below c x hx := by rw [htarget]; exact h.below c x (htag c ▸ hx)
  apart c d hcd x hx := by rw [htag]; exact h.apart c d hcd x (htag c ▸ hx)
  filling c := by rw [hstate, hfetch]; exact h.filling c
  fetched f hf := by rw [htag]; exact h.fetched f (hfetch ▸ hf)
  segment := hg

theorem fillBank_bank (s : State) (b c : Fin 2) (pos len addr : Nat) : ∃ words,
    (s.fillBank b pos len addr).bank c = { s.bank c with words := words } := by
  have hset (words : BankWords) := State.bank_setBank s b c { s.bank b with words := words }
  by_cases hc : c = b
  · exact ⟨_, (hset _).trans (by rw [if_pos hc, hc])⟩
  · exact ⟨(s.bank c).words, (hset _).trans (if_neg hc)⟩

theorem carries_fillBank (s : State) (b : Fin 2) (pos len addr : Nat) : Carries s (s.fillBank b pos len addr) where
  now := rfl
  banks h := by
    refine h.of_shape (fun c => ?_) (fun c => ?_) rfl rfl h.segment
    all_goals
      obtain ⟨words, hwords⟩ := fillBank_bank s b c pos len addr
      rw [hwords]
  blank := id

/-- The bank of a fetch that has ended is FULL (R117). -/
theorem BankFacts.filled {f : Fetch} (h : BankFacts s) (hf : s.feeder.fetch = some f)
    (hbank : ∀ c, t.bank c = if c = f.bank then { s.bank f.bank with state := .full } else s.bank c)
    (htarget : t.feeder.target = s.feeder.target) (hfetch : t.feeder.fetch = none) (hgrant : t.sc.grant = none) :
    BankFacts t := by
  have htag (c) : (t.bank c).tag = (s.bank c).tag := by
    rw [hbank]
    split
    · rw [‹c = f.bank›]
    · rfl
  refine ⟨fun c => ?_, fun c x hx => ?_, fun c d hcd x hx => ?_, fun c => ?_, by rw [hfetch]; nofun,
    segmentOfFetch_none hgrant⟩
  · rw [hbank]
    split
    · exact iff_of_false nofun (by rw [h.fetched f hf]; nofun)
    · exact h.free c
  · rw [htarget]
    exact h.below c x (htag c ▸ hx)
  · rw [htag]
    exact h.apart c d hcd x (htag c ▸ hx)
  · rw [hbank, hfetch]
    refine iff_of_false (fun hc => ?_) nofun
    split at hc
    · cases hc
    · obtain ⟨f', hf', hb⟩ := (h.filling c).1 hc
      cases hf.symm.trans hf'
      exact ‹¬ c = f.bank› hb.symm

/-- A fetch with words left goes on in its bank (R117). -/
theorem BankFacts.goes_on {f f' : Fetch} (h : BankFacts s) (hf : s.feeder.fetch = some f)
    (hbanks : t.feeder.banks = s.feeder.banks) (htarget : t.feeder.target = s.feeder.target)
    (hfetch : t.feeder.fetch = some f') (hb : f'.bank = f.bank) (hs : f'.slot = f.slot) (hl : f'.line = f.line)
    (hgrant : t.sc.grant = none) : BankFacts t := by
  have hbank (c) : t.bank c = s.bank c := by unfold State.bank; rw [hbanks]
  refine ⟨fun c => ?_, fun c => ?_, fun c d => ?_, fun c => ?_, ?_, segmentOfFetch_none hgrant⟩
  · rw [hbank]; exact h.free c
  · rw [hbank, htarget]; exact h.below c
  · rw [hbank, hbank]; exact h.apart c d
  · rw [hbank, h.filling, hf, hfetch]
    simp [hb]
  · rintro f'' hf''
    rw [hfetch] at hf''
    cases hf''
    rw [hbank, hb, hs, hl]
    exact h.fetched f hf

/-- After a segment the fetch goes on, or ends with the bank FULL; then the next decision is made (R117, R156). -/
theorem carries_advanceFetch {f : Fetch} (hf : s.feeder.fetch = some f) (len : Nat) :
    Carries s (s.advanceFetch f len).endUnit := by
  refine Carries.arbitrate ?_
  unfold State.advanceFetch
  split
  · exact ⟨rfl, fun h => h.filled hf (fun c => State.bank_setBank s f.bank c _) rfl rfl rfl, id⟩
  · exact ⟨rfl, fun h => h.goes_on hf rfl rfl rfl rfl rfl rfl rfl, id⟩

theorem stepCarries_feederSegmentDone {dt : Nat} (h : execFeederSegmentDone dt s = .next t) : StepCarries s t := by
  refine stepCarries_after h fun v hv => ?_
  split at hv
  · rename_i b pos len addr hold f hgrant hfetch
    split at hv <;> cases hv
    exact (carries_fillBank v b pos len addr).trans (carries_advanceFetch (s := v.fillBank b pos len addr) hfetch len)
  · cases hv
    exact carries_endUnit v
  · cases hv

/-! ## The drives (R122, R128) -/

theorem carries_arise (s : State) (ds : List Damage) : Carries s (s.arise ds) := by apply Carries.of_same <;> simp

theorem carries_checkReads (s : State) (reads : List (Mem × Nat)) : Carries s (s.checkReads reads) := by
  apply Carries.of_same <;> simp

theorem carries_markSpoiled (s : State) : Carries s s.markSpoiled where
  now := by simp
  banks h := h.congr (by simp) fun g hg c p l a hu => by
    simpa using h.segment g (by simpa using hg) c p l a hu
  blank := by unfold DrivesBlank; rw [markSpoiled_engine]; simp

/-- A pixel is sent in IMAGING with INTERLOCK closed only (R122, R128). -/
theorem imaging_of_pixel {px : Pixel} (h : s.pixel = some px) : s.engine.state = .imaging ∧ s.pins.interlock = false := by
  unfold State.pixel at h
  split at h
  · rename_i hstate _ _
    split at h
    · split at h
      · exact ⟨hstate, (‹_ ∧ _ ∧ _›).1⟩
      · cases h
    · cases h
  · cases h

/-- Drives may be given in IMAGING with INTERLOCK closed, and drive 0 at any time. -/
theorem carries_output {r g b : Half} (h : s.engine.state = .imaging ∧ s.pins.interlock = false ∨ r = 0 ∧ g = 0 ∧ b = 0) :
    Carries s (s.output r g b) := by
  refine ⟨rfl, fun hb => hb.congr rfl hb.segment, fun _ => ?_⟩
  obtain ⟨himaging, hclosed⟩ | ⟨hr, hg, hb⟩ := h
  · rintro (hnot | hopen)
    · exact absurd himaging hnot
    · exact absurd (hclosed.symm.trans hopen) Bool.false_ne_true
  · exact drivesBlank_of_zero hr hg hb

theorem carries_pixelClock (s : State) : Carries s s.pixelClock := by
  have hcount : Carries s s.countClock := ⟨rfl, fun h => h.congr rfl h.segment, id⟩
  unfold State.pixelClock
  split
  · rename_i px hpx
    obtain ⟨himaging, hclosed⟩ := imaging_of_pixel hpx
    have hchecked := hcount.trans (carries_checkReads s.countClock (s.countClock.pixelReads px))
    dsimp only [State.sendPixel]
    split
    · exact (hchecked.trans (carries_markSpoiled _)).trans (carries_output (.inr ⟨rfl, rfl, rfl⟩))
    · refine hchecked.trans (carries_output (.inl ?_))
      simpa [State.countClock] using And.intro himaging hclosed
  · exact hcount.trans (carries_output (.inr ⟨rfl, rfl, rfl⟩))

/-- INTERLOCK opens with the drives at 0 (R128). -/
theorem carries_interlockOpen (s : State) : Carries s (s.setInterlock true).zeroDrives where
  now := by simp [State.zeroDrives]
  banks h := h.congr (by simp [State.zeroDrives]) fun g hg c p l a hu => by
    simpa [State.zeroDrives] using h.segment g (by simpa [State.zeroDrives] using hg) c p l a hu
  blank _ := drivesBlank_of_zero rfl rfl rfl

/-- With INTERLOCK closed the engine's state alone decides (R122). -/
theorem carries_interlockClose (s : State) : Carries s (s.setInterlock false) where
  now := by simp
  banks h := h.congr (by simp) fun g hg c p l a hu => by
    simpa using h.segment g (by simpa using hg) c p l a hu
  blank h hblank := by
    have hpins : (s.setInterlock false).pins.interlock = false := by rw [setInterlock_eq]
    rw [hpins] at hblank
    simpa using h (.inl (by simpa using hblank))

theorem carries_gateFalls (s : State) : Carries s s.gateFalls := by
  unfold State.gateFalls
  split
  · exact carries_abortFrame s _
  · exact carries_abortFrame s _
  · rename_i hclosing
    split
    · exact carries_enterStopped s
    · exact carries_enterWaiting (by rw [hclosing]; nofun)
  · exact .refl s
  · exact .refl s

/-! ## The commands (R147) -/

theorem carries_withdrawSlot (s : State) (n : Fin 8) : Carries s (s.withdrawSlot n).1 := by
  have hleft (v : State) : Carries v ((v.leaveQueue n).vacate n) := by apply Carries.of_same <;> simp
  unfold State.withdrawSlot
  split
  · exact (carries_discardPrefetch s n).trans (hleft _)
  · exact (carries_discardPrefetch s n).trans (hleft _)
  · exact (carries_discardPrefetch s n).trans (hleft _)
  · exact carries_abortFrame s _
  · exact .refl s

theorem carries_runEngine (s : State) : Carries s s.runEngine := by
  unfold State.runEngine
  split
  · rename_i hstopped
    exact carries_enterWaiting (by rw [hstopped]; nofun)
  · exact carries_setHalt s false

theorem carries_haltEngine (s : State) : Carries s s.haltEngine := by
  unfold State.haltEngine
  split
  · exact carries_enterStopped s
  · exact carries_setHalt s true
  · exact carries_setHalt s true
  · exact carries_setHalt s true
  · exact .refl s

theorem carries_abortEngine (s : State) : Carries s s.abortEngine := by
  unfold State.abortEngine
  split
  · exact carries_abortFrame s _
  · exact carries_abortFrame s _
  · exact carries_enterStopped s
  · exact carries_enterStopped s
  · exact .refl s

theorem carries_describeSlot (s : State) (n : Fin 8) : Carries s (s.describeSlot n).1 := by
  obtain h | ⟨d, -, h⟩ := describeSlot_or s n
  · rw [h]; exact .refl s
  · rw [h]; apply Carries.of_same <;> simp [State.acceptSlot, State.joinQueue]

theorem carries_sealFrame (s : State) (n : Fin 8) : Carries s (s.sealFrame n).1 := by
  unfold State.sealFrame
  split <;> apply Carries.of_same <;> simp

theorem carries_releaseSlot (s : State) (n : Fin 8) : Carries s (s.releaseSlot n).1 := by
  unfold State.releaseSlot
  split <;> apply Carries.of_same <;> simp

theorem carries_reloadTable (s : State) (w : Word) : Carries s (s.reloadTable w).1 := by
  unfold State.reloadTable
  repeat' split
  all_goals apply Carries.of_same <;> simp [State.startReload]

theorem carries_scanApplied (s : State) : Carries s s.scanApplied.1 := by
  unfold State.scanApplied
  split <;> apply Carries.of_same <;> simp [State.applyScan, State.clearScanStats]

theorem carries_resample (s : State) : Carries s s.resample := by apply Carries.of_same <;> simp

theorem carries_stepMonitor (s : State) : Carries s s.stepMonitor := by
  unfold State.stepMonitor
  repeat' split
  all_goals exact .of_same rfl rfl rfl rfl rfl rfl

/-! ## Placements and reloads -/

theorem carries_pictureBeat (s : State) (n : Fin 8) (b : Beat) : Carries s (s.pictureBeat n b) := by
  dsimp only [State.pictureBeat]
  split
  · exact carries_raise s _
  · split
    · exact .of_same rfl rfl rfl rfl rfl rfl
    · rw [convertBeat_eq]
      apply Carries.of_same <;> simp

theorem carries_tableWord (s : State) (x : TableUnit) (o : Nat) (b : Beat) : Carries s (s.tableWord x o b) := by
  dsimp only [State.tableWord]
  repeat' split
  all_goals apply Carries.of_same <;> simp [State.disturb]

theorem carries_reloadWords (s : State) (x : TableUnit) (first len : Nat) : Carries s (s.reloadWords x first len) := by
  unfold State.reloadWords
  induction List.range len generalizing s with
  | nil => exact .refl s
  | cons j rest ih =>
    refine Carries.trans ?_ (ih _)
    dsimp only [State.reloadWord]
    split
    · apply Carries.of_same <;> simp
    · exact .refl s

theorem carries_advanceReload (s : State) (x : TableUnit) (len : Nat) : Carries s (s.advanceReload x len) := by
  dsimp only [State.advanceReload]
  split
  · apply Carries.of_same <;> simp [State.endReload]
  · exact .of_same rfl rfl rfl rfl rfl rfl

theorem stepCarries_reloadSegmentDone {dt : Nat} (h : execReloadSegmentDone dt s = .next t) : StepCarries s t := by
  refine stepCarries_after h fun v hv => ?_
  repeat' split at hv
  all_goals cases hv
  · exact ((carries_reloadWords _ _ _ _).trans (carries_advanceReload _ _ _)).endUnit
  · exact carries_endUnit v

/-! ## The link -/

theorem carries_setLink (s : State) (x : LinkPort) : Carries s (s.setLink x) := .of_same rfl rfl rfl rfl rfl rfl

theorem carries_admitNow (s : State) : Carries s s.admitNow := by
  unfold State.admitNow
  repeat' split
  all_goals exact .of_same rfl rfl rfl rfl rfl rfl

theorem carries_openTxn (s : State) (w : Word) : Carries s (s.openTxn w) := by
  have hheaded : Carries s (headed s w) := by
    unfold headed
    split <;> exact .of_same rfl rfl rfl rfl rfl rfl
  rw [openTxn_eq]
  exact hheaded.arbitrate.trans (carries_admitNow _)

theorem stepCarries_linkHeader {dt : Nat} {w w' : Word} (h : execLinkHeader dt w w' s = .next t) : StepCarries s t := by
  refine stepCarries_after h fun v hv => ?_
  dsimp only at hv
  have hheard : Carries v ((v.setPins { v.pins with lselLow := true }).setLink { v.link with ld := none }) :=
    .of_same rfl rfl rfl rfl rfl rfl
  repeat' split at hv
  all_goals cases hv
  · exact .refl _
  · exact hheard
  · exact hheard.trans (carries_openTxn _ _)

theorem stepCarries_writeBeat {dt : Nat} {w : Word} {en : Enables} (h : execWriteBeat dt w en s = .next t) :
    StepCarries s t := by
  refine stepCarries_after h fun v hv => ?_
  repeat' split at hv
  all_goals cases hv
  · exact .refl _
  · exact carries_setLink _ _
  · exact .arbitrate (.of_same rfl rfl rfl rfl rfl rfl)
  · apply Carries.of_same <;> simp [State.overrunBeat]

theorem stepCarries_readBeat {dt : Nat} (h : execReadBeat dt s = .next t) : StepCarries s t := by
  refine stepCarries_after h fun v hv => ?_
  dsimp only at hv
  repeat' split at hv
  all_goals cases hv
  all_goals exact .arbitrate (carries_setLink _ _)

theorem carries_fillBuffer (s : State) (l : List Nat) : Carries s (s.fillBuffer l) := by
  unfold State.fillBuffer
  split
  · exact carries_setLink s _
  · exact .refl s

theorem stepCarries_readSegmentDone {dt : Nat} (h : execReadSegmentDone dt s = .next t) : StepCarries s t := by
  refine stepCarries_after h fun v hv => ?_
  repeat' split at hv
  all_goals cases hv
  · exact (carries_fillBuffer _ _).endUnit
  · exact carries_endUnit v

/-! ## The resets (R132) -/

theorem fetchDisowned_disowned (h : s.sc.grant = (u.sc.grant.map fun g => { g with unit := g.unit.disown })) :
    FetchDisowned s := by
  intro g hg b pos len addr wanted hu
  rw [h] at hg
  obtain ⟨x, -, rfl⟩ := Option.map_eq_some_iff.1 hg
  have hdisowned := disowned_disown x.unit
  dsimp only at hu
  rwa [hu] at hdisowned

theorem bridgeBlocks_cleared (s : State) : FeederCleared s (bridgeBlocks s) := by
  refine ⟨fun b => ?_, rfl, rfl, fetchDisowned_disowned (u := s) rfl⟩
  have hmap : (bridgeBlocks s).bank b = (s.feeder.banks.map Bank.freed)[b] := rfl
  rw [hmap]
  exact Vector.getElem_map ..

theorem carries_bridgeReset (s : State) : Carries s s.bridgeReset := by
  rw [bridgeReset_eq]
  have hblocks : Carries s (bridgeBlocks s) :=
    ⟨rfl, fun _ => bankFacts_of_cleared (bridgeBlocks_cleared s), fun _ => drivesBlank_of_zero rfl rfl rfl⟩
  exact hblocks.trans (carries_resample _)

end Sys2Proof.Safety
end

section
/-! Every command but power-on is taken at a tick the part may reach and carries the banks and the drives on; the two
invariants of the exposure engine (R114, R115, R122). -/

namespace Sys2Proof.Safety

open Machine

variable {s t : State}

/-- Every command but power-on. -/
theorem exec_carries (i : Instr) (hi : ∀ dt straps gate interlock lselLow, i ≠ .powerOn dt straps gate interlock lselLow)
    (h : exec i s = .next t) : StepCarries s t := by
  unfold exec at h
  cases i with
  | powerOn dt straps gate interlock lselLow => exact absurd rfl (hi dt straps gate interlock lselLow)
  | rstAssert => exact stepCarries_after h fun v hv => by cases hv; exact carries_bridgeReset v
  | rstRelease =>
    refine stepCarries_after h fun v hv => ?_
    dsimp only at hv
    split at hv <;> cases hv
    exact .arbitrate (.of_same rfl rfl rfl rfl rfl rfl)
  | linkHeader => exact stepCarries_linkHeader h
  | readAdmit | writeAdmit =>
    refine stepCarries_after h fun v hv => ?_
    repeat' split at hv
    all_goals cases hv
    exact carries_setLink _ _
  | writeBeat => exact stepCarries_writeBeat h
  | readBeat => exact stepCarries_readBeat h
  | lselRise =>
    refine stepCarries_after h fun v hv => ?_
    cases hv
    refine Carries.trans ?_ (carries_mapUnit _ fun g b p l a hg => ?_)
    · exact .of_same rfl rfl rfl rfl rfl rfl
    · cases g <;> first | exact hg | cases hg
  | storeInitEnd | refreshDue =>
    refine stepCarries_atEnd h fun v hv => ?_
    cases hv
    exact .arbitrate (.of_same rfl rfl rfl rfl rfl rfl)
  | refreshDone =>
    refine stepCarries_after h fun v hv => ?_
    split at hv <;> cases hv
    exact .endUnit (.of_same rfl rfl rfl rfl rfl rfl)
  | readSegmentDone => exact stepCarries_readSegmentDone h
  | placementUnitEnd =>
    refine stepCarries_after h fun v hv => ?_
    repeat' split at hv
    all_goals cases hv
    exact carries_endUnit _
  | feederSegmentDone => exact stepCarries_feederSegmentDone h
  | reloadSegmentDone => exact stepCarries_reloadSegmentDone h
  | noEnableBeat | statusPageWrite =>
    refine stepCarries_place h fun v b k hv => ?_
    split at hv <;> cases hv
    exact .refl _
  | storePlainWord =>
    refine stepCarries_place h fun v b k hv => ?_
    split at hv <;> cases hv
    exact carries_storeBeat v b
  | placePictureWord dt arisen =>
    refine stepCarries_place h fun v b k hv => ?_
    split at hv <;> cases hv
    exact (carries_arise v arisen).trans (carries_pictureBeat _ _ b)
  | tableWordWrite =>
    refine stepCarries_place h fun v b k hv => ?_
    split at hv <;> cases hv
    exact (carries_storeBeat v b).trans (carries_tableWord _ _ _ b)
  | stagingWrite | auxFunctionWrite =>
    refine stepCarries_place h fun v b k hv => ?_
    split at hv <;> cases hv
    all_goals exact (carries_storeBeat v b).trans (.of_same rfl rfl rfl rfl rfl rfl)
  | eventSettingsWrite =>
    refine stepCarries_place h fun v b k hv => ?_
    split at hv <;> cases hv
    refine (carries_storeBeat v b).trans (Carries.trans ?_ (carries_resample _))
    exact .of_same rfl rfl rfl rfl rfl rfl
  | malformedCommand | unknownCommand =>
    refine stepCarries_place h fun v b k hv => ?_
    split at hv <;> cases hv
    exact (carries_storeBeat v b).trans (carries_recordCommand _ _ _ _)
  | describe => exact stepCarries_runCommand h (carries_slotCommand carries_describeSlot)
  | sealSlot => exact stepCarries_runCommand h (carries_slotCommand carries_sealFrame)
  | withdraw => exact stepCarries_runCommand h (carries_slotCommand carries_withdrawSlot)
  | release => exact stepCarries_runCommand h (carries_slotCommand carries_releaseSlot)
  | reload => exact stepCarries_runCommand h carries_reloadTable
  | run => exact stepCarries_runCommand h fun v _ => carries_runEngine v
  | halt => exact stepCarries_runCommand h fun v _ => carries_haltEngine v
  | abort => exact stepCarries_runCommand h fun v _ => carries_abortEngine v
  | scanApply => exact stepCarries_runCommand h fun v _ => carries_scanApplied v
  | clearScanStats => exact stepCarries_runCommand h fun v _ => carries_setScan v _
  | clearEvents =>
    refine stepCarries_runCommand h fun v w => Carries.trans ?_ (carries_resample _)
    exact .of_same rfl rfl rfl rfl rfl rfl
  | monitorStep => exact stepCarries_runCommand h fun v _ => carries_stepMonitor v
  | monitorStop => exact stepCarries_runCommand h fun v _ => .of_same rfl rfl rfl rfl rfl rfl
  | sos =>
    refine stepCarries_after h fun v hv => ?_
    cases hv
    repeat' split
    · exact .refl v
    · exact carries_setScan v _
    · exact carries_acceptSos v
  | home =>
    refine stepCarries_after h fun v hv => ?_
    cases hv
    split
    · exact .refl v
    · exact carries_takeHome v
  | silenceExpiry => exact stepCarries_atEnd h fun v hv => by cases hv; exact carries_fallSilent v
  | fetchBegin =>
    refine stepCarries_after h fun v hv => ?_
    split at hv <;> cases hv
    exact (carries_beginFetch ‹_›).arbitrate
  | pixelDrive dt arisen =>
    refine stepCarries_after h fun v hv => ?_
    cases hv
    exact (carries_arise v arisen).trans (carries_pixelClock _)
  | gateFall =>
    refine stepCarries_after h fun v hv => ?_
    cases hv
    have hgate : Carries v (v.setGate false) := .of_same rfl rfl rfl rfl rfl rfl
    exact hgate.trans (carries_gateFalls _)
  | gateRise => exact stepCarries_after h fun v hv => by cases hv; exact .of_same rfl rfl rfl rfl rfl rfl
  | interlockOpen =>
    refine stepCarries_after h fun v hv => ?_
    cases hv
    exact (carries_interlockOpen v).trans (carries_abortFrame _ _)
  | interlockClose => exact stepCarries_after h fun v hv => by cases hv; exact carries_interlockClose v
  | gateReleaseExpiry =>
    refine stepCarries_atEnd h fun v hv => ?_
    cases hv
    exact (carries_raise v _).trans (carries_enterStopped _)
  | donePulseEnd =>
    refine stepCarries_atEnd h fun v hv => ?_
    cases hv
    exact ⟨rfl, fun hb => hb.congr rfl hb.segment, id⟩
  | pulseStretchEnd | sweepPulseEnd | frameStartPulseEnd | activityExpiry | activityBlinkToggle =>
    exact stepCarries_atEnd h fun v hv => by cases hv; exact .of_same rfl rfl rfl rfl rfl rfl

/-! ## The two invariants -/

/-- The blocks of the exposure side right after power-on (R132). -/
theorem powerOn_exposure {dt : Nat} {straps : Straps} {gate interlock lselLow : Bool}
    (h : exec (.powerOn dt straps gate interlock lselLow) s = .next t) :
    t.feeder = State.reset.feeder ∧ t.drive = State.reset.drive ∧ t.sc.grant = none := by
  cases h
  refine ⟨?_, ?_, ?_⟩ <;> simp only [State.resample_frame] <;> rfl

/-- A step leaves the banks and the drives as it found them, carries them on, or is a power-on. -/
theorem step_banks_and_drives (h : step s = .next t) :
    (BankFacts s → BankFacts t) ∧ (DrivesBlank s → DrivesBlank t) := by
  unfold step at h
  split at h
  · cases h
    exact ⟨id, id⟩
  · rename_i i rest _
    by_cases hi : ∀ dt straps gate interlock lselLow, i ≠ .powerOn dt straps gate interlock lselLow
    · obtain ⟨v, -, hcarries⟩ := exec_carries i hi h
      exact ⟨fun hb => hcarries.banks (hb.congr rfl hb.segment), hcarries.blank⟩
    · push Not at hi
      obtain ⟨dt, straps, gate, interlock, lselLow, rfl⟩ := hi
      obtain ⟨hfeeder, hdrive, hgrant⟩ := powerOn_exposure h
      refine ⟨fun _ => (banksSound_iff.1 banksSound_reset).congr hfeeder (segmentOfFetch_none hgrant), fun _ => ?_⟩
      apply drivesBlank_of_zero <;> rw [hdrive] <;> rfl

/-- Settles O56: the new tag of a fetch is of the target line, and every other move of the banks frees one, sends one
that is not being filled, or leaves its tag. -/
theorem banksStaySound : Obligations.BanksStaySound := by
  unfold Obligations.BanksStaySound
  exact fun s t hs h => banksSound_iff.2 ((step_banks_and_drives h).1 (banksSound_iff.1 hs))

/-- Settles O57: drives are given by a pixel clock in IMAGING with INTERLOCK closed, and blanked by whatever leaves
IMAGING or opens INTERLOCK. -/
theorem drivesStayBlank : Obligations.DrivesStayBlank := by
  unfold Obligations.DrivesStayBlank
  exact fun s t hs h => (step_banks_and_drives h).2 hs

end Sys2Proof.Safety
end

section
/-! The begin of a fetch, and the tick gate: when a fetch is due, and the ticks a step may be taken at (R29, R115 to R118,
logs 1, 2). -/

namespace Sys2Proof.Safety

open Machine

variable {s t : State} {n : Fin 8} {b : Fin 2}

/-! ## The conditions of a fetch (R115, R116, R118) -/

/-- The lower-numbered FREE bank (R115). -/
theorem freeBank_iff : s.freeBank = some b ↔ (s.bank b).state = .free ∧ ∀ c, c < b → (s.bank c).state ≠ .free := by
  have hfirst : s.freeBank = if (s.bank 0).state = .free then some 0
      else if (s.bank 1).state = .free then some 1 else none := by
    unfold State.freeBank
    by_cases h0 : (s.bank 0).state = .free
    · simp [h0]
    · by_cases h1 : (s.bank 1).state = .free
      · simp [List.find?, beq_false_of_ne h0, h0, h1]
      · simp [List.find?, beq_false_of_ne h0, beq_false_of_ne h1, h0, h1]
  rw [hfirst]
  match b with
  | 0 => by_cases h0 : (s.bank 0).state = .free <;> simp [h0]
  | 1 => by_cases h0 : (s.bank 0).state = .free <;> simp [h0]

/-- The slot of the feeder, by the state of the engine, with the lines within its reach (R115, R118). -/
theorem feederSlot_iff : s.feederSlot = some n ∧ s.feeder.target ≤ s.horizon ↔
    s.engine.state = .waiting ∧ EligibleHead s n ∧ (s.bank 0).state = .free ∧ (s.bank 1).state = .free
        ∧ s.feeder.target = 0
      ∨ s.engine.state = .leading ∧ s.engine.slot = some n ∧ s.feeder.target = 0
      ∨ s.engine.state = .imaging ∧ s.engine.slot = some n ∧ s.feeder.target ≤ s.engine.line.elim 0 (· + 1) := by
  rw [eligibleHead_iff]
  unfold State.feederSlot State.horizon
  cases s.engine.state with
  | stopped | closing => simp
  | waiting =>
    by_cases hfree : (s.bank 0).state = .free ∧ (s.bank 1).state = .free
    · simp [hfree]
    · simp only [if_neg hfree]
      simp only [reduceCtorEq, false_and, or_false, true_and, false_iff]
      exact fun h => hfree ⟨h.2.1, h.2.2.1⟩
  | leading => simp
  | imaging =>
    simp only [reduceCtorEq, false_and, false_or, true_and]
    cases s.engine.line <;> rfl

theorem gateOpen_iff (l : Nat) :
    s.gateOpen n l = true ↔ (s.slot n).sealed = true ∨ (l + 1) * (s.slot n).width ≤ (s.cover n).cursor := by
  simp [State.gateOpen]

/-- A fetch may begin exactly under the conditions of R115, R116 and R118. -/
theorem fetchReady_iff : s.fetchReady = some (n, b) ↔ FetchConditions s n b := by
  unfold FetchConditions
  rw [← feederSlot_iff, ← gateOpen_iff]
  have hbank := freeBank_iff (s := s) (b := b)
  unfold State.fetchReady
  split
  · rename_i m c hslot hfree
    rw [hslot]
    rw [hfree] at hbank
    split
    · rename_i hcond
      obtain ⟨hheight, hhorizon, hnone, hgate⟩ := hcond
      constructor
      · intro h
        cases h
        obtain ⟨hstate, hlower⟩ := hbank.1 rfl
        exact ⟨⟨rfl, hhorizon⟩, hheight, hnone, hstate, hlower, hgate⟩
      · rintro ⟨⟨hm, -⟩, -, -, hstate, hlower, -⟩
        cases hm
        cases hbank.2 ⟨hstate, hlower⟩
        rfl
    · rename_i hcond
      refine iff_of_false nofun ?_
      rintro ⟨⟨hm, hhorizon⟩, hheight, hnone, -, -, hgate⟩
      cases hm
      exact hcond ⟨hheight, hhorizon, hnone, hgate⟩
  · rename_i hnot
    refine iff_of_false nofun ?_
    rintro ⟨⟨hslot, -⟩, -, -, hstate, hlower, -⟩
    exact hnot n b hslot (hbank.2 ⟨hstate, hlower⟩)

theorem fetchReady_none_iff : s.fetchReady = none ↔ ∀ n b, ¬ FetchConditions s n b := by
  simp only [← fetchReady_iff, Option.eq_none_iff_forall_ne_some, Prod.forall, ne_eq]

theorem fetchReady_setNow (s : State) (v : Tick) : (s.setNow v).fetchReady = s.fetchReady := rfl

/-! ## FETCH_BEGIN (R115, R117, R121) -/

/-- The row in a state whose conditions hold. -/
theorem exec_fetchBegin {dt : Nat} (h : s.mayReach (s.now + dt) = true) (hc : FetchConditions s n b) :
    exec (.fetchBegin dt) s = .next ((s.setNow (s.now + dt)).beginFetch n b).arbitrate := by
  show execFetchBegin dt s = _
  rw [execFetchBegin, State.after_of_mayReach s dt _ h]
  simp only [fetchReady_setNow, fetchReady_iff.2 hc]

theorem exec_fetchBegin_refused {dt : Nat} (h : s.mayReach (s.now + dt) = true) (hc : ∀ n b, ¬ FetchConditions s n b) :
    exec (.fetchBegin dt) s = .refused .feederNotReady := by
  show execFetchBegin dt s = _
  rw [execFetchBegin, State.after_of_mayReach s dt _ h]
  simp only [fetchReady_setNow, fetchReady_none_iff.2 hc]

/-- The begin of a fetch changes the slots and the feeder alone (R115, R121). -/
theorem beginFetch_keeps (s : State) (v : Tick) (n : Fin 8) (b : Fin 2) :
    Keeps [.slots, .feeder] s ((s.setNow v).beginFetch n b) := by
  intro k hk
  cases k <;> first | exact absurd hk (by decide) | exact fun _ => rfl | rfl

theorem arbitrate_keeps (s : State) : Keeps [.sc, .link] s s.arbitrate := by
  refine keeps_of ?_ ?_ ?_ ?_ ?_ ?_ ?_ ?_ ?_ ?_ ?_ ?_ ?_ ?_ ?_ ?_
  case refine_6 => exact .inr fun cell => by simp
  all_goals simp

/-- Settles O40: the model's condition is that of the rules, and the begin changes the bank, the fetch line and the
fetch before the decision the free store then makes. -/
theorem fetchBeginsWhenItsConditionsHold : Obligations.FetchBeginsWhenItsConditionsHold := by
  unfold Obligations.FetchBeginsWhenItsConditionsHold
  refine fun dt s hm => ⟨fun n b hc => ⟨_, exec_fetchBegin hm hc, ?_⟩, exec_fetchBegin_refused hm⟩
  generalize hu : (s.setNow (s.now + dt)).beginFetch n b = u
  have hkeeps : Keeps [.sc, .link, .slots, .feeder] s u.arbitrate :=
    .trans ((hu ▸ beginFetch_keeps s _ n b).mono (by decide)) ((arbitrate_keeps u).mono (by decide))
  have hslot (m) : u.slot m = if m = n then { s.slot n with fetchLine := s.feeder.target } else s.slot m := by
    subst hu
    exact State.slot_setSlot s n m _
  have hbank (c) : u.bank c = if c = b then { s.bank b with state := .filling, tag := some (n, s.feeder.target) }
      else s.bank c := by
    subst hu
    exact beginFetch_bank s n b c
  have hblocks : u = { s with now := s.now + dt, slots := u.slots, feeder := u.feeder } := by subst hu; rfl
  obtain ⟨hqueue, husers⟩ : u.slots.queue = s.slots.queue ∧ ∀ y, u.users y = s.users y := by
    subst hu
    exact ⟨rfl, fun y => State.users_setSlot s n _ y⟩
  obtain ⟨htarget, hfetch⟩ : u.feeder.target = s.feeder.target + 1
      ∧ u.feeder.fetch = some ⟨b, n, s.feeder.target, 0⟩ := by subst hu; exact ⟨rfl, rfl⟩
  obtain ⟨hnow, hcover⟩ : u.now = s.now + dt ∧ u.fill = s.fill := by subst hu; exact ⟨rfl, rfl⟩
  have hgrants : OnlyGrants u u.arbitrate := onlyGrants_arbitrate u
  have hsc : u.sc = s.sc := by subst hu; rfl
  rw [OnlyGrants, hsc] at hgrants
  refine ⟨by simp [hnow], hkeeps, fun m hm' => ⟨?_, ?_⟩, ?_, ?_, fun y => ?_, ?_, fun c hc' => ?_, ?_, ?_, hgrants, ?_⟩
  · simp [hslot, hm']
  · rw [cover_congr (s := u) (by simp), cover_congr hcover]
  · simp [hslot]
  · simp [hqueue]
  · simp [husers]
  · simp [hbank]
  · simp [hbank, hc']
  · simp [htarget]
  · simp [hfetch]
  · simp only [State.arbitrate_frame]
    rw [← hblocks]

end Sys2Proof.Safety
end

section
/-! The tick gate and the ends of the pulses, the stretches and the activity envelope (R129, R172, R179, R180, logs 1, 2). -/

namespace Sys2Proof.Safety

open Machine

variable {s t : State} {x : Timer} {v : Tick}

/-! ## The tick gate (logs 1, 2) -/

/-- The timers of the part, one by one. -/
theorem mem_timers_iff : some x ∈ s.timers ↔
    s.sc.init = some x ∨ s.sc.refresh = some x ∨ (∃ g ∈ s.sc.grant, g.hold = x)
      ∨ (∃ t0 ∈ s.scan.lastSos, x = ⟨t0, 4 * s.scan.live.period⟩) ∨ s.engine.gateTimer = some x
      ∨ s.engine.doneTimer = some x ∨ s.events.sweepPulse = some x ∨ s.events.framePulse = some x
      ∨ (∃ a ∈ s.events.activity, a.hold = x ∨ a.blink = x) ∨ ∃ i : Fin 16, s.events.stretch[i] = some x := by
  have hstretch : some x ∈ s.events.stretch.toList ↔ ∃ i : Fin 16, s.events.stretch[i] = some x := by
    rw [Vector.mem_toList_iff, Vector.mem_iff_getElem]
    exact ⟨fun ⟨i, hi, h⟩ => ⟨⟨i, hi⟩, h⟩, fun ⟨i, h⟩ => ⟨i.val, i.isLt, h⟩⟩
  have hactivity : (∃ a ∈ s.events.activity, a.hold = x ∨ a.blink = x)
      ↔ some x = s.events.activity.map Activity.hold ∨ some x = s.events.activity.map Activity.blink := by
    cases s.events.activity <;> simp [eq_comm]
  have hgrant : (∃ g ∈ s.sc.grant, g.hold = x) ↔ some x = s.sc.grant.map Grant.hold := by
    cases s.sc.grant <;> simp [eq_comm]
  have hsilence : (∃ t0 ∈ s.scan.lastSos, x = ⟨t0, 4 * s.scan.live.period⟩) ↔ some x = s.silenceTimer := by
    unfold State.silenceTimer
    cases s.scan.lastSos <;> simp
  unfold State.timers
  simp only [List.mem_append, List.mem_cons, List.not_mem_nil, or_false, hstretch, hactivity, hgrant, hsilence,
    @eq_comm _ _ (some x), or_assoc]

/-- An answer that is due: LRDY is low while its condition holds (R29). -/
theorem admitDue_false_iff : s.admitDue = false ↔ ∀ y ∈ s.link.txn, y.lrdy = false →
    ¬ (y.write = true ∧ (y.outOfRange = true ∨ s.queue.length ≤ 192)
      ∨ y.write = false ∧ s.queue = [] ∧ y.wants = false ∧ s.sc.init = none) := by
  unfold State.admitDue
  cases s.link.txn with
  | none => simp
  | some y =>
    have hready : s.admitReady y = true ↔ y.write = true ∧ (y.outOfRange = true ∨ s.queue.length ≤ 192)
        ∨ y.write = false ∧ s.queue = [] ∧ y.wants = false ∧ s.sc.init = none := by
      cases hw : y.write
      · simp [admitReady_read hw]
      · simp [admitReady_write hw]
    simp only [Option.any_some, Option.mem_def, Option.some.injEq, forall_eq', ← hready]
    cases y.lrdy <;> simp

theorem stepDue_false_iff : s.stepDue = false ↔ (∀ n b, ¬ FetchConditions s n b) ∧ ∀ y ∈ s.link.txn, y.lrdy = false →
    ¬ (y.write = true ∧ (y.outOfRange = true ∨ s.queue.length ≤ 192)
      ∨ y.write = false ∧ s.queue = [] ∧ y.wants = false ∧ s.sc.init = none) := by
  unfold State.stepDue
  rw [Bool.or_eq_false_iff, Option.isSome_eq_false_iff, Option.isNone_iff_eq_none, admitDue_false_iff,
    fetchReady_none_iff, and_comm]

/-- The tick of a step is one the part may reach. -/
theorem mayReach_of_next {c : Instr} (hc : ∀ dt straps gate interlock lselLow, c ≠ .powerOn dt straps gate interlock lselLow)
    (h : exec c s = .next t) : s.mayReach t.now = true := by
  obtain ⟨v, hreach, hcarries⟩ := exec_carries c hc h
  rw [hcarries.now]
  exact hreach

/-! ## The ends of the timers -/

/-- The expiry of a running timer runs its row at the timer's end. -/
theorem atEnd_of {y : Option Timer} (hy : y = some x) (h : s.mayReach x.ends = true) (body : State → Result) :
    s.atEnd y body = body (s.setNow x.ends) := by
  rw [hy]
  exact s.atEnd_of_mayReach x body h

/-- Settles O43: the gate is `State.mayReach_iff` with the timers and the due steps written out, every command carries
its tick on, and each expiry is its row at the end of its timer. -/
theorem timersEndOnTheirTick : Obligations.TimersEndOnTheirTick := by
  unfold Obligations.TimersEndOnTheirTick
  refine ⟨fun s v => ?_, fun c s t => mayReach_of_next, fun _ => rfl, fun s x h => ⟨fun hx => ?_, fun i hx => ?_,
    fun hx => ?_, fun hx => ?_, fun a ha hx => ?_, fun a ha hx => ?_⟩⟩
  · rw [State.mayReach_iff, stepDue_false_iff]
    simp only [mem_timers_iff]
    rfl
  · show execDonePulseEnd s = _
    rw [execDonePulseEnd, atEnd_of hx h]
    rfl
  · show execPulseStretchEnd i s = _
    rw [execPulseStretchEnd, atEnd_of hx h]
    rfl
  · show execSweepPulseEnd s = _
    rw [execSweepPulseEnd, atEnd_of hx h]
    rfl
  · show execFrameStartPulseEnd s = _
    rw [execFrameStartPulseEnd, atEnd_of hx h]
    rfl
  · show execActivityExpiry s = _
    rw [execActivityExpiry, atEnd_of (by rw [ha, Option.map_some, hx]) h]
    rfl
  · show execActivityBlinkToggle s = _
    rw [execActivityBlinkToggle, atEnd_of (by rw [ha, Option.map_some, hx]) h]
    simp only [State.setNow_events, ha]
    rfl

end Sys2Proof.Safety
end

section
/-! GATE and INTERLOCK outside a frame, and the gate-release timer (R127 to R130). -/

namespace Sys2Proof.Safety

open Machine

variable {s t a : State}

/-- In CLOSING the exposure's slot has its lines unlocked already, so the entry to STOPPED leaves the slots (R113). -/
theorem unlockOnStop_closing (h : s.engine.state = .closing) : s.unlockOnStop = s := by
  unfold State.unlockOnStop
  rw [h]

/-- What the end of CLOSING in STOPPED changes (R106, R113). -/
theorem enterStopped_keeps (h : s.engine.state = .closing) : Keeps [.sc, .engine, .feeder, .drive] s s.enterStopped := by
  refine keeps_of ?_ ?_ ?_ ?_ ?_ ?_ ?_ ?_ ?_ ?_ ?_ ?_ ?_ ?_ ?_ ?_
  case refine_6 => exact .inr fun cell => by simp
  case refine_8 => exact .inr (by rw [enterStopped_slots, unlockOnStop_closing h])
  all_goals simp

/-- The end of CLOSING in STOPPED, from a state `a` with the engine, the feeder and the Store Controller of `s`. -/
theorem enterStopped_of_same (he : a.engine = s.engine) (hf : a.feeder = s.feeder) (hsc : a.sc = s.sc) :
    FeederCleared s a.enterStopped ∧ FetchDropped s a.enterStopped ∧ a.enterStopped.drive = ⟨none, 0, 0, 0⟩
      ∧ a.enterStopped.engine
        = { s.engine with state := .stopped, haltPending := false, slot := none, gateTimer := none } := by
  have hcleared := enterStopped_feeder a
  refine ⟨feederCleared_congr hcleared (by rw [hf]) rfl hcleared.2.2.2, fetchDropped_of ?_, enterStopped_drive a, ?_⟩
  · rw [enterStopped_sc, mapUnit_sc_congr hsc]
  · rw [enterStopped_engine, he]

/-- The fall of GATE by the state it finds, outside a frame (R129). -/
theorem exec_gateFall {dt : Nat} (h : s.mayReach (s.now + dt) = true) :
    exec (.gateFall dt) s = .next ((s.setNow (s.now + dt)).setGate false).gateFalls :=
  s.after_of_mayReach dt (fun s => .next (s.setGate false).gateFalls) h

theorem gateFalls_idle (h : s.engine.state = .stopped ∨ s.engine.state = .waiting) : s.gateFalls = s := by
  unfold State.gateFalls
  obtain h | h := h <;> rw [h]

theorem gateFalls_closing (h : s.engine.state = .closing) :
    s.gateFalls = if s.engine.haltPending then s.enterStopped else s.enterWaiting := by
  unfold State.gateFalls
  rw [h]

/-- GATE falls in CLOSING with HALT-pending (R106, R129). -/
theorem gateFall_stops {dt : Nat} (hm : s.mayReach (s.now + dt) = true) (hc : s.engine.state = .closing)
    (hp : s.engine.haltPending = true) : ∃ t, exec (.gateFall dt) s = .next t ∧ t.now = s.now + dt
      ∧ Keeps [.pins, .sc, .engine, .feeder, .drive] s t ∧ t.pins = { s.pins with gate := false } ∧ FeederCleared s t
      ∧ FetchDropped s t ∧ t.drive = ⟨none, 0, 0, 0⟩
      ∧ t.engine = { s.engine with state := .stopped, haltPending := false, slot := none, gateTimer := none } := by
  have hrun := exec_gateFall hm
  have hclosing : ((s.setNow (s.now + dt)).setGate false).engine.state = .closing := hc
  have hpending : ((s.setNow (s.now + dt)).setGate false).engine.haltPending = true := hp
  have hkeeps : Keeps [.pins] s ((s.setNow (s.now + dt)).setGate false) := by
    intro k hk
    cases k <;> first | exact absurd hk (by decide) | exact fun _ => rfl | rfl
  obtain ⟨hcleared, hdropped, hdrive, hengine⟩ :=
    enterStopped_of_same (s := s) (a := (s.setNow (s.now + dt)).setGate false) rfl rfl rfl
  rw [gateFalls_closing hclosing, if_pos hpending] at hrun
  refine ⟨_, hrun, ?_, (hkeeps.mono (by decide)).trans ((enterStopped_keeps hclosing).mono (by decide)), ?_, hcleared,
    hdropped, hdrive, hengine⟩
  · simp only [State.enterStopped_frame]
    rfl
  · simp only [State.enterStopped_frame]
    rfl

/-- INTERLOCK opens outside an exposure: the drives are 0 from now on (R128). -/
theorem interlockOpen_idle {dt : Nat} (hm : s.mayReach (s.now + dt) = true) (he : s.expo = false) :
    ∃ t, exec (.interlockOpen dt) s = .next t ∧ t.now = s.now + dt ∧ Keeps [.pins, .drive, .events] s t
      ∧ t.pins = { s.pins with interlock := true } ∧ t.drive = { s.drive with red := 0, green := 0, blue := 0 }
      ∧ t.events = (s.setInterlock true).events := by
  have hrun : exec (.interlockOpen dt) s
      = .next (((s.setNow (s.now + dt)).setInterlock true).zeroDrives.abortFrame .interlock) :=
    s.after_of_mayReach dt (fun s => .next ((s.setInterlock true).zeroDrives.abortFrame .interlock)) hm
  have hexpo : ((s.setNow (s.now + dt)).setInterlock true).zeroDrives.expo = false := by
    simpa [State.zeroDrives] using he
  rw [abortFrame_idle hexpo] at hrun
  refine ⟨_, hrun, ?_, ?_, ?_, ?_, setInterlock_events_congr (s := s) (a := s.setNow (s.now + dt)) rfl rfl rfl true⟩
  · simp [State.zeroDrives]
  · refine keeps_of ?_ ?_ ?_ ?_ ?_ ?_ ?_ ?_ ?_ ?_ ?_ ?_ ?_ ?_ ?_ ?_
    case refine_6 => exact .inr fun cell => by simp [State.zeroDrives]
    all_goals simp [State.zeroDrives]
  · rw [setInterlock_eq]; rfl
  · simp [State.zeroDrives]

/-- INTERLOCK closes: INTERLOCK_OPEN falls with the input (R128, R173). -/
theorem interlockClose_spec {dt : Nat} (hm : s.mayReach (s.now + dt) = true) :
    ∃ t, exec (.interlockClose dt) s = .next t ∧ t.now = s.now + dt ∧ Keeps [.pins, .events] s t
      ∧ t.pins = { s.pins with interlock := false } ∧ t.raw .interlockOpen = false
      ∧ t.events = (s.setInterlock false).events := by
  have hrun : exec (.interlockClose dt) s = .next ((s.setNow (s.now + dt)).setInterlock false) :=
    s.after_of_mayReach dt (fun s => .next (s.setInterlock false)) hm
  have hpins : ((s.setNow (s.now + dt)).setInterlock false).pins = { s.pins with interlock := false } := by
    rw [setInterlock_eq]; rfl
  refine ⟨_, hrun, ?_, ?_, hpins, ?_,
    setInterlock_events_congr (s := s) (a := s.setNow (s.now + dt)) rfl rfl rfl false⟩
  · simp
  · refine keeps_of ?_ ?_ ?_ ?_ ?_ ?_ ?_ ?_ ?_ ?_ ?_ ?_ ?_ ?_ ?_ ?_
    case refine_6 => exact .inr fun cell => by simp
    all_goals simp
  · show ((s.setNow (s.now + dt)).setInterlock false).pins.interlock = false
    rw [hpins]

/-- The gate-release timer ends in CLOSING (R130). -/
theorem gateReleaseExpiry_stops {x : Timer} (hx : s.engine.gateTimer = some x) (hc : s.engine.state = .closing)
    (hm : s.mayReach x.ends = true) : ∃ t, exec .gateReleaseExpiry s = .next t ∧ t.now = x.ends
      ∧ Keeps [.sc, .engine, .feeder, .drive, .events] s t ∧ Raised [.gateStuck] s t ∧ FeederCleared s t
      ∧ FetchDropped s t ∧ t.drive = ⟨none, 0, 0, 0⟩
      ∧ t.engine = { s.engine with state := .stopped, haltPending := false, slot := none, gateTimer := none } := by
  have hrun : exec .gateReleaseExpiry s = .next ((s.setNow x.ends).raise .gateStuck).enterStopped := by
    show execGateReleaseExpiry s = _
    rw [execGateReleaseExpiry, atEnd_of hx hm]
  have hraised : Raised [.gateStuck] s ((s.setNow x.ends).raise .gateStuck) := raised_cons (raised_nil rfl) _
  have hkeeps : Keeps [.events] s ((s.setNow x.ends).raise .gateStuck) := by
    refine keeps_of ?_ ?_ ?_ ?_ ?_ ?_ ?_ ?_ ?_ ?_ ?_ ?_ ?_ ?_ ?_ ?_
    case refine_6 => exact .inr fun cell => by simp
    all_goals simp
  have hclosing : ((s.setNow x.ends).raise .gateStuck).engine.state = .closing := by simpa using hc
  obtain ⟨hcleared, hdropped, hdrive, hengine⟩ :=
    enterStopped_of_same (s := s) (a := (s.setNow x.ends).raise .gateStuck) (by simp) (by simp) (by simp)
  exact ⟨_, hrun, by simp, (hkeeps.mono (by decide)).trans ((enterStopped_keeps hclosing).mono (by decide)),
    raised_congr hraised (by simp) (by simp), hcleared, hdropped, hdrive, hengine⟩

/-- Settles O42: GATE acts in CLOSING alone, an opening finds no exposure to abort, and both ends in STOPPED go through
`State.enterStopped` in CLOSING. -/
theorem gateAndInterlockOutsideAFrame : Obligations.GateAndInterlockOutsideAFrame := by
  unfold Obligations.GateAndInterlockOutsideAFrame
  refine fun dt s => ⟨fun hm => ⟨s.after_of_mayReach dt (fun s => .next (s.setGate true)) hm, fun hidle => ?_,
    fun hc hp => ?_, gateFall_stops hm, interlockOpen_idle hm, interlockClose_spec hm⟩,
    fun x => gateReleaseExpiry_stops⟩
  · rw [exec_gateFall hm, gateFalls_idle (s := (s.setNow (s.now + dt)).setGate false) hidle]
    rfl
  · have hclosing : ((s.setNow (s.now + dt)).setGate false).engine.state = .closing := hc
    have hnot : ((s.setNow (s.now + dt)).setGate false).engine.haltPending = false := hp
    rw [exec_gateFall hm, gateFalls_closing hclosing, if_neg (by rw [hnot]; decide)]
    rw [State.enterWaiting, hnot.symm]
    rfl

end Sys2Proof.Safety
end

section
/-! FEEDER_SEGMENT_DONE: the words a segment brings into its bank, and the end of the fetch (R117, R120, R157, R162). -/

namespace Sys2Proof.Safety

open Machine

variable {s t : State} {b c : Fin 2} {pos len addr : Nat} {f : Fetch}

/-! ## A run of words (R117) -/

/-- `len` words written from position `pos` on. -/
def writeRun (ws : BankWords) (pos len : Nat) (word : Nat → Word) : BankWords :=
  (List.range len).foldl (fun ws j => zeroSet ws (pos + j) (word j)) ws

theorem writeRun_succ (ws : BankWords) (pos len : Nat) (word : Nat → Word) :
    writeRun ws pos (len + 1) word = zeroSet (writeRun ws pos len word) (pos + len) (word len) := by
  simp [writeRun, List.range_succ]

theorem writeRun_wf {ws : BankWords} (h : zeroWf ws = true) (pos len : Nat) (word : Nat → Word) :
    zeroWf (writeRun ws pos len word) = true := by
  induction len with
  | zero => exact h
  | succ len ih =>
    rw [writeRun_succ]
    exact zeroSet_wf _ _ _ ih

theorem zeroGet_writeRun_out {ws : BankWords} (h : zeroWf ws = true) (word : Nat → Word) {p : Nat}
    (hp : p < pos ∨ pos + len ≤ p) : zeroGet (writeRun ws pos len word) p = zeroGet ws p := by
  induction len with
  | zero => rfl
  | succ len ih =>
    rw [writeRun_succ, zeroGet_zeroSet _ _ _ _ (writeRun_wf h pos len word), if_neg (by omega), ih (by omega)]

theorem zeroGet_writeRun_in {ws : BankWords} (h : zeroWf ws = true) (word : Nat → Word) {j : Nat} (hj : j < len) :
    zeroGet (writeRun ws pos len word) (pos + j) = word j := by
  induction len with
  | zero => cases hj
  | succ len ih =>
    rw [writeRun_succ, zeroGet_zeroSet _ _ _ _ (writeRun_wf h pos len word)]
    by_cases hlast : j = len
    · rw [if_pos (by rw [hlast]), hlast]
    · rw [if_neg (by omega), ih (by omega)]

/-! ## The bank and its monitored words (R117, R162) -/

theorem fillBank_bank_eq (s : State) (b c : Fin 2) (pos len addr : Nat) :
    (s.fillBank b pos len addr).bank c =
      if c = b then { s.bank b with words := writeRun (s.bank b).words pos len fun j => s.loadWord (addr + j) }
      else s.bank c :=
  State.bank_setBank s b c _

/-- The words written carry fresh check bits; every other entry keeps its harm (R162). -/
theorem fillBank_harmAt (s : State) (b : Fin 2) (pos len addr : Nat) (m : Mem) (e : Nat) :
    (s.fillBank b pos len addr).harmAt m e =
      if m = bankMem b ∧ pos ≤ e ∧ e < pos + len then none else s.harmAt m e := by
  unfold State.harmAt State.fillBank
  simp only [State.setMonitor_monitor, List.find?_filter]
  split
  · rename_i hin
    rw [Option.map_eq_none_iff, List.find?_eq_none]
    intro d _
    by_cases hd : d.mem = m ∧ d.entry = e
    · obtain ⟨rfl, rfl⟩ := hd
      simp [hin]
    · simp [hd]
  · rename_i hout
    congr 2
    funext d
    by_cases hd : d.mem = m ∧ d.entry = e
    · obtain ⟨rfl, rfl⟩ := hd
      have hkept : (!(d.mem == bankMem b && decide (pos ≤ d.entry) && decide (d.entry < pos + len))) = true := by
        rw [Bool.not_eq_true', ← Bool.not_eq_true]
        simpa only [Bool.and_eq_true, beq_iff_eq, decide_eq_true_eq, and_assoc] using hout
      simp only [hkept, true_and]
      simp
    · obtain hd | hd := not_and_or.1 hd <;> simp [hd]

/-! ## The end of a fetch (R117) -/

/-- The last word of the line makes the bank FULL; the rest of the banks stays. -/
theorem advanceFetch_bank (s : State) (f : Fetch) (len : Nat) (c : Fin 2) :
    (s.advanceFetch f len).bank c = { s.bank c with
      state := if c = f.bank ∧ f.pos + len = (s.slot f.slot).width then .full else (s.bank c).state } := by
  unfold State.advanceFetch
  split
  · rename_i hlast
    refine (State.bank_setBank s f.bank c _).trans ?_
    by_cases hc : c = f.bank <;> simp [hc, hlast]
  · rename_i hmore
    simp only [hmore, and_false, if_false]
    rfl

theorem advanceFetch_fetch (s : State) (f : Fetch) (len : Nat) : (s.advanceFetch f len).feeder.fetch =
    if f.pos + len = (s.slot f.slot).width then none else some { f with pos := f.pos + len } := by
  unfold State.advanceFetch
  split <;> rfl

/-- The end of a segment changes the feeder alone. -/
theorem advanceFetch_eq (s : State) (f : Fetch) (len : Nat) :
    s.advanceFetch f len = { s with feeder := (s.advanceFetch f len).feeder } := by
  unfold State.advanceFetch
  split <;> rfl

theorem advanceFetch_target (s : State) (f : Fetch) (len : Nat) :
    (s.advanceFetch f len).feeder.target = s.feeder.target := by
  unfold State.advanceFetch
  split <;> rfl

/-! ## FEEDER_SEGMENT_DONE -/

/-- The part after a segment of the fetch `f`, before the next grant decision. -/
def segmentTaken (s : State) (v : Tick) (b : Fin 2) (pos len addr : Nat) (f : Fetch) : State :=
  ((s.setNow v).fillBank b pos len addr).advanceFetch f len

/-- What the segment changes: the tick, the feeder and the monitor. -/
theorem segmentTaken_eq (s : State) (v : Tick) (b : Fin 2) (pos len addr : Nat) (f : Fetch) :
    segmentTaken s v b pos len addr f = { s with
      now := v, feeder := (segmentTaken s v b pos len addr f).feeder
      monitor := (segmentTaken s v b pos len addr f).monitor } := by
  rw [segmentTaken, advanceFetch_eq]
  rfl

theorem segmentTaken_bank (s : State) (v : Tick) (b : Fin 2) (pos len addr : Nat) (f : Fetch) (c : Fin 2) :
    (segmentTaken s v b pos len addr f).bank c = { s.bank c with
      words := if c = b then writeRun (s.bank b).words pos len (fun j => s.loadWord (addr + j)) else (s.bank c).words
      state := if c = f.bank ∧ f.pos + len = (s.slot f.slot).width then .full else (s.bank c).state } := by
  rw [segmentTaken, advanceFetch_bank, fillBank_bank_eq]
  by_cases hc : c = b
  · subst hc
    simp only [if_true]
    rfl
  · simp only [if_neg hc]
    rfl

theorem segmentTaken_monitor (s : State) (v : Tick) (b : Fin 2) (pos len addr : Nat) (f : Fetch) :
    (segmentTaken s v b pos len addr f).monitor = ((s.setNow v).fillBank b pos len addr).monitor := by
  rw [segmentTaken, advanceFetch_eq]

theorem segmentTaken_refreshed (s : State) (v : Tick) (b : Fin 2) (pos len addr : Nat) (f : Fetch) :
    Refreshed (fun m e => m = (if b = 0 then .bank0 else .bank1) ∧ pos ≤ e ∧ e < pos + len) s
      (segmentTaken s v b pos len addr f) := by
  have hmonitor := segmentTaken_monitor s v b pos len addr f
  refine ⟨by rw [hmonitor]; rfl, fun m e => ?_⟩
  have hharm := fillBank_harmAt (s.setNow v) b pos len addr m e
  have hsame : (segmentTaken s v b pos len addr f).harmAt m e = ((s.setNow v).fillBank b pos len addr).harmAt m e := by
    unfold State.harmAt
    rw [hmonitor]
  rw [hsame, hharm]
  exact ⟨fun hin => if_pos hin, fun hout => if_neg hout⟩

/-- The row of a wanted segment (R117). -/
theorem exec_feederSegmentDone {dt : Nat} {hold : Timer} (hm : s.mayReach (s.now + dt) = true)
    (hgrant : s.sc.grant = some ⟨.feeder b pos len addr true, hold⟩) (hfetch : s.feeder.fetch = some f)
    (hin : addr + len ≤ s.storeWords) :
    exec (.feederSegmentDone dt) s = .next (segmentTaken s (s.now + dt) b pos len addr f).endUnit := by
  show execFeederSegmentDone dt s = _
  rw [execFeederSegmentDone, State.after_of_mayReach s dt _ hm]
  simp only [State.setNow_sc, State.setNow_feeder, hgrant, hfetch]
  exact if_neg (Nat.not_lt.2 hin)

/-- The row of a segment that is not wanted (R120). -/
theorem exec_feederSegmentDone_disowned {dt : Nat} {hold : Timer} (hm : s.mayReach (s.now + dt) = true)
    (hgrant : s.sc.grant = some ⟨.feeder b pos len addr false, hold⟩) :
    exec (.feederSegmentDone dt) s = .next (s.setNow (s.now + dt)).endUnit := by
  show execFeederSegmentDone dt s = _
  rw [execFeederSegmentDone, State.after_of_mayReach s dt _ hm]
  simp only [State.setNow_sc, hgrant]

/-- Settles O14: the segment fills a run of positions of its bank and moves the fetch on; the store is then free. -/
theorem fetchSegmentFillsTheBank : Obligations.FetchSegmentFillsTheBank := by
  unfold Obligations.FetchSegmentFillsTheBank
  refine fun dt s b pos len addr hold f hm =>
    ⟨exec_feederSegmentDone_disowned hm, fun hgrant hfetch hb hpos hin hwf =>
      ⟨_, exec_feederSegmentDone hm hgrant hfetch hin, ?_⟩⟩
  subst hb hpos
  have hbank := segmentTaken_bank s (s.now + dt) f.bank f.pos len addr f
  have hblocks := segmentTaken_eq s (s.now + dt) f.bank f.pos len addr f
  have hrefreshed := segmentTaken_refreshed s (s.now + dt) f.bank f.pos len addr f
  have htarget : (segmentTaken s (s.now + dt) f.bank f.pos len addr f).feeder.target = s.feeder.target :=
    advanceFetch_target _ f len
  have hended : (segmentTaken s (s.now + dt) f.bank f.pos len addr f).feeder.fetch =
      if f.pos + len = (s.slot f.slot).width then none else some { f with pos := f.pos + len } :=
    advanceFetch_fetch _ f len
  generalize segmentTaken s (s.now + dt) f.bank f.pos len addr f = u at *
  have hfeeder : u.endUnit.feeder = u.feeder := by simp [State.endUnit]
  have hmonitor : u.endUnit.monitor = u.monitor := by simp [State.endUnit]
  have hend := bank_congr (s := u) (w := u.endUnit) hfeeder
  have hall : u.endUnit = State.arbitrate { s with
      now := s.now + dt, sc := { s.sc with grant := none }, feeder := u.feeder, monitor := u.monitor } := by
    rw [hblocks]
    rfl
  have hkeeps : Keeps [.feeder, .monitor, .sc, .link] s u.endUnit := by
    rw [hall]
    have hfree : Keeps [.feeder, .monitor, .sc] s { s with
        now := s.now + dt, sc := { s.sc with grant := none }, feeder := u.feeder, monitor := u.monitor } := by
      intro k hk
      cases k <;> first | exact absurd hk (by decide) | exact fun _ => rfl | rfl
    exact (hfree.mono (by decide)).trans ((arbitrate_keeps _).mono (by decide))
  refine ⟨by rw [hall]; simp, hkeeps, fun j hj => ?_, fun p hp => ?_, fun c hc => ?_, ?_, ?_, ?_, ?_, fun hlast => ?_,
    fun hmore => ?_⟩
  · rw [hend, hbank, if_pos rfl]
    exact zeroGet_writeRun_in hwf _ hj
  · rw [hend, hbank, if_pos rfl]
    exact zeroGet_writeRun_out hwf _ hp
  · rw [hend, hbank, if_neg hc, if_neg fun h => hc h.1]
  · rw [hend, hbank]
  · rw [hfeeder, htarget]
  · unfold Refreshed State.harmAt at hrefreshed ⊢
    rwa [hmonitor]
  · rw [hfeeder, hmonitor, hall]
  · rw [hend, hbank, hfeeder, hended, if_pos hlast, if_pos ⟨rfl, hlast⟩]
    exact ⟨rfl, rfl⟩
  · rw [hend, hbank, hfeeder, hended, if_neg hmore, if_neg fun h => hmore h.2]
    exact ⟨rfl, rfl⟩

end Sys2Proof.Safety
end

section
/-! RUN, HALT and ABORT (R106 to R109). -/

namespace Sys2Proof.Safety

open Machine

variable {s t r : State} {n m : Fin 8} {dt left target : Nat} {b : Beat} {hold : Timer} {rest : List Beat} {k : Fin 2}

/-! ## The slots at the entry to STOPPED (R106) -/

/-- A prefetch in bank `k` belongs to slot `n`. -/
abbrev BankOf (s : State) (k : Fin 2) (n : Fin 8) : Prop := ∃ x ∈ (s.bank k).tag, x.1 = n

/-- The fetch line returns to −1 for the slot of the bank's prefetch, unless it is VACANT, and for no other (R106). -/
theorem unlockPrefetch_slot : (s.unlockPrefetch k).slot n =
    if (s.slot n).state ≠ .vacant ∧ BankOf s k n then { s.slot n with fetchLine := -1 } else s.slot n := by
  unfold State.unlockPrefetch BankOf
  split
  · rename_i m line htag
    by_cases hv : (s.slot m).state = .vacant
    · rw [if_pos hv, if_neg]
      rintro ⟨hn, x, hx, rfl⟩
      cases htag.symm.trans hx
      exact hn hv
    · rw [if_neg hv, State.unlockSlot, State.slot_setSlot]
      by_cases hn : n = m
      · rw [if_pos hn, if_pos ⟨hn ▸ hv, (m, line), htag, hn.symm⟩, hn]
      · rw [if_neg hn, if_neg]
        rintro ⟨-, x, hx, rfl⟩
        cases htag.symm.trans hx
        exact hn rfl
  · rename_i htag
    rw [if_neg]
    rintro ⟨-, x, hx, -⟩
    cases htag.symm.trans hx

/-- Beside the fetch lines the Slot Table stays. -/
theorem unlockPrefetch_kept (s : State) (k : Fin 2) : (s.unlockPrefetch k).slots.queue = s.slots.queue
    ∧ (∀ y, (s.unlockPrefetch k).users y = s.users y) ∧ (s.unlockPrefetch k).feeder = s.feeder := by
  unfold State.unlockPrefetch
  split
  · split
    · exact ⟨rfl, fun _ => rfl, rfl⟩
    · exact ⟨rfl, fun y => State.users_setSlot s _ _ y, rfl⟩
  · exact ⟨rfl, fun _ => rfl, rfl⟩

/-- A stop in WAITING, slot by slot (R106). -/
theorem enterStopped_waiting_slots (h : s.engine.state = .waiting) :
    (∀ n, s.enterStopped.slot n =
        if (s.slot n).state ≠ .vacant ∧ ∃ k, BankOf s k n then { s.slot n with fetchLine := -1 } else s.slot n)
      ∧ s.enterStopped.slots.queue = s.slots.queue ∧ ∀ y, s.enterStopped.users y = s.users y := by
  have hunlock : s.unlockOnStop = (s.unlockPrefetch 0).unlockPrefetch 1 := by
    unfold State.unlockOnStop
    rw [h]
  have hslots : s.enterStopped.slots = ((s.unlockPrefetch 0).unlockPrefetch 1).slots := by
    rw [enterStopped_slots, hunlock]
  obtain ⟨hqueue, husers, hfeeder⟩ := unlockPrefetch_kept s 0
  obtain ⟨hqueue', husers', -⟩ := unlockPrefetch_kept (s.unlockPrefetch 0) 1
  refine ⟨fun n => ?_, by rw [hslots, hqueue', hqueue], fun y => by rw [users_congr hslots, husers', husers]⟩
  have hbank : BankOf (s.unlockPrefetch 0) 1 n ↔ BankOf s 1 n := by
    unfold BankOf
    rw [bank_congr (s := s) hfeeder]
  have hany : (∃ k, BankOf s k n) ↔ BankOf s 0 n ∨ BankOf s 1 n := Fin.exists_fin_two
  rw [slot_congr hslots, unlockPrefetch_slot, unlockPrefetch_slot]
  simp only [hbank, hany]
  by_cases hv : (s.slot n).state = .vacant
  · simp [hv]
  · by_cases h0 : BankOf s 0 n <;> by_cases h1 : BankOf s 1 n <;> simp [hv, h0, h1]

/-! ## The engine's own part of each command -/

/-- RUN changes the engine alone (R107). -/
theorem runEngine_eq (s : State) : s.runEngine = { s with
    engine := if s.engine.state = .stopped then
        { s.engine with state := .waiting, haltPending := false, gateTimer := none }
      else { s.engine with haltPending := false } } := by
  unfold State.runEngine
  cases s.engine.state <;> rfl

theorem haltEngine_of_stopped (h : s.engine.state = .stopped) : s.haltEngine = s := by
  unfold State.haltEngine
  rw [h]

theorem haltEngine_of_waiting (h : s.engine.state = .waiting) : s.haltEngine = s.enterStopped := by
  unfold State.haltEngine
  rw [h]

theorem haltEngine_of_frame (h : s.expo = true ∨ s.engine.state = .closing) : s.haltEngine = s.setHalt true := by
  have hstate : s.engine.state = .leading ∨ s.engine.state = .imaging ∨ s.engine.state = .closing := by
    obtain h | h := h
    · exact (leading_or_imaging h).elim .inl fun h => .inr (.inl h)
    · exact .inr (.inr h)
  unfold State.haltEngine
  obtain h | h | h := hstate <;> rw [h]

theorem abortEngine_of_stopped (h : s.engine.state = .stopped) : s.abortEngine = s := by
  unfold State.abortEngine
  rw [h]

theorem abortEngine_of_idle (h : s.engine.state = .waiting ∨ s.engine.state = .closing) :
    s.abortEngine = s.enterStopped := by
  unfold State.abortEngine
  obtain h | h := h <;> rw [h]

theorem abortEngine_of_frame (h : s.expo = true) : s.abortEngine = s.abortFrame .aborted := by
  unfold State.abortEngine
  obtain h | h := leading_or_imaging h <;> rw [h]

/-! ## The commands -/

/-- The part `r` with the record of command word `b` written, outcome DONE (R146). -/
abbrev doneBy (b : Beat) (r : State) : State := r.recordCommand (b.data.extractLsb' 0 8) (b.data.extractLsb' 8 8) .done

theorem exec_run (h : Commanding s dt b left hold rest 0x20 target) : exec (.run dt) s =
    .next (doneBy b (taken s dt b left hold rest).runEngine) :=
  run_eq' (effect := fun s _ => (s.runEngine, .done)) h rfl rfl

theorem exec_halt (h : Commanding s dt b left hold rest 0x21 target) : exec (.halt dt) s =
    .next (doneBy b (taken s dt b left hold rest).haltEngine) :=
  run_eq' (effect := fun s _ => (s.haltEngine, .done)) h rfl rfl

theorem exec_abort (h : Commanding s dt b left hold rest 0x22 target) : exec (.abort dt) s =
    .next (doneBy b (taken s dt b left hold rest).abortEngine) :=
  run_eq' (effect := fun s _ => (s.abortEngine, .done)) h rfl rfl

/-- A command whose effect on the part is another engine alone. -/
theorem commanded_engine (e : Engine) (hr : r = { taken s dt b left hold rest with engine := e }) :
    Commanded s (doneBy b r) dt b left hold rest .done []
        [.engine]
      ∧ ReloadKept s (doneBy b r)
      ∧ (doneBy b r).engine = e := by
  subst hr
  have hkeeps : Keeps [.control, .events, .engine] (taken s dt b left hold rest)
      { taken s dt b left hold rest with engine := e } := by
    intro k hk
    cases k <;> first | exact absurd hk (by decide) | exact fun _ => rfl | rfl
  obtain ⟨hcommanded, hreload⟩ := commanded_of (o := .done) hkeeps rfl rfl rfl rfl (fun _ => rfl) rfl (raised_nil rfl)
  exact ⟨hcommanded, hreload, rfl⟩

/-- A command that stops an engine without a frame (R106, R108, R109). -/
theorem commanded_stop (hr : r = (taken s dt b left hold rest).enterStopped) :
    Commanded s (doneBy b r) dt b left hold rest .done []
        [.engine, .feeder, .slots, .drive]
      ∧ ReloadKept s (doneBy b r)
      ∧ (doneBy b r).engine
        = { s.engine with state := .stopped, haltPending := false, slot := none, gateTimer := none }
      ∧ FeederCleared s (doneBy b r)
      ∧ (doneBy b r).drive = ⟨none, 0, 0, 0⟩ := by
  have hsc : r.sc = (taken s dt b left hold rest).sc := by rw [hr, enterStopped_sc, dropFetch_placement rfl]
  have hcleared : FeederCleared (taken s dt b left hold rest) r := hr ▸ enterStopped_feeder _
  have hengine : r.engine
      = { s.engine with state := .stopped, haltPending := false, slot := none, gateTimer := none } := by
    rw [hr]; simp
  have hdrive : r.drive = ⟨none, 0, 0, 0⟩ := by rw [hr]; simp
  obtain ⟨hcommanded, hreload⟩ : Commanded s (doneBy b r)
        dt b left hold rest .done [] [.engine, .feeder, .slots, .drive]
      ∧ ReloadKept s (doneBy b r) := by
    refine commanded_of (keeps_of ?_ ?_ ?_ ?_ ?_ ?_ ?_ ?_ ?_ ?_ ?_ ?_ ?_ ?_ ?_ ?_) ?_ hsc ?_ ?_ ?_ ?_ (raised_nil ?_)
    case refine_7 => exact .inr hsc
    all_goals simp [hr]
  refine ⟨hcommanded, hreload, hengine, ?_, hdrive⟩
  refine feederCleared_congr hcleared rfl rfl (fetchDisowned_of_placement (left := left) (hold := hold) ?_)
  simp [hsc]

/-- A command that aborts the frame (R9, R109, R126). -/
theorem recorded_abort (he : s.expo = true) (hs : s.engine.slot = some n) {c : FaultCause}
    (hr : r = (taken s dt b left hold rest).abortFrame c) :
    Recorded s (doneBy b r) dt b left hold rest .done
        [.slots, .fill, .engine, .feeder, .drive]
      ∧ ReloadKept s (doneBy b r)
      ∧ Aborted s (doneBy b r) n c [.commandDone] := by
  obtain ⟨haborted, hkeeps, hnow, hsc, -⟩ := abortFrame_spec (a := taken s dt b left hold rest) (c := c) he hs
  rw [dropFetch_placement rfl] at hsc
  rw [← hr] at haborted hkeeps hnow hsc
  have hcontrol : r.control = s.control := hkeeps .control (by decide)
  have hraised : Raised [.frameFault] (reported s r.now) r := raised_from haborted.raised rfl
  refine ⟨recorded_of (fun k hk => ?_) hnow hsc (hkeeps .queue (by decide)) (hkeeps .powerOns (by decide))
    (hkeeps .store (by decide)) (by rw [hcontrol]), ?_, ?_⟩
  · by_cases hk' : k = .sc
    · subst hk'
      exact hsc
    · refine hkeeps k ?_
      simp only [abortBlocks, List.mem_cons, List.not_mem_nil, or_false] at hk ⊢
      tauto
  · constructor <;> simp [State.recordCommand, hcontrol]
  · refine aborted_congr haborted rfl rfl rfl rfl (by simp) (by simp) (by simp) (by simp) (by simp) ?_ (.inl (by simp))
    refine raised_mem (raised_from (raised_record hraised _ _ _) (by simp)) fun i => ?_
    simp only [List.mem_cons, List.not_mem_nil, or_false]
    tauto

/-- The slots after a stop in WAITING and its command record (R106). -/
theorem stop_waiting_slots (h : s.engine.state = .waiting) (hr : r = (taken s dt b left hold rest).enterStopped)
    (x y : Byte) : (∀ n, (r.recordCommand x y .done).slot n =
        if (s.slot n).state ≠ .vacant ∧ ∃ k, ∃ x ∈ (s.bank k).tag, x.1 = n then { s.slot n with fetchLine := -1 }
        else s.slot n)
      ∧ (r.recordCommand x y .done).slots.queue = s.slots.queue
      ∧ ∀ z, (r.recordCommand x y .done).users z = s.users z := by
  subst hr
  obtain ⟨hslot, hqueue, husers⟩ := enterStopped_waiting_slots (s := taken s dt b left hold rest) h
  refine ⟨fun n => ?_, by simpa using hqueue, fun z => by simpa using husers z⟩
  exact hslot n

/-- Settles O30: each command is its record and what the engine's state makes of it. -/
theorem runHaltAbort : Obligations.RunHaltAbort := by
  unfold Obligations.RunHaltAbort
  refine fun dt s b left hold rest target => ⟨fun h => ?_, fun h => ⟨fun hs => ?_, fun hs => ?_, fun hs => ?_⟩,
    fun h => ⟨fun hs => ?_, fun hs => ?_, fun n he hn => ?_⟩⟩
  · exact ⟨_, exec_run h, commanded_engine _ (runEngine_eq _)⟩
  · refine ⟨_, exec_halt h, ?_⟩
    rw [haltEngine_of_stopped (s := taken s dt b left hold rest) hs]
    exact refused_of .done
  · exact ⟨_, exec_halt h, commanded_engine _ (haltEngine_of_frame (s := taken s dt b left hold rest) hs)⟩
  · have hr := haltEngine_of_waiting (s := taken s dt b left hold rest) hs
    obtain ⟨hcommanded, hreload, hengine, hcleared, hdrive⟩ := commanded_stop hr
    exact ⟨_, exec_halt h, hcommanded, hreload, hengine, hcleared, hdrive, stop_waiting_slots hs hr _ _⟩
  · refine ⟨_, exec_abort h, ?_⟩
    rw [abortEngine_of_stopped (s := taken s dt b left hold rest) hs]
    exact refused_of .done
  · have hr := abortEngine_of_idle (s := taken s dt b left hold rest) hs
    obtain ⟨hcommanded, hreload, hengine, hcleared, hdrive⟩ := commanded_stop hr
    refine ⟨_, exec_abort h, hcommanded, hreload, hengine, hcleared, hdrive, fun hc => ?_,
      fun hw => stop_waiting_slots hw hr _ _⟩
    have hslots : (taken s dt b left hold rest).abortEngine.slots = s.slots := by
      rw [hr, enterStopped_slots, unlockOnStop_closing (s := taken s dt b left hold rest) hc, taken_slots]
    simpa using hslots
  · exact ⟨_, exec_abort h, recorded_abort he hn (abortEngine_of_frame he)⟩

end Sys2Proof.Safety
end

section
/-! PIXEL_DRIVE: which pixel clocks send a pixel, its reads and its drives (R122 to R125, R128, R163). -/

namespace Sys2Proof.Safety

open Machine

variable {s t a u : State} {n : Fin 8} {b : Fin 2} {px : Pixel} {sw : Sweep}

/-! ## Damage that arises with a step (log 8) -/

/-- Damage changes the monitor alone. -/
theorem arise_eq (s : State) (ds : List Damage) : s.arise ds = { s with monitor := (s.arise ds).monitor } := by
  have hframe := State.arise_frame s ds
  generalize s.arise ds = u at *
  obtain ⟨hnow, hpowerOns, hpending, hpins, hlink, hqueue, hstore, hsc, hslots, hfill, hcontrol, hscan, hengine, hfeeder,
    hdrive, hevents⟩ := hframe
  rw [← hnow, ← hpowerOns, ← hpending, ← hpins, ← hlink, ← hqueue, ← hstore, ← hsc, ← hslots, ← hfill, ← hcontrol, ← hscan,
    ← hengine, ← hfeeder, ← hdrive, ← hevents]

theorem arise_setNow (s : State) (v : Tick) (ds : List Damage) : (s.setNow v).arise ds = (s.arise ds).setNow v := by
  rw [arise_eq (s.setNow v), State.arise_congr (s.setNow v) s ds rfl, arise_eq s]
  rfl

/-! ## Which pixel clocks send a pixel (R122, R128) -/

/-- A pixel is sent in IMAGING with INTERLOCK closed, on a clock between the margin and the end of the line of a sweep
that sends a bank. -/
theorem pixel_some_iff : s.pixel = some px ↔ ∃ n sw b, s.engine.state = .imaging ∧ s.engine.slot = some n
    ∧ s.drive.sweep = some sw ∧ sw.bank = some b ∧ s.pins.interlock = false ∧ sw.margin ≤ sw.clocks
    ∧ sw.clocks < sw.margin + (s.slot n).width ∧ px = ⟨n, b, sw.clocks - sw.margin, sw.facet⟩ := by
  constructor
  · intro h
    unfold State.pixel at h
    split at h
    · rename_i n sw hstate hslot hsweep
      split at h
      · rename_i b hbank
        split at h
        · rename_i hclock
          obtain ⟨hclosed, hlow, hhigh⟩ := hclock
          cases h
          exact ⟨n, sw, b, hstate, hslot, hsweep, hbank, hclosed, hlow, hhigh, rfl⟩
        · cases h
      · cases h
    · cases h
  · rintro ⟨n, sw, b, hstate, hslot, hsweep, hbank, hclosed, hlow, hhigh, rfl⟩
    unfold State.pixel
    simp only [hstate, hslot, hsweep, hbank, hclosed, hlow, hhigh, and_self, if_true]

/-- The clocks that send no pixel. -/
theorem pixel_none_of (hsweep : s.drive.sweep = some sw) (h : s.engine.state ≠ .imaging ∨ s.pins.interlock = true
    ∨ sw.bank = none ∨ sw.clocks < sw.margin ∨ s.engine.slot = some n ∧ sw.margin + (s.slot n).width ≤ sw.clocks) :
    s.pixel = none := by
  rw [Option.eq_none_iff_forall_ne_some]
  intro px hpx
  obtain ⟨m, sw', b, hstate, hslot, hsweep', hbank, hclosed, hlow, hhigh, -⟩ := pixel_some_iff.1 hpx
  cases hsweep.symm.trans hsweep'
  obtain h | h | h | h | ⟨h, hend⟩ := h
  · exact h hstate
  · exact Bool.false_ne_true (hclosed.symm.trans h)
  · cases hbank.symm.trans h
  · omega
  · cases hslot.symm.trans h
    omega

theorem pixel_none_of_no_sweep (h : s.drive.sweep = none) : s.pixel = none := by
  rw [Option.eq_none_iff_forall_ne_some]
  intro px hpx
  obtain ⟨_, _, _, _, _, hsweep, -⟩ := pixel_some_iff.1 hpx
  cases h.symm.trans hsweep

/-! ## The drives of a clock (R122 to R124) -/

/-- Drive 0 lights nothing. -/
theorem output_zero (s : State) : s.output 0 0 0 = s.setDrive ⟨s.drive.sweep, 0, 0, 0⟩ := by
  have hlit (sw : Sweep) : { sw with lit := sw.lit || (0 : Half) != 0 || (0 : Half) != 0 || (0 : Half) != 0 } = sw := by
    cases sw
    simp
  unfold State.output
  simp only [hlit, Option.map_id']

theorem exec_pixelDrive {dt : Nat} {arisen : List Damage} (hm : s.mayReach (s.now + dt) = true) :
    exec (.pixelDrive dt arisen) s = .next ((s.arise arisen).setNow (s.now + dt)).pixelClock := by
  rw [← arise_setNow]
  exact s.after_of_mayReach dt (fun s => .next (s.arise arisen).pixelClock) hm

/-- The part at a pixel clock: the damage arisen, the clock counted. -/
def clocked (s : State) (v : Tick) (ds : List Damage) : State := ((s.arise ds).setNow v).countClock

theorem clocked_eq (s : State) (v : Tick) (ds : List Damage) : clocked s v ds = { s with
    now := v, monitor := (s.arise ds).monitor
    drive := { s.drive with sweep := s.drive.sweep.map fun sw => { sw with clocks := sw.clocks + 1 } } } := by
  unfold clocked
  generalize hm : (s.arise ds).monitor = m
  rw [arise_eq, hm]
  rfl

/-- The pixel of a clock is that of the state before it. -/
theorem pixel_arise (s : State) (v : Tick) (ds : List Damage) : ((s.arise ds).setNow v).pixel = s.pixel := by
  rw [arise_eq]
  rfl

theorem pixelClock_sent (h : s.pixel = some px) (v : Tick) (ds : List Damage) :
    ((s.arise ds).setNow v).pixelClock = (clocked s v ds).sendPixel px := by
  unfold State.pixelClock
  rw [pixel_arise, h]
  rfl

theorem pixelClock_dark (h : s.pixel = none) (v : Tick) (ds : List Damage) :
    ((s.arise ds).setNow v).pixelClock = (clocked s v ds).output 0 0 0 := by
  unfold State.pixelClock
  rw [pixel_arise, h]
  rfl

theorem clocked_keeps (s : State) (v : Tick) (ds : List Damage) : Keeps [.drive, .monitor] s (clocked s v ds) := by
  rw [clocked_eq]
  intro k hk
  cases k <;> first | exact absurd hk (by decide) | exact fun _ => rfl | rfl

/-- A clock that sends no pixel (R122, R128). -/
theorem exec_pixelDrive_dark {dt : Nat} {arisen : List Damage} (hm : s.mayReach (s.now + dt) = true)
    (h : s.pixel = none) : exec (.pixelDrive dt arisen) s = .next { s with
      now := s.now + dt, monitor := (s.arise arisen).monitor
      drive := ⟨s.drive.sweep.map fun sw => { sw with clocks := sw.clocks + 1 }, 0, 0, 0⟩ } := by
  rw [exec_pixelDrive hm, pixelClock_dark h, output_zero, clocked_eq]
  rfl

/-! ## A pixel sent (R123 to R125) -/

theorem sendPixel_good {reads : List (Mem × Nat)} (hr : u.pixelReads px = reads) (h : u.anyFails reads = false) :
    u.sendPixel px = (u.checkReads reads).output (u.driveOf px 0) (u.driveOf px 1) (u.driveOf px 2) := by
  subst hr
  exact if_neg (by rw [h]; decide)

theorem sendPixel_spoiled {reads : List (Mem × Nat)} (hr : u.pixelReads px = reads) (h : u.anyFails reads = true) :
    u.sendPixel px = (u.checkReads reads).markSpoiled.output 0 0 0 := by
  subst hr
  exact if_pos h

/-- Reads without a failure raise no source (R164). -/
theorem checkReads_events {reads : List (Mem × Nat)} (h : s.anyFails reads = false) :
    (s.checkReads reads).events = s.events := by
  induction reads generalizing s with
  | nil => rfl
  | cons r rest ih =>
    obtain ⟨hr, hrest⟩ : s.readFails r.1 r.2 = false ∧ s.anyFails rest = false := by
      simpa [State.anyFails] using h
    have hfirst : (s.checkRead r.1 r.2).events = s.events := by
      unfold State.readFails at hr
      unfold State.checkRead
      split
      · rfl
      · rfl
      · rename_i hharm
        rw [hharm] at hr
        cases hr
    refine (ih (s := s.checkRead r.1 r.2) ?_).trans hfirst
    simpa only [State.anyFails, checkRead_readFails] using hrest

theorem checkReads_keeps (s : State) (reads : List (Mem × Nat)) : Keeps [.monitor, .events] s (s.checkReads reads) := by
  refine keeps_of ?_ ?_ ?_ ?_ ?_ ?_ ?_ ?_ ?_ ?_ ?_ ?_ ?_ ?_ ?_ ?_
  case refine_6 => exact .inr fun cell => storeByte_of (by simp) (by simp) cell
  all_goals simp

/-- Reads without a failure change the monitor alone. -/
theorem checkReads_keeps_good {reads : List (Mem × Nat)} (h : s.anyFails reads = false) :
    Keeps [.monitor] s (s.checkReads reads) := by
  intro k hk
  by_cases hevents : k = .events
  · subst hevents
    exact checkReads_events h
  · exact checkReads_keeps s reads k fun hmem => by
      obtain hmem | hmem := List.mem_cons.1 hmem
      · exact hk (List.mem_singleton.2 hmem)
      · exact hevents (List.mem_singleton.1 hmem)

theorem markSpoiled_keeps (s : State) : Keeps [.engine, .slots] s s.markSpoiled := by
  refine keeps_of ?_ ?_ ?_ ?_ ?_ ?_ ?_ ?_ ?_ ?_ ?_ ?_ ?_ ?_ ?_ ?_
  case refine_6 => exact .inr fun cell => storeByte_of (by simp) (by simp) cell
  all_goals simp

theorem output_keeps (s : State) (r g b : Half) : Keeps [.drive] s (s.output r g b) := by
  intro k hk
  cases k <;> first | exact absurd hk (by decide) | exact fun _ => rfl | rfl

/-- The sweep and the drives of a pixel without a failed read (R123). -/
theorem output_drive (hsweep : s.drive.sweep = some sw) (r g b : Half) : (s.output r g b).drive
    = ⟨some { sw with lit := sw.lit || r != 0 || g != 0 || b != 0 }, r, g, b⟩ := by
  unfold State.output
  rw [hsweep]
  rfl

/-- The drive of a channel is the low half of the delivered modulator word (R123). -/
theorem driveOf_eq (s : State) (px : Pixel) (k : Channel) :
    s.driveOf px k = (s.delivered (modulatorMem k) (s.correctedLevel px k)).extractLsb' 0 16 :=
  BitVec.setWidth_eq_extractLsb' (by decide)

/-- A pixel sent with all its reads good. -/
theorem sendPixel_good_spec {v : Tick} {ds : List Damage} (ha : a = s.arise ds) (hsweep : s.drive.sweep = some sw)
    (hgood : a.anyFails (a.pixelReads px) = false) (ht : t = (clocked s v ds).sendPixel px) :
    Keeps [.drive, .monitor] s t
      ∧ t.drive.red = (a.delivered .modR (a.correctedLevel px 0)).extractLsb' 0 16
      ∧ t.drive.green = (a.delivered .modG (a.correctedLevel px 1)).extractLsb' 0 16
      ∧ t.drive.blue = (a.delivered .modB (a.correctedLevel px 2)).extractLsb' 0 16
      ∧ t.drive.sweep = some { sw with
          clocks := sw.clocks + 1, lit := sw.lit || t.drive.red != 0 || t.drive.green != 0 || t.drive.blue != 0 } := by
  have hkept := clocked_keeps s v ds
  have hclock : (clocked s v ds).drive.sweep = some { sw with clocks := sw.clocks + 1 } := by
    rw [clocked_eq, hsweep]
    rfl
  have hdrive (k : Channel) : (clocked s v ds).driveOf px k
      = (a.delivered (modulatorMem k) (a.correctedLevel px k)).extractLsb' 0 16 := by
    subst ha
    exact driveOf_eq _ _ _
  have hsent := sendPixel_good (u := clocked s v ds) (px := px) (reads := a.pixelReads px) (by subst ha; rfl)
    (by subst ha; exact hgood)
  have hfails : (clocked s v ds).anyFails (a.pixelReads px) = false := by subst ha; exact hgood
  generalize clocked s v ds = u at *
  rw [hdrive, hdrive, hdrive] at hsent
  have hout := output_drive (s := u.checkReads (a.pixelReads px)) (sw := { sw with clocks := sw.clocks + 1 })
    (by simpa using hclock) ((a.delivered (modulatorMem 0) (a.correctedLevel px 0)).extractLsb' 0 16)
    ((a.delivered (modulatorMem 1) (a.correctedLevel px 1)).extractLsb' 0 16)
    ((a.delivered (modulatorMem 2) (a.correctedLevel px 2)).extractLsb' 0 16)
  have hkeeps : Keeps [.drive, .monitor] s t := by
    rw [ht, hsent]
    exact (hkept.trans ((checkReads_keeps_good hfails).mono (by decide))).trans ((output_keeps _ _ _ _).mono (by decide))
  rw [← hsent, ← ht] at hout
  exact ⟨hkeeps, congrArg Drive.red hout, congrArg Drive.green hout, congrArg Drive.blue hout, by rw [hout]⟩

/-- A pixel with a failed read (R124, R125). -/
theorem sendPixel_spoiled_spec {v : Tick} {ds : List Damage} (ha : a = s.arise ds) (hsweep : s.drive.sweep = some sw)
    (hslot : s.engine.slot = some n) (hbad : a.anyFails (a.pixelReads px) = true)
    (ht : t = (clocked s v ds).sendPixel px) : Keeps [.drive, .engine, .slots, .events, .monitor] s t
      ∧ t.drive = ⟨some { sw with clocks := sw.clocks + 1 }, 0, 0, 0⟩ ∧ Raised [.integrity] s t
      ∧ t.engine = { s.engine with spoiled := true } ∧ OtherSlotsKept n s t
      ∧ t.slot n = { s.slot n with spoiled := (s.slot n).spoiled + (if s.engine.spoiled then 0 else 1) }
      ∧ t.slots.queue = s.slots.queue ∧ ∀ y, t.users y = s.users y := by
  have hkept := clocked_keeps s v ds
  have hclock : (clocked s v ds).drive.sweep = some { sw with clocks := sw.clocks + 1 } := by
    rw [clocked_eq, hsweep]
    rfl
  have hsent := sendPixel_spoiled (u := clocked s v ds) (px := px) (reads := a.pixelReads px) (by subst ha; rfl)
    (by subst ha; exact hbad)
  have hfails : (clocked s v ds).anyFails (a.pixelReads px) = true := by subst ha; exact hbad
  generalize clocked s v ds = u at *
  have hchecked := hkept.mono (m := [.drive, .monitor, .events]) (by decide)
    |>.trans ((checkReads_keeps u (a.pixelReads px)).mono (by decide))
  have hraised := checkReads_raised u (a.pixelReads px)
  rw [if_pos hfails] at hraised
  have hsweep' : (u.checkReads (a.pixelReads px)).drive.sweep = some { sw with clocks := sw.clocks + 1 } := by
    simpa using hclock
  generalize u.checkReads (a.pixelReads px) = w at *
  obtain ⟨hengine, hslots, hfill⟩ : w.engine = s.engine ∧ w.slots = s.slots ∧ w.fill = s.fill :=
    ⟨hchecked .engine (by decide), hchecked .slots (by decide), hchecked .fill (by decide)⟩
  have hmarked (m) := markSpoiled_slot (s := w) (n := n) (by rw [hengine, hslot]) m
  rw [output_zero] at hsent
  have hslot' (m) : t.slot m = w.markSpoiled.slot m := by rw [ht, hsent]; rfl
  refine ⟨?_, ?_, ?_, ?_, fun m hm => ⟨?_, ?_⟩, ?_, ?_, fun y => ?_⟩
  · rw [ht, hsent, ← output_zero]
    exact ((hchecked.mono (by decide)).trans ((markSpoiled_keeps w).mono (by decide))).trans
      ((output_keeps _ _ _ _).mono (by decide))
  · rw [ht, hsent]
    simp [hsweep']
  · refine raised_congr (raised_from hraised (hkept .events (by decide)).symm) ?_ ?_ <;> simp [ht, hsent]
  · rw [ht, hsent]
    exact (markSpoiled_engine w).trans (by rw [hengine])
  · rw [hslot', hmarked, if_neg hm, slot_congr hslots]
  · refine cover_congr (Eq.trans ?_ hfill) m
    simp [ht, hsent]
  · rw [hslot', hmarked, if_pos rfl, slot_congr hslots, hengine]
  · have hqueue : t.slots.queue = w.markSpoiled.slots.queue := by rw [ht, hsent]; rfl
    rw [hqueue, markSpoiled_queue, hslots]
  · have husers : t.users y = w.markSpoiled.users y := users_congr (by rw [ht, hsent]; rfl) y
    rw [husers, markSpoiled_users, users_congr hslots]

theorem sendPixel_monitor {v : Tick} {ds : List Damage} (ha : a = s.arise ds) :
    ((clocked s v ds).sendPixel px).monitor = (a.checkReads (a.pixelReads px)).monitor := by
  have hmonitor : (clocked s v ds).monitor = a.monitor := by rw [ha]; rfl
  have hreads : (clocked s v ds).pixelReads px = a.pixelReads px := by rw [ha]; rfl
  rw [← checkReads_monitor_congr hmonitor]
  cases hfails : (clocked s v ds).anyFails (a.pixelReads px) with
  | false => rw [sendPixel_good hreads hfails]; simp [State.output]
  | true => rw [sendPixel_spoiled hreads hfails]; simp [State.output]

theorem sendPixel_now (u : State) (px : Pixel) : (u.sendPixel px).now = u.now := by
  cases hfails : u.anyFails (u.pixelReads px) with
  | false => rw [sendPixel_good rfl hfails]; simp [State.output]
  | true => rw [sendPixel_spoiled rfl hfails]; simp [State.output]

/-! ## The corrected level (R123) -/

/-- E' is the sum of R123 clamped to 0 to 1023. -/
theorem correctedLevel_spec (s : State) (px : Pixel) (k : Channel) {level trim offset : Int}
    (hl : level = ((s.delivered (if px.bank = 0 then .bank0 else .bank1) px.pos).toNat / 2 ^ (20 - 10 * k.val) % 1024 : Nat))
    (ht : trim = ([(s.slot px.slot).trimR, (s.slot px.slot).trimG, (s.slot px.slot).trimB].getD k.val 0))
    (ho : offset = ((s.delivered .facet (3 * px.facet + k.val)).extractLsb' 0 16).toInt) :
    (s.correctedLevel px k : Int) = max 0 (min 1023 (level + trim + offset)) ∧ s.correctedLevel px k ≤ 1023 := by
  have hlevel : (levelOf (s.delivered (bankMem px.bank) px.pos) k : Int) = level := by
    rw [hl]
    simp [levelOf, field, bankMem, Nat.shiftRight_eq_div_pow]
  have htrim : (s.slot px.slot).trim k = trim := by
    rw [ht]
    match k with
    | 0 | 1 | 2 => rfl
  have hoffset : s.facetOffset px.facet k = offset := by
    rw [ho, State.facetOffset, BitVec.setWidth_eq_extractLsb' (by decide)]
  unfold State.correctedLevel clampInt
  rw [hlevel, htrim, hoffset]
  omega

/-- Settles O41: a clock sends the pixel of `State.pixel` or drive 0, and a pixel is sent by its checked reads. -/
theorem pixelClockGivesTheDrives : Obligations.PixelClockGivesTheDrives := by
  unfold Obligations.PixelClockGivesTheDrives
  refine ⟨fun dt arisen s a n sw k px hm ha hsweep => ⟨fun hdark => ?_, fun hi hc hslot hbank hlow hhigh hpx => ?_⟩,
    fun dt arisen s hm hsweep => ?_, fun s px => rfl, fun s px k level trim offset => correctedLevel_spec s px k⟩
  · rw [exec_pixelDrive_dark hm (pixel_none_of hsweep hdark), hsweep, ha]
    rfl
  · have hpixel : s.pixel = some px := pixel_some_iff.2 ⟨n, sw, k, hi, hslot, hsweep, hbank, hc, hlow, hhigh, hpx⟩
    refine ⟨(clocked s (s.now + dt) arisen).sendPixel px, by rw [exec_pixelDrive hm, pixelClock_sent hpixel],
      by rw [sendPixel_now, clocked_eq], sendPixel_monitor ha, fun hgood => ?_, fun hbad => ?_⟩
    · exact sendPixel_good_spec ha hsweep hgood rfl
    · exact sendPixel_spoiled_spec ha hsweep hslot hbad rfl
  · rw [exec_pixelDrive_dark hm (pixel_none_of_no_sweep hsweep), hsweep]
    rfl

end Sys2Proof.Safety
end

section
/-! Words packed from fields: a field shows at its bits, and every other bit is 0 (R182). -/

namespace Sys2Proof.Safety

open Machine

variable {fs : List Field} {f : Field} {lo i : Nat}

/-! ## Packing -/

/-- The fields take ascending bits from bit `lo` on, no bit twice, within a word. -/
@[simp] def ascends : Nat → List Field → Bool
  | lo, [] => lo ≤ 32
  | lo, f :: rest => lo ≤ f.lo && ascends (f.lo + f.len) rest

/-- A field at its bits. -/
@[simp] def Field.bits (f : Field) : Nat := at_ f.lo f.len f.value

/-- The fields of a word added up. -/
def packed (fs : List Field) : Nat := (fs.map Field.bits).sum

@[simp] theorem packed_nil : packed [] = 0 := rfl

@[simp] theorem packed_cons (f : Field) (rest : List Field) : packed (f :: rest) = f.bits + packed rest := by
  simp [packed]

theorem bits_dvd (h : lo ≤ f.lo) : 2 ^ lo ∣ f.bits :=
  (Nat.pow_dvd_pow 2 h).mul_left _

theorem ascends_cons {rest : List Field} : ascends lo (f :: rest) = true ↔
    lo ≤ f.lo ∧ ascends (f.lo + f.len) rest = true := by
  simp [ascends]

/-- The later fields of a word lie above the first ones. -/
theorem packed_dvd (h : ascends lo fs = true) : 2 ^ lo ∣ packed fs := by
  induction fs generalizing lo with
  | nil => exact dvd_zero _
  | cons f rest ih =>
    obtain ⟨hlo, hrest⟩ := ascends_cons.1 h
    rw [packed_cons]
    exact dvd_add (bits_dvd hlo) ((Nat.pow_dvd_pow 2 (by omega)).trans (ih hrest))

theorem bits_testBit (f : Field) (i : Nat) :
    f.bits.testBit i = (decide (f.lo ≤ i ∧ i < f.lo + f.len) && f.value.testBit (i - f.lo)) := by
  rw [Field.bits, at_, Nat.testBit_mul_two_pow, Nat.testBit_mod_two_pow]
  by_cases hlo : f.lo ≤ i
  · have hhigh : i - f.lo < f.len ↔ i < f.lo + f.len := by omega
    simp [hlo, hhigh]
  · simp [hlo]

/-- Below the end of the first field the word is that field; from there on it is the rest. -/
theorem packed_testBit_cons {rest : List Field} (h : ascends (f.lo + f.len) rest = true) (i : Nat) :
    (packed (f :: rest)).testBit i = if i < f.lo + f.len then f.bits.testBit i else (packed rest).testBit i := by
  have hbound : f.bits < 2 ^ (f.lo + f.len) := by
    rw [Field.bits, at_, Nat.add_comm, Nat.pow_add]
    exact Nat.mul_lt_mul_of_pos_right (Nat.mod_lt _ (by positivity)) (by positivity)
  obtain ⟨m, hm⟩ := packed_dvd h
  rw [packed_cons, hm, Nat.add_comm, Nat.testBit_two_pow_mul_add _ hbound, Nat.testBit_two_pow_mul]
  by_cases hi : i < f.lo + f.len <;> simp [hi, Nat.le_of_not_lt]

theorem le_of_ascends (h : ascends lo fs = true) (hf : f ∈ fs) : lo ≤ f.lo ∧ f.lo + f.len ≤ 32 := by
  have hend (l : Nat) (gs : List Field) (hgs : ascends l gs = true) : l ≤ 32 := by
    induction gs generalizing l with
    | nil => simpa [ascends] using hgs
    | cons g rest ih =>
      obtain ⟨hlo, hrest⟩ := ascends_cons.1 hgs
      have := ih _ hrest
      omega
  induction fs generalizing lo with
  | nil => cases hf
  | cons g rest ih =>
    obtain ⟨hlo, hrest⟩ := ascends_cons.1 h
    obtain rfl | hf := List.mem_cons.1 hf
    · exact ⟨hlo, hend _ _ hrest⟩
    · obtain ⟨hle, hword⟩ := ih hrest hf
      exact ⟨by omega, hword⟩

/-- A field shows its value. -/
theorem packed_testBit_field (h : ascends lo fs = true) (hf : f ∈ fs) (hi : i < f.len) :
    (packed fs).testBit (f.lo + i) = f.value.testBit i := by
  induction fs generalizing lo with
  | nil => cases hf
  | cons g rest ih =>
    obtain ⟨-, hrest⟩ := ascends_cons.1 h
    rw [packed_testBit_cons hrest]
    obtain rfl | hf := List.mem_cons.1 hf
    · rw [if_pos (by omega), bits_testBit]
      simp [hi]
    · obtain ⟨hle, -⟩ := le_of_ascends hrest hf
      rw [if_neg (by omega)]
      exact ih hrest hf

/-- A bit of no field is 0. -/
theorem packed_testBit_out (h : ascends lo fs = true) (hout : ∀ f ∈ fs, i < f.lo ∨ f.lo + f.len ≤ i) :
    (packed fs).testBit i = false := by
  induction fs generalizing lo with
  | nil => exact Nat.zero_testBit i
  | cons g rest ih =>
    obtain ⟨-, hrest⟩ := ascends_cons.1 h
    rw [packed_testBit_cons hrest]
    split
    · have hg := hout g (List.mem_cons_self ..)
      rw [bits_testBit, decide_eq_false (by omega), Bool.false_and]
    · exact ih hrest fun f hf => hout f (List.mem_cons_of_mem _ hf)

theorem word_field (h : ascends lo fs = true) (hf : f ∈ fs) :
    (BitVec.ofNat 32 (packed fs)).extractLsb' f.lo f.len = BitVec.ofNat f.len f.value := by
  obtain ⟨-, hword⟩ := le_of_ascends h hf
  ext i hi
  rw [BitVec.getElem_extractLsb', BitVec.getLsbD_ofNat, packed_testBit_field h hf hi, decide_eq_true (by omega),
    Bool.true_and, ← BitVec.getLsbD_eq_getElem, BitVec.getLsbD_ofNat, decide_eq_true hi, Bool.true_and]

theorem word_out (h : ascends lo fs = true) (hout : ∀ f ∈ fs, i < f.lo ∨ f.lo + f.len ≤ i) :
    (BitVec.ofNat 32 (packed fs)).getLsbD i = false := by
  rw [BitVec.getLsbD_ofNat, packed_testBit_out h hout, Bool.and_false]

/-! ## The ways the model writes a field -/

theorem flagAt_eq (lo : Nat) (b : Bool) : flagAt lo b = at_ lo 1 b.toNat := by
  cases b <;> simp [flagAt, at_]

/-- A signed field is its two's complement (R182). -/
theorem signedAt_eq (lo len : Nat) (v : Int) : signedAt lo len v = at_ lo len (twos len v) := by
  rw [signedAt, at_, twos, Nat.mod_eq_of_lt (BitVec.isLt _), BitVec.toNat_ofInt]

/-- A whole word is a field of 32 bits. -/
theorem toNat_eq_at (w : Word) : w.toNat = at_ 0 32 w.toNat := by
  rw [at_, Nat.mod_eq_of_lt w.isLt, Nat.pow_zero, Nat.mul_one]

end Sys2Proof.Safety
end

section
/-! The status page: the fields of each word, group by group (R149, R182, section 11.5). -/

namespace Sys2Proof.Safety

open Machine

variable {s : State} {o k : Nat} {n m : Fin 8} {f : Field} {l : List Field}

/-! ## The fields of a word -/

/-- The fields a list places at an offset. -/
def fieldsAt (l : List Field) (o : Nat) : List Field := l.filter fun f => f.offset == o

theorem mem_fieldsAt : f ∈ fieldsAt l o ↔ f ∈ l ∧ f.offset = o := by
  simp [fieldsAt]

theorem fieldsAt_nil (h : ∀ f ∈ l, f.offset ≠ o) : fieldsAt l o = [] := by
  simpa [fieldsAt] using h

theorem fieldsAt_append (l l' : List Field) (o : Nat) : fieldsAt (l ++ l') o = fieldsAt l o ++ fieldsAt l' o :=
  List.filter_append ..

/-- A value shows the fields of a word, none of them twice at a bit. -/
def Shown (v : Nat) (fs : List Field) : Prop := v = packed fs ∧ ascends 0 fs = true

theorem shown_nil : Shown 0 [] := ⟨rfl, rfl⟩

theorem finRange_two : List.finRange 2 = [0, 1] := rfl

theorem finRange_eight : List.finRange 8 = [0, 1, 2, 3, 4, 5, 6, 7] := rfl

/-! ## Offsets 0 to 31: identification, engine, feeder and scanner (R103, R131) -/

/-- The words of the engine, the feeder and the scanner that have fields. -/
def engineOffsets : List Nat := [0, 1, 8, 9, 10, 11, 12, 16, 17, 18, 19, 20, 21, 22, 23, 24]

theorem engine_offset : ∀ f ∈ engineFields s, f.offset ∈ engineOffsets := by
  simp [engineFields, finRange_two, engineOffsets]

theorem fieldsAt_engine_nil (h : o ∉ engineOffsets) : fieldsAt (engineFields s) o = [] :=
  fieldsAt_nil fun f hf hoff => h (hoff ▸ engine_offset f hf)

/-- A line bank shows its state and its tag (R131). -/
theorem bankWord_shown : ∀ b : Fin 2, Shown (s.bankWord b) (fieldsAt (engineFields s) (10 + b.val))
  | 0 => by
    cases htag : (s.bank 0).tag <;>
      simp [Shown, fieldsAt, engineFields, finRange_two,  State.bankWord, htag]
  | 1 => by
    cases htag : (s.bank 1).tag <;>
      simp [Shown, fieldsAt, engineFields, finRange_two,  State.bankWord, htag]

theorem statusEngine_shown : ∀ o, o < 16 → Shown (s.statusEngine o) (fieldsAt (engineFields s) o)
  | 0, _ | 1, _ | 12, _ => by
    simp [Shown, fieldsAt, engineFields, finRange_two,  State.statusEngine,
      Config.vendorCode, Config.partCode, Config.siliconRevision]
  | 8, _ => by
    cases hslot : s.engine.slot <;>
      simp [Shown, fieldsAt, engineFields, finRange_two,  State.statusEngine,
        flagAt_eq, hslot, Nat.add_assoc]
  | 9, _ => by
    cases hline : s.engine.line <;>
      simp [Shown, fieldsAt, engineFields, finRange_two,  State.statusEngine,
        hline]
  | 10, _ => bankWord_shown 0
  | 11, _ => bankWord_shown 1
  | 2, _ | 3, _ | 4, _ | 5, _ | 6, _ | 7, _ | 13, _ | 14, _ | 15, _ => by
    rw [fieldsAt_engine_nil (by decide)]
    exact shown_nil
  | o + 16, h => absurd h (by omega)

theorem statusScan_shown : ∀ o, o < 16 → Shown (s.statusScan o) (fieldsAt (engineFields s) (16 + o))
  | 0, _ | 1, _ | 2, _ | 3, _ | 4, _ | 5, _ | 6, _ | 7, _ | 8, _ => by
    simp [Shown, fieldsAt, engineFields, finRange_two,  State.statusScan,
      Nat.add_assoc]
  | o + 9, _ => by
    rw [fieldsAt_engine_nil (by simp only [engineOffsets, List.mem_cons, List.not_mem_nil, or_false]; omega)]
    exact shown_nil

/-! ## Offsets 32 to 111: events, records, tables, monitor and link (R43, R148, R170, R178) -/

/-- The words of the control side that have fields. -/
def controlOffsets : List Nat := [32, 33, 34, 35, 36, 48, 49, 50, 64, 80, 81, 96, 97]

theorem control_offset : ∀ f ∈ controlFields s, f.offset ∈ controlOffsets := by
  have hall : (controlFields s).all (fun f => controlOffsets.contains f.offset) = true := by
    unfold controlFields
    cases s.monitor.state <;> rfl
  simpa only [List.all_eq_true, List.contains_iff_mem] using hall

theorem fieldsAt_control_nil (h : o ∉ controlOffsets) : fieldsAt (controlFields s) o = [] :=
  fieldsAt_nil fun f hf hoff => h (hoff ▸ control_offset f hf)

theorem statusEvents_shown : ∀ o, o < 16 → Shown (s.statusEvents o) (fieldsAt (controlFields s) (32 + o))
  | 0, _ | 1, _ | 2, _ | 3, _ | 4, _ => by
    cases hm : s.monitor.state <;>
      simp [Shown, fieldsAt, controlFields, hm, Source.all, finRange_eight, Source.index, 
        State.statusEvents, sourceBits, flagAt_eq]
  | o + 5, _ => by
    rw [fieldsAt_control_nil (by simp only [controlOffsets, List.mem_cons, List.not_mem_nil, or_false]; omega)]
    exact shown_nil

theorem statusCommand_shown : ∀ o, o < 16 → Shown (s.statusCommand o) (fieldsAt (controlFields s) (48 + o))
  | 0, _ | 1, _ => by
    cases hm : s.monitor.state <;>
      simp [Shown, fieldsAt, controlFields, hm, Source.all, finRange_eight, State.statusCommand]
  | 2, _ => by
    cases hm : s.monitor.state <;> cases ht : s.control.reload.table <;>
      simp [Shown, fieldsAt, controlFields, hm, ht, Source.all, finRange_eight,
        State.statusCommand, flagAt_eq, Nat.add_assoc]
  | o + 3, _ => by
    rw [fieldsAt_control_nil (by simp only [controlOffsets, List.mem_cons, List.not_mem_nil, or_false]; omega)]
    exact shown_nil

theorem statusTables_shown : ∀ o, o < 16 → Shown (s.statusTables o) (fieldsAt (controlFields s) (64 + o))
  | 0, _ => by
    have huse : s.inUse .stockA = decide (0 < s.users .a) ∧ s.inUse .stockB = decide (0 < s.users .b)
        ∧ s.inUse .modulator = s.expo ∧ s.inUse .facet = s.expo := ⟨rfl, rfl, rfl, rfl⟩
    have husers : s.slots.usersA = s.users .a ∧ s.slots.usersB = s.users .b := ⟨rfl, rfl⟩
    cases hm : s.monitor.state <;>
      simp [Shown, fieldsAt, controlFields, hm, Source.all, finRange_eight, State.statusTables, huse, husers, flagAt_eq,
        Nat.add_assoc]
  | o + 1, _ => by
    rw [fieldsAt_control_nil (by simp only [controlOffsets, List.mem_cons, List.not_mem_nil, or_false]; omega)]
    exact shown_nil

theorem statusMonitor_shown : ∀ o, o < 16 → Shown (s.statusMonitor o) (fieldsAt (controlFields s) (80 + o))
  | 0, _ => by
    cases hm : s.monitor.state <;>
      simp [Shown, fieldsAt, controlFields, hm, Source.all, finRange_eight,
        State.statusMonitor, State.monitorMarks, flagAt_eq, Nat.add_assoc]
  | 1, _ => by
    cases hm : s.monitor.state <;>
      simp [Shown, fieldsAt, controlFields, hm, Source.all, finRange_eight,
        State.statusMonitor, flagAt_eq, Nat.add_assoc]
  | o + 2, _ => by
    rw [fieldsAt_control_nil (by simp only [controlOffsets, List.mem_cons, List.not_mem_nil, or_false]; omega)]
    exact shown_nil

theorem statusLink_shown : ∀ o, o < 16 → Shown (s.statusLink o) (fieldsAt (controlFields s) (96 + o))
  | 0, _ | 1, _ => by
    cases hm : s.monitor.state <;>
      simp [Shown, fieldsAt, controlFields, hm, Source.all, finRange_eight,
        State.statusLink]
  | o + 2, _ => by
    rw [fieldsAt_control_nil (by simp only [controlOffsets, List.mem_cons, List.not_mem_nil, or_false]; omega)]
    exact shown_nil

/-! ## Offsets 128 to 255: the slot records (R24, R62) -/

theorem slot_offset : ∀ f ∈ slotFields s n, ∃ k, k < 11 ∧ f.offset = 128 + 16 * n.val + k := by
  simp [slotFields]

theorem fieldsAt_slot_nil (h : ∀ k, k < 11 → o ≠ 128 + 16 * n.val + k) : fieldsAt (slotFields s n) o = [] := by
  refine fieldsAt_nil fun f hf hoff => ?_
  obtain ⟨k, hk, hf⟩ := slot_offset f hf
  exact h k hk (hoff ▸ hf)

/-- The place in the queue, 15 for a slot that is not queued (R24). -/
theorem queuePosition_eq (s : State) (n : Fin 8) :
    s.queuePosition n = if n ∈ s.slots.queue then s.slots.queue.idxOf n else 15 := by
  unfold State.queuePosition
  split
  · have hfound : s.slots.queue.findIdx? (· == n) = some (s.slots.queue.findIdx (· == n)) :=
      List.findIdx?_eq_some_of_exists ⟨n, ‹_›, beq_self_eq_true n⟩
    rw [hfound]
    rfl
  · have hnone : s.slots.queue.findIdx? (· == n) = none :=
      List.findIdx?_eq_none_iff.2 fun m hm => beq_false_of_ne fun h => ‹¬ _› (h ▸ hm)
    rw [hnone]
    rfl

theorem statusSlot_shown (n : Fin 8) : ∀ k, k < 16 →
    Shown (s.statusSlot n k) (fieldsAt (slotFields s n) (128 + 16 * n.val + k))
  | 0, _ => by
    simp [Shown, fieldsAt, slotFields,  State.statusSlot, queuePosition_eq,
      flagAt_eq, Nat.add_assoc]
  | 1, _ => by
    simp [Shown, fieldsAt, slotFields,  State.statusSlot, ← toNat_eq_at]
  | 2, _ | 3, _ | 4, _ | 5, _ | 6, _ | 7, _ | 8, _ | 9, _ | 10, _ => by
    simp [Shown, fieldsAt, slotFields,  State.statusSlot, signedAt_eq,
      Nat.add_assoc]
  | k + 11, _ => by
    rw [fieldsAt_slot_nil fun j hj => by omega]
    exact shown_nil

/-! ## Every word -/

theorem mem_engineOffsets (h : o ∈ engineOffsets) : o < 32 := by
  revert o
  decide

theorem mem_controlOffsets (h : o ∈ controlOffsets) : 32 ≤ o ∧ o < 112 := by
  revert o
  decide

/-- The fields of the slot records at an offset of record `n` are those of the record. -/
theorem fieldsAt_slots (s : State) (n : Fin 8) (hk : k < 16) :
    fieldsAt ((List.finRange 8).flatMap (slotFields s)) (128 + 16 * n.val + k)
      = fieldsAt (slotFields s n) (128 + 16 * n.val + k) := by
  have hother (m : Fin 8) (hm : m ≠ n) : fieldsAt (slotFields s m) (128 + 16 * n.val + k) = [] :=
    fieldsAt_slot_nil fun j hj hoff => hm (Fin.ext (by omega))
  have hflat (l : List (Fin 8)) (hl : l.Nodup) : fieldsAt (l.flatMap (slotFields s)) (128 + 16 * n.val + k)
      = if n ∈ l then fieldsAt (slotFields s n) (128 + 16 * n.val + k) else [] := by
    induction l with
    | nil => rfl
    | cons m rest ih =>
      obtain ⟨hm, hrest⟩ := List.nodup_cons.1 hl
      rw [List.flatMap_cons, fieldsAt_append, ih hrest]
      by_cases hmn : m = n
      · subst hmn
        simp [hm]
      · simp [hother m hmn, Ne.symm hmn]
  rw [hflat _ (List.nodup_finRange 8), if_pos (List.mem_finRange n)]

theorem fieldsAt_slots_nil (s : State) (h : o < 128 ∨ 256 ≤ o) :
    fieldsAt ((List.finRange 8).flatMap (slotFields s)) o = [] := by
  refine fieldsAt_nil fun f hf hoff => ?_
  obtain ⟨n, -, hf⟩ := List.mem_flatMap.1 hf
  obtain ⟨k, hk, hf⟩ := slot_offset f hf
  omega

/-- The fields of the page at an offset, by the list they come from. -/
theorem fieldsAt_status (s : State) (o : Nat) : fieldsAt (statusFields s) o = fieldsAt (engineFields s) o
    ++ fieldsAt (controlFields s) o ++ fieldsAt ((List.finRange 8).flatMap (slotFields s)) o := by
  rw [statusFields, fieldsAt_append, fieldsAt_append]

theorem fieldsAt_status_engine (h : o < 32) : fieldsAt (statusFields s) o = fieldsAt (engineFields s) o := by
  rw [fieldsAt_status, fieldsAt_control_nil fun hmem => by have := mem_controlOffsets hmem; omega,
    fieldsAt_slots_nil s (by omega), List.append_nil, List.append_nil]

theorem fieldsAt_status_control (hlow : 32 ≤ o) (h : o < 128) :
    fieldsAt (statusFields s) o = fieldsAt (controlFields s) o := by
  rw [fieldsAt_status, fieldsAt_engine_nil fun hmem => by have := mem_engineOffsets hmem; omega,
    fieldsAt_slots_nil s (by omega), List.nil_append, List.append_nil]

theorem fieldsAt_status_slots (h : 128 ≤ o) :
    fieldsAt (statusFields s) o = fieldsAt ((List.finRange 8).flatMap (slotFields s)) o := by
  rw [fieldsAt_status, fieldsAt_engine_nil fun hmem => by have := mem_engineOffsets hmem; omega,
    fieldsAt_control_nil fun hmem => by have := mem_controlOffsets hmem; omega, List.nil_append, List.nil_append]

/-- Every status word is the fields of its offset (R149, R182). -/
theorem statusWord_shown (s : State) (o : Nat) :
    ∃ v, s.statusWord o = BitVec.ofNat 32 v ∧ Shown v (fieldsAt (statusFields s) o) := by
  refine ⟨_, rfl, ?_⟩
  split_ifs with h16 h32 h48 h64 h80 h96 h112 h128 h256
  · rw [fieldsAt_status_engine (by omega)]
    exact statusEngine_shown o h16
  · obtain ⟨k, rfl⟩ := Nat.exists_eq_add_of_le (Nat.le_of_not_lt h16)
    rw [fieldsAt_status_engine h32, Nat.add_sub_cancel_left]
    exact statusScan_shown k (by omega)
  · obtain ⟨k, rfl⟩ := Nat.exists_eq_add_of_le (Nat.le_of_not_lt h32)
    rw [fieldsAt_status_control (by omega) (by omega), Nat.add_sub_cancel_left]
    exact statusEvents_shown k (by omega)
  · obtain ⟨k, rfl⟩ := Nat.exists_eq_add_of_le (Nat.le_of_not_lt h48)
    rw [fieldsAt_status_control (by omega) (by omega), Nat.add_sub_cancel_left]
    exact statusCommand_shown k (by omega)
  · obtain ⟨k, rfl⟩ := Nat.exists_eq_add_of_le (Nat.le_of_not_lt h64)
    rw [fieldsAt_status_control (by omega) (by omega), Nat.add_sub_cancel_left]
    exact statusTables_shown k (by omega)
  · obtain ⟨k, rfl⟩ := Nat.exists_eq_add_of_le (Nat.le_of_not_lt h80)
    rw [fieldsAt_status_control (by omega) (by omega), Nat.add_sub_cancel_left]
    exact statusMonitor_shown k (by omega)
  · obtain ⟨k, rfl⟩ := Nat.exists_eq_add_of_le (Nat.le_of_not_lt h96)
    rw [fieldsAt_status_control (by omega) (by omega), Nat.add_sub_cancel_left]
    exact statusLink_shown k (by omega)
  · rw [fieldsAt_status_control (by omega) h128,
      fieldsAt_control_nil fun hmem => by have := mem_controlOffsets hmem; omega]
    exact shown_nil
  · have hn : (Fin.ofNat 8 ((o - 128) / 16)).val = (o - 128) / 16 := Nat.mod_eq_of_lt (by omega)
    have ho : o = 128 + 16 * (Fin.ofNat 8 ((o - 128) / 16)).val + (o - 128) % 16 := by rw [hn]; omega
    have hk : (o - 128) % 16 < 16 := Nat.mod_lt _ (by decide)
    rw [fieldsAt_status_slots (by omega)]
    generalize Fin.ofNat 8 ((o - 128) / 16) = n at *
    generalize (o - 128) % 16 = k at *
    subst ho
    rw [fieldsAt_slots s n hk]
    exact statusSlot_shown n k hk
  · rw [fieldsAt_status_slots (by omega), fieldsAt_slots_nil s (by omega)]
    exact shown_nil

/-- A field of the page shows at its bits. -/
theorem statusWord_field (hf : f ∈ statusFields s) :
    (s.statusWord f.offset).extractLsb' f.lo f.len = BitVec.ofNat f.len f.value := by
  obtain ⟨v, hv, rfl, hasc⟩ := statusWord_shown s f.offset
  rw [hv]
  exact word_field hasc (mem_fieldsAt.2 ⟨hf, rfl⟩)

/-- A bit of no field is 0. -/
theorem statusWord_out {i : Nat} (h : ∀ f ∈ statusFields s, f.offset = o → i < f.lo ∨ f.lo + f.len ≤ i) :
    (s.statusWord o).getLsbD i = false := by
  obtain ⟨v, hv, rfl, hasc⟩ := statusWord_shown s o
  rw [hv]
  exact word_out hasc fun f hf => h f (mem_fieldsAt.1 hf).1 (mem_fieldsAt.1 hf).2

/-! ## Single fields -/

/-- A flag of the page. -/
theorem statusWord_flag {i : Nat} {b : Bool} (hf : ⟨o, i, 1, b.toNat⟩ ∈ statusFields s) :
    (s.statusWord o).getLsbD i = b := by
  have hbit := congrArg (fun x : BitVec 1 => x.getLsbD 0) (statusWord_field hf)
  simp only [BitVec.getLsbD_extractLsb', Nat.add_zero] at hbit
  cases b <;> simpa using hbit

/-- A field of a whole word. -/
theorem statusWord_whole {v : Nat} (hf : ⟨o, 0, 32, v⟩ ∈ statusFields s) : s.statusWord o = BitVec.ofNat 32 v := by
  have hword := statusWord_field hf
  simpa using hword

theorem mem_slotFields (hf : f ∈ slotFields s n) : f ∈ statusFields s :=
  List.mem_append_right _ (List.mem_flatMap.2 ⟨n, List.mem_finRange n, hf⟩)

end Sys2Proof.Safety
end

section
/-! The statements about the status page: its fields, the codes and the blocked reason (R110, R149, R178, R182). -/

namespace Sys2Proof.Safety

open Machine

variable {s : State} {n : Fin 8}

/-! ## The blocked reason (R110) -/

theorem firstBlock_noFrame (h : ∀ n, ¬ EligibleHead s n) : s.firstBlock = .noFrame := by
  have hnone : s.eligibleHead = none := Option.eq_none_iff_forall_ne_some.2 fun n hn => h n (eligibleHead_iff.2 hn)
  unfold State.firstBlock
  rw [hnone]

/-- The first condition of R110 that does not hold of an eligible head. -/
theorem firstBlock_eligible (h : EligibleHead s n) : s.firstBlock =
    if ¬ ∃ k, (s.bank k).tag = some (n, 0) ∧ (s.bank k).state = .full then .staging
    else if ¬ (s.tableState .modulator = .valid ∧ s.tableState .facet = .valid) then .tables
    else if s.scan.state ≠ .locked then .scan
    else if s.pins.interlock = true then .interlock
    else if s.pins.gate = false then .gate else .none := by
  have hbank : (s.bankTagged n 0 (· == .full)).isNone = true
      ↔ ¬ ∃ k, (s.bank k).tag = some (n, 0) ∧ (s.bank k).state = .full := by
    rw [Option.isNone_iff_eq_none, bankTagged_none_iff]
    simp only [beq_iff_eq]
  have htables : (!(s.tableState .modulator == .valid && s.tableState .facet == .valid)) = true
      ↔ ¬ (s.tableState .modulator = .valid ∧ s.tableState .facet = .valid) := by
    rw [Bool.not_eq_true', ← Bool.not_eq_true, Bool.and_eq_true, beq_iff_eq, beq_iff_eq]
  have hscan : (s.scan.state != .locked) = true ↔ s.scan.state ≠ .locked := bne_iff_ne
  have hgate : (!s.pins.gate) = true ↔ s.pins.gate = false := by rw [Bool.not_eq_true']
  unfold State.firstBlock
  rw [eligibleHead_iff.1 h]
  simp only [hbank, htables, hscan, hgate]

/-! ## The page -/

/-- The identification words (R149). -/
theorem statusWord_identification (s : State) :
    s.statusWord 0 = 0x24600D57 ∧ (s.statusWord 1).toNat = 65536 * s.sc.size.mib + 1 := by
  refine ⟨rfl, ?_⟩
  show (BitVec.ofNat 32 (at_ 0 8 Config.siliconRevision + at_ 16 16 s.sc.size.mib)).toNat = _
  cases s.sc.size <;> rfl

theorem mem_controlFields {f : Field} (hf : f ∈ controlFields s) : f ∈ statusFields s :=
  List.mem_append_left _ (List.mem_append_right _ hf)

/-- The five event words of a source (R178). -/
theorem statusWord_events (s : State) (i : Source) : (s.statusWord 32).getLsbD i.index = s.raw i
    ∧ (s.statusWord 33).getLsbD i.index = s.stuck i ∧ (s.statusWord 34).getLsbD i.index = s.ident i
    ∧ (s.statusWord 35).getLsbD i.index = (s.ident i && s.attnMapped i)
    ∧ (s.statusWord 36).getLsbD i.index = (s.ident i && s.stopMapped i) := by
  have hall : i ∈ Source.all := by cases i <;> decide
  refine ⟨?_, ?_, ?_, ?_, ?_⟩
  all_goals
    refine statusWord_flag (mem_controlFields ?_)
    simp only [controlFields, List.mem_append, List.mem_flatMap]
    exact .inl (.inl (.inl (.inl ⟨i, hall, by simp⟩)))

theorem statusWord_unassigned {o : Nat} (h : 112 ≤ o ∧ o < 128 ∨ 256 ≤ o) : s.statusWord o = 0 := by
  have hnone : fieldsAt (statusFields s) o = [] := by
    obtain ⟨hlow, hhigh⟩ | hhigh := h
    · rw [fieldsAt_status_control (by omega) hhigh,
        fieldsAt_control_nil fun hmem => by have := mem_controlOffsets hmem; omega]
    · rw [fieldsAt_status_slots (by omega), fieldsAt_slots_nil s (.inr hhigh)]
  obtain ⟨v, hv, hpacked, -⟩ := statusWord_shown s o
  rw [hv, hpacked, hnone, packed_nil]
  rfl

/-- The fields of a slot's record (R24, R62). -/
theorem statusWord_slot (s : State) (n : Fin 8) :
    (s.statusWord (128 + 16 * n)).extractLsb' 0 3 = BitVec.ofNat 3 (s.slot n).state.code
      ∧ (s.statusWord (128 + 16 * n)).getLsbD 16 = (s.slot n).lost
      ∧ (s.statusWord (128 + 16 * n)).getLsbD 17 = (s.slot n).sealed
      ∧ (s.statusWord (128 + 16 * n)).getLsbD 18 = (s.slot n).complete
      ∧ (s.statusWord (128 + 16 * n)).getLsbD 19 = (s.slot n).suspect
      ∧ (s.statusWord (128 + 16 * n)).getLsbD 20 = (s.slot n).trimClamped
      ∧ s.statusWord (128 + 16 * n + 1) = (s.slot n).frame
      ∧ (s.statusWord (128 + 16 * n + 8)).extractLsb' 16 16 = BitVec.ofInt 16 (s.slot n).fetchLine
      ∧ s.statusWord (128 + 16 * n + 9) = BitVec.ofNat 32 (s.cover n).cursor := by
  refine ⟨?_, ?_, ?_, ?_, ?_, ?_, ?_, ?_, ?_⟩
  · exact statusWord_field (f := ⟨128 + 16 * n, 0, 3, (s.slot n).state.code⟩)
      (mem_slotFields (n := n) (by simp [slotFields]))
  iterate 5 exact statusWord_flag (mem_slotFields (n := n) (by simp [slotFields]))
  · rw [statusWord_whole (v := (s.slot n).frame.toNat) (mem_slotFields (n := n) (by simp [slotFields])),
      BitVec.ofNat_toNat, BitVec.setWidth_eq]
  · have hline := statusWord_field (s := s)
      (f := ⟨128 + 16 * n + 8, 16, 16, twos 16 (s.slot n).fetchLine⟩) (mem_slotFields (n := n) (by simp [slotFields]))
    rw [hline, twos, BitVec.ofNat_toNat, BitVec.setWidth_eq]
  · exact statusWord_whole (mem_slotFields (n := n) (by simp [slotFields]))

/-- Settles O45: every word is the sum of its fields at disjoint bits; the blocked reason is the first failing
condition of R110. -/
theorem statusWordsShowTheirFields : Obligations.StatusWordsShowTheirFields := by
  unfold Obligations.StatusWordsShowTheirFields
  refine fun s => ⟨fun f => statusWord_field, fun o i => statusWord_out, fun hw => if_neg hw,
    fun hw h => (if_pos hw).trans (firstBlock_noFrame h), fun n hw h => (if_pos hw).trans (firstBlock_eligible h),
    rfl, rfl, rfl, rfl, rfl, fun i r => rfl, rfl, rfl, rfl, rfl, rfl, (statusWord_identification s).1,
    (statusWord_identification s).2, statusWord_events s, fun o => statusWord_unassigned, statusWord_slot s⟩

end Sys2Proof.Safety
end

section
/-! Captured entries: where an entry word goes, its clamp, and what a capture changes (R134, R136, R137, R162). -/

namespace Sys2Proof.Safety

open Machine

variable {s t : State}

/-! ## Entry places (R134, R162) -/

/-- The table unit whose shadow a memory is; a line bank is of none. -/
def unitOf : Mem → Option TableUnit
  | .stockA => some .stockA
  | .stockB => some .stockB
  | .modR | .modG | .modB => some .modulator
  | .facet => some .facet
  | .bank0 | .bank1 => none

theorem unitOf_entryPlace (x : TableUnit) (o : Nat) : unitOf (entryPlace x o).1 = some x := by
  cases x with
  | modulator => unfold entryPlace; dsimp only; split_ifs <;> rfl
  | _ => rfl

/-- Every entry word has a place of its own. -/
theorem entryPlace_inj {x y : TableUnit} {o p : Nat} : entryPlace y p = entryPlace x o ↔ y = x ∧ p = o := by
  refine ⟨fun h => ?_, fun ⟨hx, ho⟩ => by rw [hx, ho]⟩
  have hunit : some y = some x := by rw [← unitOf_entryPlace y p, h, unitOf_entryPlace]
  obtain rfl := Option.some.inj hunit
  refine ⟨rfl, ?_⟩
  cases y with
  | modulator =>
    unfold entryPlace at h
    dsimp only at h
    split_ifs at h <;> simp only [Prod.mk.injEq, reduceCtorEq, false_and, true_and] at h <;> omega
  | _ => exact (Prod.ext_iff.1 h).2

/-! ## Clamps (R137) -/

theorem clampSigned_spec {lo hi : Int} (h : Half) (hle : lo ≤ hi) (hlo : (BitVec.ofInt 16 lo).toInt = lo)
    (hhi : (BitVec.ofInt 16 hi).toInt = hi) : (clampSigned lo hi h).1.toInt = max lo (min hi h.toInt)
      ∧ ((clampSigned lo hi h).2 = true ↔ h.toInt < lo ∨ hi < h.toInt) := by
  unfold clampSigned
  split_ifs with hlow hhigh
  · exact ⟨by rw [hlo]; omega, by simp [hlow]⟩
  · exact ⟨by rw [hhi]; omega, by simp [hhigh]⟩
  · exact ⟨by dsimp only; omega, by simp [hlow, hhigh]⟩

/-- Settles O22: a clamp for each kind of entry. -/
theorem capturedEntriesAreClamped : Obligations.CapturedEntriesAreClamped := by
  unfold Obligations.CapturedEntriesAreClamped
  refine fun x o h => ⟨?_, ?_, fun hstock => ?_⟩
  · rintro rfl
    rfl
  · rintro rfl
    exact clampSigned_spec h (by decide) (by decide) (by decide)
  · have hvalue : captureValue x o h = captureValue .stockA o h := by obtain rfl | rfl := hstock <;> rfl
    rw [hvalue]
    refine ⟨fun hknot => ?_, fun hlow hhigh => ?_, fun hlow _ => ?_⟩
    · rw [captureValue, if_pos hknot]
      split_ifs with hover
      · exact ⟨by simp; omega, by simp [hover]⟩
      · exact ⟨by dsimp only; omega, by simp [hover]⟩
    · rw [captureValue, if_neg (by omega), if_neg (by omega)]
    · rw [captureValue, if_neg (by omega), if_pos hlow]
      exact clampSigned_spec h (by decide) (by decide) (by decide)

/-! ## One entry of a shadow replaced (R136) -/

/-- The shadows in canonical form: rising entries, none of them 0. -/
def Canonical (x : Shadows) : Prop := ∀ m, zeroWf (x.get m) = true

theorem shadows_get_write_same (x : Shadows) {m : Mem} (hm : unitOf m ≠ none) (a : Nat) (v : Half) :
    (x.write m a v).get m = zeroSet (x.get m) a v := by
  cases m with
  | bank0 | bank1 => exact absurd rfl hm
  | _ => rfl

theorem shadows_get_write_other (x : Shadows) {m n : Mem} (h : n ≠ m) (a : Nat) (v : Half) :
    (x.write m a v).get n = x.get n := by
  cases m <;> cases n <;> first | rfl | exact absurd rfl h

theorem Canonical.write {x : Shadows} (h : Canonical x) (m : Mem) (a : Nat) (v : Half) : Canonical (x.write m a v) := by
  intro n
  by_cases hn : n = m
  · subst hn
    by_cases hbank : unitOf n = none
    · have hkept : x.write n a v = x := by cases n <;> first | rfl | cases hbank
      rw [hkept]
      exact h n
    · rw [shadows_get_write_same x hbank]
      exact zeroSet_wf _ _ _ (h n)
  · rw [shadows_get_write_other x hn]
    exact h n

theorem zeroGet_shadows_write {x : Shadows} (h : Canonical x) {m : Mem} (hm : unitOf m ≠ none) (a : Nat) (v : Half)
    (n : Mem) (e : Nat) :
    zeroGet ((x.write m a v).get n) e = if (n, e) = (m, a) then v else zeroGet (x.get n) e := by
  by_cases hn : n = m
  · subst hn
    rw [shadows_get_write_same x hm, zeroGet_zeroSet _ _ _ _ (h n)]
    simp
  · rw [shadows_get_write_other x hn, if_neg fun heq => hn (Prod.ext_iff.1 heq).1]

/-! ## One entry captured (R136, R137, R162) -/

/-- The value an entry word of unit `x` is captured as, and whether it was clamped (R137). -/
def captured (x : TableUnit) (o : Nat) (w : Word) : Half × Bool := captureValue x o (w.extractLsb' 0 16)

/-- A capture changes the shadows, the damage marks and the events alone. -/
theorem capture_eq (s : State) (x : TableUnit) (o : Nat) (w : Word) : s.capture x o w = { s with
    control := { s.control with
      shadows := s.control.shadows.write (entryPlace x o).1 (entryPlace x o).2 (captured x o w).1 }
    monitor := { s.monitor with damage := (s.capture x o w).monitor.damage }
    events := (s.capture x o w).events } := by
  simp only [State.capture, State.raiseIf]
  split <;> rfl

theorem capture_control (s : State) (x : TableUnit) (o : Nat) (w : Word) : (s.capture x o w).control = { s.control with
    shadows := s.control.shadows.write (entryPlace x o).1 (entryPlace x o).2 (captured x o w).1 } := by
  rw [capture_eq]

theorem capture_canonical (h : Canonical s.control.shadows) (x : TableUnit) (o : Nat) (w : Word) :
    Canonical (s.capture x o w).control.shadows := by
  rw [capture_control]
  exact h.write _ _ _

/-- The captured entry holds the captured value, and every other entry word what it held. -/
theorem capture_entry (h : Canonical s.control.shadows) (x : TableUnit) (o : Nat) (w : Word) (y : TableUnit) (p : Nat) :
    zeroGet ((s.capture x o w).control.shadows.get (entryPlace y p).1) (entryPlace y p).2 =
      if y = x ∧ p = o then (captured x o w).1
      else zeroGet (s.control.shadows.get (entryPlace y p).1) (entryPlace y p).2 := by
  rw [capture_control, zeroGet_shadows_write h (by rw [unitOf_entryPlace]; nofun)]
  simp only [Prod.mk.eta, entryPlace_inj]

/-- A capture leaves the shadows of every other unit. -/
theorem capture_other {m : Mem} {x : TableUnit} (hm : unitOf m ≠ some x) (s : State) (o : Nat) (w : Word) :
    (s.capture x o w).control.shadows.get m = s.control.shadows.get m := by
  rw [capture_control]
  refine shadows_get_write_other _ (fun hplace => hm ?_) _ _
  rw [hplace, unitOf_entryPlace]

theorem capture_harmAt (s : State) (x : TableUnit) (o : Nat) (w : Word) (m : Mem) (e : Nat) :
    (s.capture x o w).harmAt m e = if entryPlace x o = (m, e) then none else s.harmAt m e := by
  have hmonitor : (s.capture x o w).monitor = (s.refreshEntry (entryPlace x o).1 (entryPlace x o).2).monitor := by
    simp [State.capture, State.refreshEntry]
  rw [harmAt_congr hmonitor, State.harmAt_refreshEntry]
  simp only [Prod.ext_iff, eq_comm]

/-- What a raise makes of the Event Unit follows from the Event Unit and the tick. -/
theorem raiseIf_events_congr (he : t.events = s.events) (hn : t.now = s.now) (c : Bool) (i : Source) :
    (t.raiseIf c i).events = (s.raiseIf c i).events := by
  cases c with
  | false => exact he
  | true => simp [State.raiseIf, State.raise, he, hn]

/-- TABLE_CLAMP is raised for a clamped entry, and no other source (R137). -/
theorem capture_raised (x : TableUnit) (o : Nat) (w : Word) {clamped : Bool}
    (h : Raised (if clamped then [.tableClamp] else []) s t) :
    Raised (if clamped || (captured x o w).2 then [.tableClamp] else []) s (t.capture x o w) := by
  have hevents : (t.capture x o w).events = (t.raiseIf (captured x o w).2 .tableClamp).events :=
    raiseIf_events_congr (by rfl) (by rfl) _ _
  refine raised_congr (u := t.raiseIf (captured x o w).2 .tableClamp) ?_ hevents (by simp)
  cases (captured x o w).2 with
  | false => simpa [State.raiseIf] using h
  | true =>
    refine raised_mem (raised_cons h .tableClamp) fun i => ?_
    cases clamped <;> simp

end Sys2Proof.Safety
end

section
/-! The rows of Control Capture that place one beat: table words, staging and settings, malformed and unknown commands,
and RELOAD (R136, R139, R141, R144 to R147). -/

namespace Sys2Proof.Safety

open Machine

variable {s t u : State} {dt left : Nat} {b : Beat} {hold : Timer} {rest : List Beat} {x : TableUnit} {o : Nat}

/-! ## A beat stored, and what its row does beside (R40) -/

theorem taken_keeps (s : State) (dt : Nat) (b : Beat) (left : Nat) (hold : Timer) (rest : List Beat) :
    Keeps [.queue, .store, .sc] s (taken s dt b left hold rest) := (placed_store s).2.2

/-- A row that takes no time of its own, and leaves the queue, the store and its controller. -/
theorem placed_of_keeps {l : List Block} (hnow : t.now = s.now + dt) (h : Keeps l (taken s dt b left hold rest) t)
    (hl : .queue ∉ l ∧ .sc ∉ l ∧ .store ∉ l ∧ .powerOns ∉ l) : Placed s t dt b left hold rest l := by
  obtain ⟨hqueue, hsc, hstore, hpower⟩ := hl
  refine ⟨⟨hnow, h .queue hqueue, h .sc hsc⟩, ⟨h .powerOns hpower, fun cell => ?_⟩, ?_⟩
  · rw [h .store hstore cell]
    exact storeByte_storeBeat _ b cell
  · exact ((taken_keeps s dt b left hold rest).mono (by simp)).trans (h.mono (by intro k hk; simp [hk]))

theorem taken_inUse (s : State) (dt : Nat) (b : Beat) (left : Nat) (hold : Timer) (rest : List Beat) (x : TableUnit) :
    (taken s dt b left hold rest).inUse x = s.inUse x := by cases x <;> rfl

/-! ## Table words (R136, R137, R141) -/

/-- A word with neither low byte enabled, or of a unit that is STALE or EMPTY, is stored and no more. -/
theorem tableWord_ignored (h : (b.enables.getLsbD 0 || b.enables.getLsbD 1) = false ∨ s.tableState x = .stale
    ∨ s.tableState x = .empty) : s.tableWord x o b = s := by
  unfold State.tableWord
  dsimp only
  split
  · rfl
  · rename_i hlow
    obtain h | h | h := h
    · exact absurd (by rw [← Bool.not_or, h]; rfl) hlow
    · rw [h]
    · rw [h]

theorem tableWord_loading (hlow : (b.enables.getLsbD 0 || b.enables.getLsbD 1) = true)
    (h : s.tableState x = .loading) : s.tableWord x o b = s.disturb := by
  unfold State.tableWord
  dsimp only
  rw [if_neg (by rw [← Bool.not_or, hlow]; decide), h]

theorem tableWord_stales (hlow : (b.enables.getLsbD 0 || b.enables.getLsbD 1) = true) (h : s.tableState x = .valid)
    (huse : (b.enables.getLsbD 0 && b.enables.getLsbD 1) = false ∨ s.inUse x = true) :
    s.tableWord x o b = (s.setTable x .stale).raise .tableStale := by
  unfold State.tableWord
  dsimp only
  rw [if_neg (by rw [← Bool.not_or, hlow]; decide), h]
  dsimp only
  rw [if_neg]
  obtain huse | huse := huse
  · rw [huse]; nofun
  · rw [huse, Bool.not_true, Bool.and_false]; nofun

theorem tableWord_captures (hboth : (b.enables.getLsbD 0 && b.enables.getLsbD 1) = true)
    (h : s.tableState x = .valid) (huse : s.inUse x = false) : s.tableWord x o b = s.capture x o b.data := by
  obtain ⟨hlow, hhigh⟩ := Bool.and_eq_true_iff.1 hboth
  simp [State.tableWord, hlow, hhigh, h, huse]

theorem tableWord_keeps (s : State) (x : TableUnit) (o : Nat) (b : Beat) :
    Keeps [.control, .events, .monitor] s (s.tableWord x o b) := by
  simp only [State.tableWord]
  repeat' split
  all_goals apply keeps_of <;> simp [State.disturb]

theorem tableWord_now (s : State) (x : TableUnit) (o : Nat) (b : Beat) : (s.tableWord x o b).now = s.now := by
  simp only [State.tableWord]
  repeat' split
  all_goals simp [State.disturb]

theorem exec_tableWordWrite (h : Placing s dt b left hold rest) (hb : ControlBeat s b (x.area + o))
    (ho : x.isEntry o = true) :
    exec (.tableWordWrite dt) s = .next ((taken s dt b left hold rest).tableWord x o b) := by
  show execTableWordWrite dt s = _
  have hkind : s.classify b = .entry x o := by
    rw [classify_control hb, controlKind, (areaOf_entry _ x o).2 ⟨rfl, ho⟩]
  exact place_kind h hkind rfl

/-- Settles O21: the state and the use of the unit and the low enables choose the branch of `tableWord`. -/
theorem tableWordsAreCapturedOrMakeStale : Obligations.TableWordsAreCapturedOrMakeStale := by
  unfold Obligations.TableWordsAreCapturedOrMakeStale
  rintro dt s b left hold rest x o _ _ h hb ho hwf rfl rfl
  have huse : (taken s dt b left hold rest).inUse x = s.inUse x := taken_inUse ..
  have hcontrol : (taken s dt b left hold rest).control = s.control := rfl
  have hevents : (taken s dt b left hold rest).events = s.events := rfl
  have hmonitor : (taken s dt b left hold rest).monitor = s.monitor := rfl
  have hstate : (taken s dt b left hold rest).tableState x = s.tableState x := rfl
  have hplaced : Placed s ((taken s dt b left hold rest).tableWord x o b) dt b left hold rest
      [.control, .events, .monitor] := placed_of_keeps (tableWord_now ..) (tableWord_keeps _ x o b) (by decide)
  refine ⟨_, exec_tableWordWrite h hb ho, hplaced, fun hcase => ?_, fun hlow hload => ?_,
    fun hlow hvalid hcase => ?_, fun hboth hvalid hfree => ?_⟩
  all_goals
    clear hplaced
    generalize taken s dt b left hold rest = v at *
  · rw [tableWord_ignored (hstate ▸ hcase)]
    exact ⟨hcontrol, hevents, hmonitor⟩
  · rw [tableWord_loading hlow (hstate.trans hload)]
    exact ⟨by simp [State.disturb, hcontrol], hevents, hmonitor⟩
  · rw [tableWord_stales hlow (hstate.trans hvalid) (huse ▸ hcase)]
    have hraised : Raised [.tableStale] s ((v.setTable x .stale).raise .tableStale) :=
      raised_cons (raised_nil (by simp [hevents])) _
    exact ⟨by simp [State.setTable, hcontrol], hraised, by simp [hmonitor]⟩
  · rw [tableWord_captures hboth (hstate.trans hvalid) (huse.trans hfree)]
    have hcanonical : Canonical v.control.shadows := hcontrol ▸ hwf
    have hraised := capture_raised x o b.data (clamped := false) (raised_nil hevents)
    refine ⟨by rw [capture_control, hcontrol], fun y p _ => ?_, by simpa [captured] using hraised, ?_, fun m e => ?_⟩
    · rw [capture_entry hcanonical, hcontrol]
      rfl
    · rw [capture_eq, hmonitor]
    · rw [capture_harmAt, harmAt_congr hmonitor]
      exact ⟨fun hplace => if_pos hplace, fun hplace => if_neg hplace⟩

/-! ## Staging and settings (R144, R145, R173, R175, R179) -/

theorem byteOf_mergeWord (old new : Word) (en : Enables) {i : Nat} (hi : i < 4) :
    byteOf (mergeWord old new en) i = if en.getLsbD i = true then byteOf new i else byteOf old i := by
  unfold mergeWord
  dsimp only
  have hjoin := fun b3 b2 b1 b0 : Byte => byteOf_joinBytes b3 b2 b1 b0
  match i, hi with
  | 0, _ => exact (hjoin ..).2.2.2
  | 1, _ => exact (hjoin ..).2.2.1
  | 2, _ => exact (hjoin ..).2.1
  | 3, _ => exact (hjoin ..).1

/-- The enabled bytes go into the one word of the copy, or into none (R144). -/
theorem byteOf_mergeAt {m : Nat} (v : Vector Word m) (k : Nat) (b : Beat) (j : Fin m) {i : Nat} (hi : i < 4) :
    byteOf (mergeAt v k b)[j] i =
      if j.val = k ∧ b.enables.getLsbD i = true then byteOf b.data i else byteOf v[j] i := by
  by_cases hjk : j.val = k
  · subst hjk
    simp [mergeAt, byteOf_mergeWord _ _ _ hi]
  · rw [if_neg fun h => hjk h.1]
    unfold mergeAt
    split_ifs
    · rw [Fin.getElem_fin, Vector.getElem_set_ne _ _ (Ne.symm hjk)]
      rfl
    · rfl

/-- A change of Control Capture alone. -/
theorem placed_setControl (c : ControlCapture) :
    Placed s ((taken s dt b left hold rest).setControl c) dt b left hold rest [.control] :=
  placed_of_keeps rfl (by apply keeps_of <;> simp) (by decide)

theorem setEventWord_control (s : State) (k : Fin 5) (c : Beat) : (s.setEventWord k c).control
    = { s.control with eventWords := mergeAt s.control.eventWords k.val c } := by
  simp [State.setEventWord]

/-- The event settings merged: the settings and the sticky bits change (R145, R173). -/
theorem placed_setEventWord (k : Fin 5) (c : Beat) :
    Placed s ((taken s dt b left hold rest).setEventWord k c) dt b left hold rest [.control, .events] :=
  placed_of_keeps (by simp [State.setEventWord]) (by apply keeps_of <;> simp [State.setEventWord, State.storeByte])
    (by decide)

/-- A level source found true in LEVEL mode sets its sticky bit at once (R173, R175). -/
theorem stuck_setEventWord (s : State) (k : Fin 5) (c : Beat) (i : Source) : (s.setEventWord k c).stuck i = true
    ↔ s.stuck i = true ∨ i.isLevel = true ∧ (s.setEventWord k c).mode i = .level ∧ s.raw i = true := by
  have hmode : (s.setEventWord k c).mode i
      = (s.setControl { s.control with eventWords := mergeAt s.control.eventWords k.val c }).mode i := by
    simp [State.mode, State.setEventWord]
  rw [hmode, State.setEventWord, stuck_resample]
  simp [State.raw, and_assoc]

/-- Settles O23: each row merges into the one word its area names; the words +7 and up of a staging area are merged
into none. -/
theorem stagingAndSettingsAreMergedByByte : Obligations.StagingAndSettingsAreMergedByByte := by
  unfold Obligations.StagingAndSettingsAreMergedByByte
  refine fun dt s b left hold rest h => ⟨fun n k hb => ?_, fun k hb => ?_, fun k hb => ?_, fun k hb => ?_⟩
  · have hkind : s.classify b = .descriptor n k := by
      rw [classify_control hb, controlKind, (areaOf_iff _ _).2 (.descriptor n k rfl)]
    show ∃ t, execStagingWrite dt s = .next t ∧ _
    refine ⟨_, place_kind h hkind rfl, placed_setControl _, rfl, fun m j i hi => ?_⟩
    show byteOf ((s.control.staging.set n (mergeAt s.control.staging[n] k b))[m])[j] i = _
    by_cases hm : m = n
    · subst hm
      simpa using byteOf_mergeAt s.control.staging[m] k b j hi
    · rw [if_neg fun hcase => hm hcase.1, Fin.getElem_fin s.control.staging,
        Fin.getElem_fin (s.control.staging.set ..), Vector.getElem_set_ne _ _ fun heq => hm (Fin.ext heq.symm)]
      rfl
  · have hkind : s.classify b = .scanStaging k := by
      rw [classify_control hb, controlKind, (areaOf_iff _ _).2 (.scanStaging k rfl)]
    show ∃ t, execStagingWrite dt s = .next t ∧ _
    exact ⟨_, place_kind h hkind rfl, placed_setControl _, rfl, fun j i hi => byteOf_mergeAt _ k b j hi⟩
  · have hkind : s.classify b = .eventSetting k := by
      rw [classify_control hb, controlKind, (areaOf_iff _ _).2 (.eventSetting k rfl)]
    show ∃ t, execEventSettingsWrite dt s = .next t ∧ _
    have hcontrol := setEventWord_control (taken s dt b left hold rest) k b
    refine ⟨_, place_kind h hkind rfl, placed_setEventWord k b, ?_, fun j i hi => ?_, ?_, fun i => ?_⟩
    · rw [← taken, hcontrol]
      rfl
    · have hmerged := byteOf_mergeAt s.control.eventWords k b j hi
      simp only [← Fin.ext_iff] at hmerged
      rw [← taken, hcontrol]
      exact hmerged
    · exact resample_events _
    · exact stuck_setEventWord _ k b i
  · have hkind : s.classify b = .auxFunction k := by
      rw [classify_control hb, controlKind, (areaOf_iff _ _).2 (.auxFunction k rfl)]
    show ∃ t, execAuxFunctionWrite dt s = .next t ∧ _
    refine ⟨_, place_kind h hkind rfl, placed_setControl _, rfl, fun j i hi => ?_⟩
    have hmerged := byteOf_mergeAt s.control.auxWords k b j hi
    simp only [← Fin.ext_iff] at hmerged
    exact hmerged

/-! ## Malformed and unknown commands (R146, R147) -/

theorem recordCommand_control (s : State) (opcode target : Byte) (outcome : CmdOutcome) :
    (s.recordCommand opcode target outcome).control = { s.control with
      command := ⟨(s.control.command.count + 1) % 65536, opcode, target, outcome⟩ } := by
  simp [State.recordCommand]

theorem recordCommand_keeps (s : State) (opcode target : Byte) (outcome : CmdOutcome) :
    Keeps [.control, .events] s (s.recordCommand opcode target outcome) := by
  apply keeps_of <;> simp

/-- An opcode of no command is unknown (section 11.4). -/
theorem ofOpcode_none {op : Nat}
    (h : op ∉ [0x01, 0x02, 0x03, 0x04, 0x10, 0x20, 0x21, 0x22, 0x30, 0x31, 0x40, 0x50, 0x51]) :
    Cmd.ofOpcode op = none := by
  unfold Cmd.ofOpcode
  split
  pick_goal 14
  · rfl
  all_goals exact absurd (by decide) h

/-- Settles O24: both rows are a record and no effect. -/
theorem malformedAndUnknownCommandsAreRecorded : Obligations.MalformedAndUnknownCommandsAreRecorded := by
  unfold Obligations.MalformedAndUnknownCommandsAreRecorded
  refine fun dt s b left hold rest h hb => ⟨fun he => ?_, fun he hop => ?_⟩
  · have hkind : s.classify b = .malformed := by
      rw [classify_control hb, controlKind, (areaOf_iff _ _).2 (.command rfl)]
      exact if_neg he
    show ∃ t, execMalformedCommand dt s = .next t ∧ _
    refine ⟨_, place_kind h hkind rfl, ?_, raised_record (raised_nil rfl) _ _ _, recordCommand_control _ _ _ _⟩
    exact placed_of_keeps (by simp; rfl) (recordCommand_keeps _ _ _ _) (by decide)
  · have hkind : s.classify b = .unknown := by
      rw [classify_control hb, controlKind, (areaOf_iff _ _).2 (.command rfl)]
      simp only [commandKind, he, if_true, field08, ofOpcode_none hop]
    show ∃ t, execUnknownCommand dt s = .next t ∧ _
    exact ⟨_, place_kind h hkind rfl, refused_of .unknown⟩

/-! ## RELOAD (R135, R139) -/

theorem cmdTable_range (h : 3 < cmdTarget b.data) : cmdTable b.data = none := by
  unfold cmdTable
  split <;> first | omega | rfl

theorem cmdTable_code (h : cmdTarget b.data = x.code) : cmdTable b.data = some x := by
  unfold cmdTable
  rw [h]
  cases x <;> rfl

theorem reloadTable_range (ht : cmdTable b.data = none) : s.reloadTable b.data = (s, .range) := by
  simp [State.reloadTable, ht]

theorem reloadTable_busy (ht : cmdTable b.data = some x) (h : s.control.reload.inFlight = true) :
    s.reloadTable b.data = (s, .busy) := by
  simp [State.reloadTable, ht, h]

theorem reloadTable_inUse (ht : cmdTable b.data = some x) (h : s.control.reload.inFlight = false)
    (huse : s.inUse x = true) : s.reloadTable b.data = (s, .inUse) := by
  simp [State.reloadTable, ht, h, huse]

theorem reloadTable_starts (ht : cmdTable b.data = some x) (h : s.control.reload.inFlight = false)
    (huse : s.inUse x = false) : s.reloadTable b.data = (s.startReload x, .started) := by
  simp [State.reloadTable, ht, h, huse]

/-- A table state after one was replaced. -/
theorem tables_get_put (y : TableStates) (x v : TableUnit) (c : TableState) :
    (y.put x c).get v = if v = x then c else y.get v := by
  cases x <;> cases v <;> rfl

/-- Settles O29: the target, the reload in flight and the use of the unit are checked in this order. -/
theorem reloadIsTakenOrRefused : Obligations.ReloadIsTakenOrRefused := by
  unfold Obligations.ReloadIsTakenOrRefused
  refine ⟨fun s => ⟨decide_eq_true_iff, decide_eq_true_iff, rfl, rfl⟩, fun dt s b left hold rest target h => ?_⟩
  obtain ⟨-, -, -, -, hfield⟩ := id h
  have htarget : cmdTarget b.data = target := by rw [cmdTarget, field88]; exact hfield
  have huse (x : TableUnit) := taken_inUse s dt b left hold rest x
  show (_ → ∃ t, execReload dt s = .next t ∧ _) ∧ ∀ x, _ → (_ → ∃ t, execReload dt s = .next t ∧ _)
    ∧ (_ → _ → ∃ t, execReload dt s = .next t ∧ _) ∧ (_ → _ → ∃ t, execReload dt s = .next t ∧ _)
  refine ⟨fun hrange => ?_, fun x hx => ?_⟩
  · have htable : cmdTable b.data = none := cmdTable_range (htarget ▸ hrange)
    exact ⟨_, run_eq' h rfl (reloadTable_range htable), refused_of .range⟩
  have htable : cmdTable b.data = some x := cmdTable_code (htarget.trans hx)
  refine ⟨fun hbusy => ?_, fun hidle hused => ?_, fun hidle hfree => ?_⟩
  · exact ⟨_, run_eq' h rfl (reloadTable_busy htable hbusy), refused_of .busy⟩
  · exact ⟨_, run_eq' h rfl (reloadTable_inUse htable hidle ((huse x).trans hused)), refused_of .inUse⟩
  · have hkeeps : Keeps [.control, .events] (taken s dt b left hold rest)
        ((taken s dt b left hold rest).startReload x) := by
      apply keeps_of <;> simp [State.startReload]
    have hrecorded := recorded_of (o := .started) (blocks := []) hkeeps rfl rfl rfl rfl (hkeeps .store (by decide)) rfl
    have hcontrol := recordCommand_control ((taken s dt b left hold rest).startReload x) (b.data.extractLsb' 0 8)
      (b.data.extractLsb' 8 8) .started
    refine ⟨_, run_eq' h rfl (reloadTable_starts htable hidle ((huse x).trans hfree)),
      ⟨hrecorded, raised_record (raised_nil rfl) _ _ _⟩, by rw [hcontrol]; rfl, ?_, fun v hv => ?_⟩
    · rw [State.tableState, hcontrol]
      exact (tables_get_put _ x x .loading).trans (if_pos rfl)
    · rw [State.tableState, hcontrol]
      exact (tables_get_put _ x v .loading).trans (if_neg hv)

end Sys2Proof.Safety
end

section
/-! RELOAD_SEGMENT_DONE: the entries a segment captures, and the end of the reload (R136, R137, R140, R142). -/

namespace Sys2Proof.Safety

open Machine

variable {s t : State} {dt first len : Nat} {hold : Timer} {u : TableUnit}

/-! ## The words of a segment (R140) -/

/-- The store word of entry `o` of unit `u`'s area (R133). -/
def entryWord (s : State) (u : TableUnit) (o : Nat) : Word := s.loadWord (s.controlBase + u.area + o)

theorem reloadWord_eq (s : State) (u : TableUnit) (o : Nat) : s.reloadWord u o = { s with
    control := { s.control with shadows := (s.reloadWord u o).control.shadows }
    monitor := { s.monitor with damage := (s.reloadWord u o).monitor.damage }
    events := (s.reloadWord u o).events } := by
  unfold State.reloadWord
  split
  · rw [capture_eq]
  · rfl

theorem reloadWords_snoc (s : State) (u : TableUnit) (first len : Nat) :
    s.reloadWords u first (len + 1) = (s.reloadWords u first len).reloadWord u (first + len) := by
  simp [State.reloadWords, List.range_succ]

/-- The words of a segment change the shadows, the damage marks and the events alone. -/
theorem reloadWords_eq (s : State) (u : TableUnit) (first len : Nat) : s.reloadWords u first len = { s with
    control := { s.control with shadows := (s.reloadWords u first len).control.shadows }
    monitor := { s.monitor with damage := (s.reloadWords u first len).monitor.damage }
    events := (s.reloadWords u first len).events } := by
  induction len with
  | zero => rfl
  | succ len ih =>
    rw [reloadWords_snoc, reloadWord_eq, ih]

/-- An entry word is captured from the store, a gap word ignored. -/
theorem reloadWords_succ (s : State) (u : TableUnit) (first len : Nat) : s.reloadWords u first (len + 1) =
    if u.isEntry (first + len) = true then
      (s.reloadWords u first len).capture u (first + len) (entryWord s u (first + len))
    else s.reloadWords u first len := by
  have hword : entryWord (s.reloadWords u first len) u (first + len) = entryWord s u (first + len) := by
    rw [reloadWords_eq]
    rfl
  rw [reloadWords_snoc, ← hword]
  rfl

theorem reloadWords_canonical (h : Canonical s.control.shadows) (u : TableUnit) (first len : Nat) :
    Canonical (s.reloadWords u first len).control.shadows := by
  induction len with
  | zero => exact h
  | succ len ih =>
    rw [reloadWords_succ]
    split
    · exact capture_canonical ih _ _ _
    · exact ih

/-- A reload leaves the shadows of every other unit. -/
theorem reloadWords_other {m : Mem} (hm : unitOf m ≠ some u) (s : State) (first len : Nat) :
    (s.reloadWords u first len).control.shadows.get m = s.control.shadows.get m := by
  induction len with
  | zero => rfl
  | succ len ih =>
    rw [reloadWords_succ]
    split
    · rw [capture_other hm, ih]
    · exact ih

/-- Each entry word of the segment holds its captured value, every other entry word what it held (R136, R137). -/
theorem reloadWords_entry (h : Canonical s.control.shadows) (u : TableUnit) (first len : Nat) (v : TableUnit) (o : Nat)
    (ho : v.isEntry o = true) :
    zeroGet ((s.reloadWords u first len).control.shadows.get (entryPlace v o).1) (entryPlace v o).2 =
      if v = u ∧ first ≤ o ∧ o < first + len then (captured u o (entryWord s u o)).1
      else zeroGet (s.control.shadows.get (entryPlace v o).1) (entryPlace v o).2 := by
  induction len with
  | zero => rw [if_neg (by omega)]; rfl
  | succ len ih =>
    rw [reloadWords_succ]
    by_cases hlast : v = u ∧ o = first + len
    · obtain ⟨rfl, rfl⟩ := hlast
      rw [if_pos ho, capture_entry (reloadWords_canonical h _ _ _), if_pos ⟨rfl, rfl⟩, if_pos ⟨rfl, by omega, by omega⟩]
    · have hrange : (v = u ∧ first ≤ o ∧ o < first + (len + 1)) ↔ v = u ∧ first ≤ o ∧ o < first + len :=
        and_congr_right fun hv => by
          have hne : o ≠ first + len := fun ho => hlast ⟨hv, ho⟩
          omega
      simp only [hrange, ← ih]
      split
      · rw [capture_entry (reloadWords_canonical h _ _ _), if_neg hlast]
      · rfl

/-- The entries written carry fresh check bits; every other entry keeps its harm (R162). -/
theorem reloadWords_refreshed (s : State) (u : TableUnit) (first len : Nat) :
    Refreshed (fun m e => ∃ o, first ≤ o ∧ o < first + len ∧ u.isEntry o = true ∧ entryPlace u o = (m, e)) s
      (s.reloadWords u first len) := by
  refine ⟨by rw [reloadWords_eq], fun m e => ?_⟩
  induction len with
  | zero => exact ⟨fun ⟨o, hlow, hhigh, _⟩ => by omega, fun _ => rfl⟩
  | succ len ih =>
    obtain ⟨hin, hout⟩ := ih
    rw [reloadWords_succ]
    split
    · rename_i hentry
      rw [capture_harmAt]
      refine ⟨fun ⟨o, hlow, hhigh, ho, hplace⟩ => ?_, fun hnot => ?_⟩
      · split
        · rfl
        · rename_i hother
          have hne : o ≠ first + len := fun heq => hother (heq ▸ hplace)
          exact hin ⟨o, hlow, by omega, ho, hplace⟩
      · rw [if_neg fun hplace => hnot ⟨_, by omega, by omega, hentry, hplace⟩]
        exact hout fun ⟨o, hlow, hhigh, ho, hplace⟩ => hnot ⟨o, hlow, by omega, ho, hplace⟩
    · rename_i hgap
      refine ⟨fun ⟨o, hlow, hhigh, ho, hplace⟩ => ?_, fun hnot => ?_⟩
      · have hne : o ≠ first + len := fun heq => hgap (heq ▸ ho)
        exact hin ⟨o, hlow, by omega, ho, hplace⟩
      · exact hout fun ⟨o, hlow, hhigh, ho, hplace⟩ => hnot ⟨o, hlow, by omega, ho, hplace⟩

/-- Some entry word of the segment was clamped (R137). -/
def clampedIn (s : State) (u : TableUnit) (first : Nat) : Nat → Bool
  | 0 => false
  | len + 1 => clampedIn s u first len
      || (u.isEntry (first + len) && (captured u (first + len) (entryWord s u (first + len))).2)

theorem clampedIn_iff (s : State) (u : TableUnit) (first len : Nat) : clampedIn s u first len = true ↔
    ∃ o, first ≤ o ∧ o < first + len ∧ u.isEntry o = true ∧ (captured u o (entryWord s u o)).2 = true := by
  induction len with
  | zero => exact ⟨nofun, fun ⟨o, hlow, hhigh, _⟩ => by omega⟩
  | succ len ih =>
    rw [clampedIn, Bool.or_eq_true, Bool.and_eq_true, ih]
    constructor
    · rintro (⟨o, hlow, hhigh, ho⟩ | ho)
      · exact ⟨o, hlow, by omega, ho⟩
      · exact ⟨first + len, by omega, by omega, ho⟩
    · rintro ⟨o, hlow, hhigh, ho⟩
      obtain rfl | hne := eq_or_ne o (first + len)
      · exact .inr ho
      · exact .inl ⟨o, hlow, by omega, ho⟩

/-- TABLE_CLAMP is raised for a clamped entry of the segment, and no other source. -/
theorem reloadWords_raised (s : State) (u : TableUnit) (first len : Nat) :
    Raised (if clampedIn s u first len then [.tableClamp] else []) s (s.reloadWords u first len) := by
  induction len with
  | zero => exact raised_nil rfl
  | succ len ih =>
    rw [reloadWords_succ, clampedIn]
    by_cases hentry : u.isEntry (first + len) = true
    · rw [if_pos hentry, hentry, Bool.true_and]
      exact capture_raised _ _ _ ih
    · rw [if_neg hentry, Bool.eq_false_iff.2 hentry, Bool.false_and, Bool.or_false]
      exact ih

/-! ## The end of a segment (R140, R142) -/

/-- The state and the outcome a reload ends with, by its disturbed mark (R142). -/
def endedControl (c : ControlCapture) (u : TableUnit) (len : Nat) : ControlCapture := { c with
  tables := c.tables.put u (if c.reload.disturbed then .stale else .valid)
  reload := { c.reload with
    progress := c.reload.progress + len, inFlight := false
    outcome := if c.reload.disturbed then .disturbed else .done } }

theorem advanceReload_last (h : s.control.reload.progress + len = u.span) :
    s.advanceReload u len = (s.setControl (endedControl s.control u len)).raise .commandDone := by
  unfold State.advanceReload
  dsimp only
  rw [if_pos h]
  rfl

theorem advanceReload_more (h : s.control.reload.progress + len ≠ u.span) : s.advanceReload u len = s.setControl
    { s.control with reload := { s.control.reload with progress := s.control.reload.progress + len } } := by
  unfold State.advanceReload
  dsimp only
  rw [if_neg h]

/-- The end of a segment changes the table states, the reload record and the events alone. -/
theorem advanceReload_eq (s : State) (u : TableUnit) (len : Nat) : s.advanceReload u len = { s with
    control := { s.control with
      tables := (s.advanceReload u len).control.tables, reload := (s.advanceReload u len).control.reload }
    events := (s.advanceReload u len).events } := by
  by_cases h : s.control.reload.progress + len = u.span
  · rw [advanceReload_last h]
    rfl
  · rw [advanceReload_more h]
    rfl

/-- COMMAND_DONE is raised at the end of the reload (R142). -/
theorem advanceReload_raised (s : State) (u : TableUnit) (len : Nat) :
    Raised (if s.control.reload.progress + len = u.span then [.commandDone] else []) s (s.advanceReload u len) := by
  split
  · rename_i h
    rw [advanceReload_last h]
    exact raised_cons (raised_nil rfl) _
  · rename_i h
    rw [advanceReload_more h]
    exact raised_nil rfl

/-! ## RELOAD_SEGMENT_DONE -/

/-- The part after a wanted segment, before the next grant decision. -/
def reloadTaken (s : State) (v : Tick) (u : TableUnit) (first len : Nat) : State :=
  ((s.setNow v).reloadWords u first len).advanceReload u len

/-- What the segment changes: the tick, the shadows, tables and record, the damage marks and the events. -/
theorem reloadTaken_eq (s : State) (v : Tick) (u : TableUnit) (first len : Nat) :
    reloadTaken s v u first len = { s with
      now := v
      control := { s.control with
        shadows := (reloadTaken s v u first len).control.shadows
        tables := (reloadTaken s v u first len).control.tables
        reload := (reloadTaken s v u first len).control.reload }
      monitor := { s.monitor with damage := (reloadTaken s v u first len).monitor.damage }
      events := (reloadTaken s v u first len).events } := by
  rw [reloadTaken, advanceReload_eq, reloadWords_eq]
  rfl

theorem reloadTaken_shadows (s : State) (v : Tick) (u : TableUnit) (first len : Nat) :
    (reloadTaken s v u first len).control.shadows = ((s.setNow v).reloadWords u first len).control.shadows := by
  rw [reloadTaken, advanceReload_eq]

/-- `Refreshed` looks at the monitor of the second state alone. -/
theorem refreshed_congr {p : Mem → Nat → Prop} {w : State} (h : Refreshed p s t) (hm : w.monitor = t.monitor) :
    Refreshed p s w := by
  unfold Refreshed State.harmAt at h ⊢
  rwa [hm]

theorem reloadTaken_refreshed (s : State) (v : Tick) (u : TableUnit) (first len : Nat) :
    Refreshed (fun m e => ∃ o, first ≤ o ∧ o < first + len ∧ u.isEntry o = true ∧ entryPlace u o = (m, e)) s
      (reloadTaken s v u first len) :=
  refreshed_congr (reloadWords_refreshed (s.setNow v) u first len) (by rw [reloadTaken, advanceReload_eq])

theorem reloadTaken_entry (h : Canonical s.control.shadows) (v : Tick) (u : TableUnit) (first len : Nat)
    (y : TableUnit) (o : Nat) (ho : y.isEntry o = true) :
    zeroGet ((reloadTaken s v u first len).control.shadows.get (entryPlace y o).1) (entryPlace y o).2 =
      if y = u ∧ first ≤ o ∧ o < first + len then (captured u o (entryWord s u o)).1
      else zeroGet (s.control.shadows.get (entryPlace y o).1) (entryPlace y o).2 := by
  rw [reloadTaken_shadows]
  exact reloadWords_entry (s := s.setNow v) h u first len y o ho

/-- The words of a segment leave the table states and the record. -/
theorem reloadWords_reload (s : State) (v : Tick) (u : TableUnit) (first len : Nat) :
    ((s.setNow v).reloadWords u first len).control.reload = s.control.reload
      ∧ ((s.setNow v).reloadWords u first len).control.tables = s.control.tables := by
  rw [reloadWords_eq]
  exact ⟨rfl, rfl⟩

theorem reloadTaken_raised (s : State) (v : Tick) (u : TableUnit) (first len : Nat) :
    Raised ((if clampedIn s u first len then [.tableClamp] else [])
        ++ (if s.control.reload.progress + len = u.span then [.commandDone] else [])) s
      (reloadTaken s v u first len) := by
  have hclamped : clampedIn (s.setNow v) u first len = clampedIn s u first len := by
    rw [Bool.eq_iff_iff, clampedIn_iff, clampedIn_iff]
    rfl
  have hwords := reloadWords_raised (s.setNow v) u first len
  have hend := advanceReload_raised ((s.setNow v).reloadWords u first len) u len
  have hnow : (reloadTaken s v u first len).now = ((s.setNow v).reloadWords u first len).now := by
    rw [reloadTaken, advanceReload_eq]
  rw [hclamped] at hwords
  rw [(reloadWords_reload s v u first len).1] at hend
  refine raised_mem (raised_append (raised_from hwords rfl) hend hnow) fun i => ?_
  rw [List.mem_append, List.mem_append, or_comm]

/-- What the last segment, and every other, makes of the table states and the record (R142, log 30). -/
theorem reloadTaken_control (s : State) (v : Tick) (u : TableUnit) (first len : Nat) :
    (s.control.reload.progress + len = u.span →
        (reloadTaken s v u first len).control = { endedControl s.control u len with
          shadows := (reloadTaken s v u first len).control.shadows })
      ∧ (s.control.reload.progress + len ≠ u.span →
        (reloadTaken s v u first len).control = { s.control with
          shadows := (reloadTaken s v u first len).control.shadows
          reload := { s.control.reload with progress := s.control.reload.progress + len } }) := by
  have hreload := (reloadWords_reload s v u first len).1
  refine ⟨fun h => ?_, fun h => ?_⟩
  · rw [reloadTaken, advanceReload_last (by rw [hreload, h]), reloadWords_eq]
    rfl
  · rw [reloadTaken, advanceReload_more (by rwa [hreload]), reloadWords_eq]
    rfl

/-- The progress rises by the length; the unit of the reload and its disturbed mark stay (R140, log 30). -/
theorem reloadTaken_record (s : State) (v : Tick) (u : TableUnit) (first len : Nat) :
    (reloadTaken s v u first len).control.reload.progress = s.control.reload.progress + len
      ∧ (reloadTaken s v u first len).control.reload.table = s.control.reload.table
      ∧ (reloadTaken s v u first len).control.reload.disturbed = s.control.reload.disturbed := by
  obtain ⟨hlast, hmore⟩ := reloadTaken_control s v u first len
  by_cases h : s.control.reload.progress + len = u.span
  · rw [hlast h]
    exact ⟨rfl, rfl, rfl⟩
  · rw [hmore h]
    exact ⟨rfl, rfl, rfl⟩

/-- The table states once the reload ends, and before (R142). -/
theorem reloadTaken_tableState (s : State) (v : Tick) (u : TableUnit) (first len : Nat) (y : TableUnit) :
    (reloadTaken s v u first len).tableState y =
      if y = u ∧ s.control.reload.progress + len = u.span then
        if s.control.reload.disturbed then .stale else .valid
      else s.tableState y := by
  obtain ⟨hlast, hmore⟩ := reloadTaken_control s v u first len
  by_cases h : s.control.reload.progress + len = u.span
  · rw [State.tableState, hlast h]
    simp only [h, and_true]
    exact tables_get_put s.control.tables u y _
  · rw [State.tableState, hmore h, if_neg fun hboth => h hboth.2]
    rfl

/-- The row of a wanted segment (R140). -/
theorem exec_reloadSegmentDone (hm : s.mayReach (s.now + dt) = true)
    (hgrant : s.sc.grant = some ⟨.reload u first len true, hold⟩)
    (hin : s.controlBase + u.area + first + len ≤ s.storeWords) :
    exec (.reloadSegmentDone dt) s = .next (reloadTaken s (s.now + dt) u first len).endUnit := by
  show execReloadSegmentDone dt s = _
  rw [execReloadSegmentDone, State.after_of_mayReach s dt _ hm]
  simp only [State.setNow_sc, hgrant, if_true]
  exact if_neg (Nat.not_lt.2 hin)

/-- The row of a segment a bridge reset has disowned (R143). -/
theorem exec_reloadSegmentDone_disowned (hm : s.mayReach (s.now + dt) = true)
    (hgrant : s.sc.grant = some ⟨.reload u first len false, hold⟩) :
    exec (.reloadSegmentDone dt) s = .next (s.setNow (s.now + dt)).endUnit := by
  show execReloadSegmentDone dt s = _
  rw [execReloadSegmentDone, State.after_of_mayReach s dt _ hm]
  simp only [State.setNow_sc, hgrant]
  rfl

/-- A step of RELOAD_SEGMENT_DONE is one of the two rows. -/
theorem reloadSegmentDone_next (h : exec (.reloadSegmentDone dt) s = .next t) :
    (∃ u first len hold, s.sc.grant = some ⟨.reload u first len true, hold⟩
        ∧ t = (reloadTaken s (s.now + dt) u first len).endUnit)
      ∨ ∃ u first len hold, s.sc.grant = some ⟨.reload u first len false, hold⟩
        ∧ t = (s.setNow (s.now + dt)).endUnit := by
  have hrow : execReloadSegmentDone dt s = .next t := h
  unfold execReloadSegmentDone at hrow
  obtain ⟨-, hbody⟩ := State.after_next hrow
  simp only [State.setNow_sc] at hbody
  split at hbody
  · rename_i u first len wanted hold hgrant
    cases wanted with
    | true =>
      rw [if_pos rfl] at hbody
      split_ifs at hbody
      exact .inl ⟨u, first, len, hold, hgrant, (Host.Outcome.next.inj hbody).symm⟩
    | false => exact .inr ⟨u, first, len, hold, hgrant, (Host.Outcome.next.inj hbody).symm⟩
  · cases hbody

/-- Settles O15: the words of the segment are captured in order, the record moves on, and the store is then free. -/
theorem reloadSegmentCapturesItsEntries : Obligations.ReloadSegmentCapturesItsEntries := by
  unfold Obligations.ReloadSegmentCapturesItsEntries
  refine ⟨fun dt s u first len wanted hold hm hgrant => ⟨?_, ?_⟩, fun dt s t u first len hold hgrant hstep => ?_⟩
  · rintro rfl
    exact exec_reloadSegmentDone_disowned hm hgrant
  · rintro rfl _ hin hwf
    refine ⟨_, exec_reloadSegmentDone hm hgrant hin, ?_⟩
    have hblocks := reloadTaken_eq s (s.now + dt) u first len
    have hraised := reloadTaken_raised s (s.now + dt) u first len
    have hrefreshed := reloadTaken_refreshed s (s.now + dt) u first len
    have hentry := reloadTaken_entry hwf (s.now + dt) u first len
    obtain ⟨hprogress, htable, -⟩ := reloadTaken_record s (s.now + dt) u first len
    generalize reloadTaken s (s.now + dt) u first len = w at *
    have hcontrol : w.endUnit.control = w.control := by simp [State.endUnit]
    have hevents : w.endUnit.events = w.events := by simp [State.endUnit]
    have hmonitor : w.endUnit.monitor = w.monitor := by simp [State.endUnit]
    have hall : w.endUnit = State.arbitrate { s with
        now := s.now + dt, sc := { s.sc with grant := none }
        control := w.control, monitor := w.monitor, events := w.events } := by
      rw [hblocks]
      rfl
    have hkeeps : Keeps [.control, .monitor, .events, .sc, .link] s w.endUnit := by
      rw [hall]
      have hfree : Keeps [.control, .monitor, .events, .sc] s { s with
          now := s.now + dt, sc := { s.sc with grant := none }
          control := w.control, monitor := w.monitor, events := w.events } := by
        intro k hk
        cases k <;> first | exact absurd hk (by decide) | exact fun _ => rfl | rfl
      exact (hfree.mono (by decide)).trans ((arbitrate_keeps _).mono (by decide))
    refine ⟨by rw [hall]; simp, hkeeps, by rw [hcontrol, hprogress], by rw [hcontrol, hblocks],
      by rw [hcontrol, htable], refreshed_congr hrefreshed hmonitor, by rw [hcontrol, hmonitor, hevents]; exact hall,
      fun clamped hclamped => ?_, by rw [hcontrol]; exact hentry⟩
    have hsame : clamped = clampedIn s u first len := Bool.eq_iff_iff.2 (hclamped.trans (clampedIn_iff ..).symm)
    rw [hsame]
    exact raised_congr hraised hevents (by simp [State.endUnit])
  · obtain ⟨u', first', len', hold', hgrant', rfl⟩ | ⟨_, _, _, _, hgrant', _⟩ := reloadSegmentDone_next hstep
    · simp only [hgrant, Option.some.injEq, Grant.mk.injEq, GrantUnit.reload.injEq] at hgrant'
      obtain ⟨⟨rfl, rfl, rfl, -⟩, -⟩ := hgrant'
      obtain ⟨hlast, hmore⟩ := reloadTaken_control s (s.now + dt) u first len
      obtain ⟨-, -, hdisturbed⟩ := reloadTaken_record s (s.now + dt) u first len
      obtain ⟨hmarks, -⟩ := reloadTaken_raised s (s.now + dt) u first len
      have hstate := reloadTaken_tableState s (s.now + dt) u first len
      generalize reloadTaken s (s.now + dt) u first len = w at *
      have hcontrol : w.endUnit.control = w.control := by simp [State.endUnit]
      simp only [State.tableState_of_endUnit, State.stuck_of_endUnit, hcontrol]
      refine ⟨fun hspan => ?_, fun hspan => ?_, hdisturbed, fun v hv => ?_⟩
      · obtain ⟨hdone, -⟩ := hmarks .commandDone (by simp [hspan])
        rw [hstate, if_pos ⟨rfl, hspan⟩, hlast hspan]
        exact ⟨rfl, rfl, rfl, hdone⟩
      · rw [hstate, if_neg fun hboth => hspan hboth.2, hmore hspan]
        exact ⟨rfl, rfl, rfl⟩
      · rw [hstate, if_neg fun hboth => hv hboth.1]
    · simp [hgrant] at hgrant'

end Sys2Proof.Safety
end

section
/-! What a step does to the shadows, the table states and the reload record, and with them EXPO, a reload segment that
holds the store and the bank words: five commands apart, it leaves the tables alone (R135, R136, R139, R140). -/

namespace Sys2Proof.Safety

open Machine

variable {s t u : State} {n : Fin 8} {b : Fin 2}

/-! ## Leaving the tables -/

/-- The two units an exposure reads are VALID (R110). -/
def ExposureTablesValid (s : State) : Prop := s.tableState .modulator = .valid ∧ s.tableState .facet = .valid

/-- A wanted reload segment holds the store (R140). -/
def HoldsSegment (s : State) (x : TableUnit) (first len : Nat) : Prop :=
  ∃ g ∈ s.sc.grant, g.unit = .reload x first len true

/-- The words of both line banks are in canonical form (log 10). -/
def BankWordsCanonical (s : State) : Prop := ∀ b, zeroWf (s.bank b).words = true

/-- The tables and the reload record are as they were; an exposure that begins finds its units VALID (R110), a reload
segment granted is the one requested (R140), and canonical bank words stay canonical. -/
structure TablesRest (s t : State) : Prop where
  shadows : t.control.shadows = s.control.shadows
  tables : t.control.tables = s.control.tables
  reload : t.control.reload = s.control.reload
  expo : t.expo = true → s.expo = true ∨ ExposureTablesValid s
  segment : ∀ x first len, HoldsSegment t x first len →
    HoldsSegment s x first len ∨ s.reloadRequest = some (.reload x first len true)
  words : BankWordsCanonical s → BankWordsCanonical t

theorem tableState_congr (h : t.control.tables = s.control.tables) (x : TableUnit) :
    t.tableState x = s.tableState x := by
  unfold State.tableState
  rw [h]

theorem reloadRequest_congr (h : t.control.reload = s.control.reload) : t.reloadRequest = s.reloadRequest := by
  unfold State.reloadRequest
  rw [h]

theorem TablesRest.tableState (h : TablesRest s t) (x : TableUnit) : t.tableState x = s.tableState x :=
  tableState_congr h.tables x

theorem TablesRest.refl (s : State) : TablesRest s s := ⟨rfl, rfl, rfl, .inl, fun _ _ _ => .inl, id⟩

theorem TablesRest.trans (h : TablesRest s t) (h' : TablesRest t u) : TablesRest s u where
  shadows := h'.shadows.trans h.shadows
  tables := h'.tables.trans h.tables
  reload := h'.reload.trans h.reload
  expo hu := by
    obtain ht | ⟨hmodulator, hfacet⟩ := h'.expo hu
    · exact h.expo ht
    · exact .inr ⟨(h.tableState _).symm.trans hmodulator, (h.tableState _).symm.trans hfacet⟩
  segment x first len hu := by
    obtain ht | ht := h'.segment x first len hu
    · exact h.segment x first len ht
    · exact .inr ((reloadRequest_congr h.reload).symm.trans ht)
  words := h'.words ∘ h.words

/-- The tables and the record kept, no exposure begun, no segment granted, and the bank words kept. -/
theorem TablesRest.of_kept (hs : t.control.shadows = s.control.shadows) (ht : t.control.tables = s.control.tables)
    (hr : t.control.reload = s.control.reload) (he : t.expo = true → s.expo = true)
    (hg : ∀ x first len, HoldsSegment t x first len → HoldsSegment s x first len)
    (hw : ∀ b, (t.bank b).words = (s.bank b).words) : TablesRest s t where
  shadows := hs
  tables := ht
  reload := hr
  expo h := .inl (he h)
  segment x first len h := .inl (hg x first len h)
  words h b := (congrArg zeroWf (hw b)).trans (h b)

/-- Neither the engine's state, the grant nor the banks have moved. -/
theorem TablesRest.of_same (hs : t.control.shadows = s.control.shadows) (ht : t.control.tables = s.control.tables)
    (hr : t.control.reload = s.control.reload) (he : t.engine.state = s.engine.state)
    (hg : t.sc.grant = s.sc.grant) (hb : t.feeder.banks = s.feeder.banks) : TablesRest s t := by
  refine .of_kept hs ht hr ?_ (fun x first len => ?_) fun b => ?_
  · unfold State.expo
    rw [he]
    exact id
  · unfold HoldsSegment
    rw [hg]
    exact id
  · unfold State.bank
    rw [hb]

/-! ## The Store Controller (R140, R156) -/

/-- A reload segment granted is the one the reload requests (R156). -/
theorem reloadRequest_of_nextGrant {x : TableUnit} {first len : Nat}
    (h : s.nextGrant = some (.reload x first len true)) : s.reloadRequest = some (.reload x first len true) := by
  obtain h | h | h | h := requested_of_nextGrant h
  · cases h
  · obtain ⟨f, -, hunit⟩ := Option.map_eq_some_iff.1 h
    cases hunit
  · unfold State.linkRequest State.readSegment at h
    repeat' split at h
    all_goals cases h
  · exact h

theorem tablesRest_arbitrate (s : State) : TablesRest s s.arbitrate where
  shadows := by simp
  tables := by simp
  reload := by simp
  expo h := .inl (by simpa [State.expo] using h)
  segment x first len h := by
    obtain hsame | ⟨-, -, g, hg, hsame⟩ := arbitrate_cases s
    · rw [hsame] at h
      exact .inl h
    · rw [hsame] at h
      obtain ⟨y, hy, hunit⟩ := h
      cases hy
      obtain rfl : g = .reload x first len true := hunit
      exact .inr (reloadRequest_of_nextGrant hg)
  words h := by simpa [BankWordsCanonical, State.bank] using h

theorem TablesRest.arbitrate (h : TablesRest s t) : TablesRest s t.arbitrate := h.trans (tablesRest_arbitrate t)

theorem not_holdsSegment (h : s.sc.grant = none) (x : TableUnit) (first len : Nat) : ¬ HoldsSegment s x first len := by
  rintro ⟨g, hg, -⟩
  rw [h] at hg
  cases hg

theorem tablesRest_endUnit (s : State) : TablesRest s s.endUnit :=
  have hfree : TablesRest s (s.setSc { s.sc with grant := none }) :=
    .of_kept rfl rfl rfl id (fun x first len h => (not_holdsSegment rfl x first len h).elim) fun _ => rfl
  hfree.arbitrate

theorem TablesRest.endUnit (h : TablesRest s t) : TablesRest s t.endUnit := h.trans (tablesRest_endUnit t)

/-- A change of the unit in progress that makes no wanted reload segment. -/
theorem tablesRest_mapUnit (s : State) {f : GrantUnit → GrantUnit}
    (hf : ∀ g x first len, f g = .reload x first len true → g = .reload x first len true) :
    TablesRest s (s.mapUnit f) := by
  refine .of_kept rfl rfl rfl id ?_ fun _ => rfl
  rintro x first len ⟨g, hg, hunit⟩
  obtain ⟨y, hy, rfl⟩ := Option.map_eq_some_iff.1 hg
  exact ⟨y, hy, hf _ _ _ _ hunit⟩

theorem tablesRest_dropBeat (s : State) : TablesRest s s.dropBeat := by
  have hqueue : TablesRest s (s.setQueue s.queue.tail) := .of_same rfl rfl rfl rfl rfl rfl
  refine hqueue.trans (tablesRest_mapUnit _ fun g x first len h => ?_)
  cases g <;> first | exact h | cases h

/-! ## A step and its parts -/

theorem tablesRest_setNow (s : State) (v : Tick) : TablesRest s (s.setNow v) := .of_same rfl rfl rfl rfl rfl rfl

theorem tablesRest_after {dt : Nat} {body : State → Result} (h : s.after dt body = .next t)
    (hb : ∀ v, body v = .next t → TablesRest v t) : TablesRest s t :=
  (tablesRest_setNow s _).trans (hb _ (State.after_next h).2)

theorem tablesRest_atEnd {x : Option Timer} {body : State → Result} (h : s.atEnd x body = .next t)
    (hb : ∀ v, body v = .next t → TablesRest v t) : TablesRest s t := by
  obtain ⟨y, -, -, hbody⟩ := State.atEnd_next h
  exact (tablesRest_setNow s _).trans (hb _ hbody)

theorem tablesRest_place {dt : Nat} {body : State → Beat → BeatKind → Option State} (h : s.place dt body = .next t)
    (hb : ∀ v b k, body v b k = some t → TablesRest v t) : TablesRest s t := by
  obtain ⟨-, b, -, -, -, -, -, -, ht⟩ := State.place_next h
  exact ((tablesRest_setNow s _).trans (tablesRest_dropBeat _)).trans (hb _ _ _ ht)

theorem tablesRest_storeBeat (s : State) (b : Beat) : TablesRest s (s.storeBeat b) := by
  apply TablesRest.of_same <;> simp

theorem tablesRest_recordCommand (s : State) (x y : Byte) (o : CmdOutcome) : TablesRest s (s.recordCommand x y o) := by
  apply TablesRest.of_same <;> simp [State.recordCommand]

theorem tablesRest_runCommand {dt : Nat} {c : Cmd} {effect : State → Word → State × CmdOutcome}
    (h : s.runCommand dt c effect = .next t) (he : ∀ v w, TablesRest v (effect v w).1) : TablesRest s t := by
  refine tablesRest_place h fun v b k hv => ?_
  split at hv
  · split at hv <;> cases hv
    exact ((tablesRest_storeBeat v b).trans (he _ _)).trans (tablesRest_recordCommand _ _ _ _)
  · cases hv

theorem tablesRest_slotCommand {effect : State → Fin 8 → State × CmdOutcome} (h : ∀ v n, TablesRest v (effect v n).1)
    (s : State) (w : Word) : TablesRest s (slotCommand effect s w).1 := by
  unfold slotCommand
  split
  · exact .refl s
  · exact h s _

/-! ## The banks (R106, R114, R119, R120) -/

/-- A bank changed in its state and its tag, with its words kept (R114). -/
theorem tablesRest_setBank (s : State) (b : Fin 2) (state : BankState) (tag : Option (Fin 8 × Nat)) :
    TablesRest s (s.setBank b { s.bank b with state := state, tag := tag }) := by
  refine .of_kept (by simp) (by simp) (by simp) (by simp) (fun x first len h => by simpa [HoldsSegment] using h)
    fun c => ?_
  rw [State.bank_setBank]
  split
  · rw [‹c = b›]
  · rfl

theorem tablesRest_abandonFetch (s : State) : TablesRest s s.abandonFetch := by
  have hfetch : TablesRest s (s.setFeeder { s.feeder with fetch := none }) := .of_same rfl rfl rfl rfl rfl rfl
  refine hfetch.trans (tablesRest_mapUnit _ fun g x first len h => ?_)
  cases g <;> first | exact h | cases h

theorem tablesRest_releaseBank (s : State) (b : Fin 2) : TablesRest s (s.releaseBank b) := by
  have hfreed := tablesRest_setBank s b .free none
  dsimp only [State.releaseBank]
  split
  · exact hfreed.trans (tablesRest_abandonFetch _)
  · exact hfreed

theorem tablesRest_releaseBelow (s : State) (l : Nat) (b : Fin 2) : TablesRest s (s.releaseBelow l b) := by
  unfold State.releaseBelow
  split
  · exact tablesRest_releaseBank s b
  · exact .refl s

theorem tablesRest_clearFeeder (s : State) : TablesRest s s.clearFeeder := by
  have htarget (v : State) : TablesRest v (v.setFeeder { v.feeder with target := 0 }) :=
    .of_same rfl rfl rfl rfl rfl rfl
  exact (((tablesRest_setBank s 0 _ _).trans (tablesRest_setBank _ 1 _ _)).trans (tablesRest_abandonFetch _)).trans
    (htarget _)

/-! ## The engine (R106, R111 to R113, R126) -/

/-- The engine changed without an exposure begun. -/
theorem tablesRest_setEngine (s : State) (x : Engine) (hx : (s.setEngine x).expo = true → s.expo = true) :
    TablesRest s (s.setEngine x) :=
  .of_kept rfl rfl rfl hx (fun _ _ _ => id) fun _ => rfl

theorem tablesRest_raise (s : State) (i : Source) : TablesRest s (s.raise i) := by apply TablesRest.of_same <;> simp

theorem tablesRest_enterStopped (s : State) : TablesRest s s.enterStopped := by
  have hunlocked : TablesRest s s.unlockOnStop := by apply TablesRest.of_same <;> simp
  have hblank (v : State) : TablesRest v v.blankDrive := by apply TablesRest.of_same <;> simp
  exact ((hunlocked.trans (tablesRest_clearFeeder _)).trans (hblank _)).trans (tablesRest_setEngine _ _ nofun)

theorem tablesRest_enterWaiting (s : State) : TablesRest s s.enterWaiting := tablesRest_setEngine s _ nofun

theorem tablesRest_abortFrame (s : State) (c : FaultCause) : TablesRest s (s.abortFrame c) := by
  have hreport : TablesRest s s.reportSweep := by apply TablesRest.of_same <;> simp
  have hfault (v : State) (n : Fin 8) : TablesRest v (v.faultSlot n c) := by apply TablesRest.of_same <;> simp
  unfold State.abortFrame
  split
  · refine TablesRest.trans ?_ (tablesRest_enterStopped _)
    refine TablesRest.trans ?_ (tablesRest_raise _ _)
    split
    · exact hreport.trans (hfault _ _)
    · exact hreport
  · exact .refl s

theorem tablesRest_discardPrefetch (s : State) (n : Fin 8) : TablesRest s (s.discardPrefetch n) := by
  have hunlock : TablesRest s (s.unlockSlot n) := by apply TablesRest.of_same <;> simp
  unfold State.discardPrefetch
  split
  · exact hunlock.trans (tablesRest_clearFeeder _)
  · exact .refl s

theorem tablesRest_setHalt (s : State) (x : Bool) : TablesRest s (s.setHalt x) := tablesRest_setEngine s _ id

theorem tablesRest_markSpoiled (s : State) : TablesRest s s.markSpoiled := by
  apply TablesRest.of_same <;> simp [markSpoiled_engine]

theorem tablesRest_chooseBank (s : State) (n : Fin 8) (l : Nat) : TablesRest s (s.chooseBank n l) := by
  have hbelow := (tablesRest_releaseBelow s l 0).trans (tablesRest_releaseBelow _ l 1)
  have hsweep (v : State) (x : Option (Fin 2)) : TablesRest v (v.startSweep true x) := .of_same rfl rfl rfl rfl rfl rfl
  dsimp only [State.chooseBank]
  split
  · exact (hbelow.trans (tablesRest_setBank _ _ _ _)).trans (hsweep _ _)
  · exact ((hbelow.trans (tablesRest_raise _ _)).trans (tablesRest_markSpoiled _)).trans (hsweep _ _)

theorem tablesRest_imageSweep (n : Fin 8) (l : Nat) (first out : Bool) (he : s.expo = true) :
    TablesRest s (s.imageSweep n l first out) := by
  have htarget (v : State) : TablesRest v
      (if first then v.setFeeder { v.feeder with target := max v.feeder.target l } else v) := by
    split
    · exact .of_same rfl rfl rfl rfl rfl rfl
    · exact .refl v
  have hengine (x : Engine) : TablesRest s (s.setEngine x) := tablesRest_setEngine s x fun _ => he
  dsimp only [State.imageSweep]
  split
  · exact (((hengine _).trans (tablesRest_chooseBank _ n l)).trans (htarget _)).trans (tablesRest_markSpoiled _)
  · exact ((hengine _).trans (tablesRest_chooseBank _ n l)).trans (htarget _)

theorem tablesRest_indicateSweep (s : State) : TablesRest s s.indicateSweep := .of_same rfl rfl rfl rfl rfl rfl

theorem tablesRest_beginSweep (n : Fin 8) (out : Bool) (he : s.expo = true) : TablesRest s (s.beginSweep n out) := by
  dsimp only [State.beginSweep]
  refine TablesRest.trans ?_ (tablesRest_indicateSweep _)
  split
  · exact .of_same rfl rfl rfl rfl rfl rfl
  · exact tablesRest_imageSweep n _ _ out he

/-- No frame starts but with the units of an exposure VALID (R110). -/
theorem exposureTables_of_firstBlock (h : s.firstBlock = .none) : ExposureTablesValid s := by
  unfold State.firstBlock at h
  repeat' split at h
  all_goals try cases h
  rename_i hvalid _ _ _
  simpa [ExposureTablesValid] using hvalid

theorem tablesRest_startFrame (n : Fin 8) (out : Bool) (hv : ExposureTablesValid s) :
    TablesRest s (s.startFrame n out) := by
  have hstarted : TablesRest s (frameStarted s n) :=
    ⟨rfl, rfl, rfl, fun _ => .inr hv, fun _ _ _ => .inl, id⟩
  rw [startFrame_eq]
  exact hstarted.trans (tablesRest_beginSweep n out rfl)

theorem tablesRest_endFrame (s : State) (n : Fin 8) : TablesRest s (s.endFrame n) := by
  have hleft : TablesRest s ((s.leaveQueue n).setSlot n { (s.leaveQueue n).slot n with state := .exposed }) := by
    apply TablesRest.of_same <;> simp
  have hblank (v : State) : TablesRest v v.blankDrive := by apply TablesRest.of_same <;> simp
  refine TablesRest.trans ?_ (tablesRest_raise _ _)
  exact ((hleft.trans (tablesRest_clearFeeder _)).trans (hblank _)).trans (tablesRest_setEngine _ _ nofun)

theorem tablesRest_nextSweep (n : Fin 8) (out : Bool) (he : s.expo = true) : TablesRest s (s.nextSweep n out) := by
  have hended : TablesRest s (sweepEnded s n) := by apply TablesRest.of_same <;> simp [sweepEnded]
  rw [nextSweep_eq]
  split
  · exact hended.trans (tablesRest_endFrame _ n)
  · refine hended.trans (tablesRest_beginSweep n out ?_)
    simpa [sweepEnded, State.expo] using he

theorem tablesRest_takePulse (s : State) (out : Bool) : TablesRest s (s.takePulse out) := by
  have hexpo (h : s.engine.state = .leading ∨ s.engine.state = .imaging) : s.expo = true := by
    unfold State.expo
    obtain h | h := h <;> rw [h]
  unfold State.takePulse
  split
  · split
    · exact tablesRest_startFrame _ out (exposureTables_of_firstBlock ‹_›)
    · exact .refl s
  · split
    · exact tablesRest_nextSweep _ out (hexpo (.inl ‹_›))
    · exact .refl s
  · split
    · exact tablesRest_nextSweep _ out (hexpo (.inr ‹_›))
    · exact .refl s
  · exact .refl s

theorem tablesRest_gateFalls (s : State) : TablesRest s s.gateFalls := by
  unfold State.gateFalls
  split
  · exact tablesRest_abortFrame s _
  · exact tablesRest_abortFrame s _
  · split
    · exact tablesRest_enterStopped s
    · exact tablesRest_enterWaiting s
  · exact .refl s
  · exact .refl s

/-! ## The scanner (R90 to R101) -/

theorem tablesRest_setScan (s : State) (x : ScanUnit) : TablesRest s (s.setScan x) := .of_same rfl rfl rfl rfl rfl rfl

theorem tablesRest_setScanState (s : State) (x : ScanState) : TablesRest s (s.setScanState x) := by
  apply TablesRest.of_same <;> simp

theorem tablesRest_seek (s : State) : TablesRest s s.seek :=
  (tablesRest_setScan s _).trans (tablesRest_setScanState _ _)

theorem tablesRest_slip (s : State) : TablesRest s s.slip :=
  (((tablesRest_seek s).trans (tablesRest_setScan _ _)).trans (tablesRest_raise _ _)).trans (tablesRest_abortFrame _ _)

theorem tablesRest_applyJudgement (s : State) (j : Judgement) : TablesRest s (s.applyJudgement j) := by
  have hto := applyJudgement_to s j
  generalize s.applyJudgement j = a at hto ⊢
  cases hto with
  | stays x => exact tablesRest_setScan s x
  | changes x _ y => exact (tablesRest_setScan s x).trans (tablesRest_setScanState _ y)
  | loses x =>
    exact ((tablesRest_setScan s x).trans (tablesRest_setScanState _ _)).trans (tablesRest_abortFrame _ _)

theorem tablesRest_acceptSos (s : State) : TablesRest s s.acceptSos := by
  have hmeasured : TablesRest s s.measure := tablesRest_setScan s _
  simp only [State.acceptSos, State.countFacet]
  split
  · split
    · exact (hmeasured.trans (tablesRest_slip _)).trans (tablesRest_takePulse _ _)
    · exact ((hmeasured.trans (tablesRest_setScan _ _)).trans (tablesRest_applyJudgement _ _)).trans
        (tablesRest_takePulse _ _)
  · exact hmeasured.trans (tablesRest_takePulse _ _)

theorem tablesRest_takeHome (s : State) : TablesRest s s.takeHome := by
  have hprimed : TablesRest s s.primeFacets := (tablesRest_setScan s _).trans (tablesRest_setScanState _ _)
  unfold State.takeHome
  repeat' split
  all_goals first | exact .refl s | exact hprimed | exact tablesRest_setScan s _ | exact tablesRest_slip s

theorem tablesRest_fallSilent (s : State) : TablesRest s s.fallSilent := by
  dsimp only [State.fallSilent]
  split
  · exact ((tablesRest_setScan s _).trans (tablesRest_seek _)).trans (tablesRest_abortFrame _ _)
  · exact tablesRest_setScan s _

end Sys2Proof.Safety
end

section
/-! Every command but five leaves the tables alone (R135, R136, R139, R140). -/

namespace Sys2Proof.Safety

open Machine

variable {s t : State}

/-! ## The fetch (R115, R117) -/

theorem tablesRest_beginFetch (s : State) (n : Fin 8) (b : Fin 2) : TablesRest s (s.beginFetch n b) := by
  have hbank := tablesRest_setBank s b .filling (some (n, s.feeder.target))
  exact hbank.trans (.of_same rfl rfl rfl rfl rfl rfl)

/-- The words a fetch brings keep the bank's form (log 10). -/
theorem tablesRest_fillBank (s : State) (b : Fin 2) (pos len addr : Nat) :
    TablesRest s (s.fillBank b pos len addr) := by
  refine ⟨rfl, rfl, rfl, .inl, fun _ _ _ => .inl, fun h c => ?_⟩
  rw [fillBank_bank_eq]
  split
  · exact writeRun_wf (h b) pos len _
  · exact h c

theorem tablesRest_advanceFetch (s : State) (f : Fetch) (len : Nat) : TablesRest s (s.advanceFetch f len) := by
  dsimp only [State.advanceFetch]
  split
  · exact (tablesRest_setBank s f.bank .full _).trans (.of_same rfl rfl rfl rfl rfl rfl)
  · exact .of_same rfl rfl rfl rfl rfl rfl

theorem tablesRest_feederSegmentDone {dt : Nat} (h : execFeederSegmentDone dt s = .next t) : TablesRest s t := by
  refine tablesRest_after h fun v hv => ?_
  repeat' split at hv
  all_goals cases hv
  · exact ((tablesRest_fillBank v _ _ _ _).trans (tablesRest_advanceFetch _ _ _)).endUnit
  · exact tablesRest_endUnit v

/-! ## The drives (R122, R128) -/

theorem tablesRest_arise (s : State) (ds : List Damage) : TablesRest s (s.arise ds) := by
  apply TablesRest.of_same <;> simp

theorem tablesRest_pixelClock (s : State) : TablesRest s s.pixelClock := by
  have hcount : TablesRest s s.countClock := .of_same rfl rfl rfl rfl rfl rfl
  have hread (v : State) (l) : TablesRest v (v.checkReads l) := by apply TablesRest.of_same <;> simp
  have houtput (v : State) (r g b : Half) : TablesRest v (v.output r g b) := .of_same rfl rfl rfl rfl rfl rfl
  unfold State.pixelClock
  split
  · dsimp only [State.sendPixel]
    split
    · exact ((hcount.trans (hread _ _)).trans (tablesRest_markSpoiled _)).trans (houtput _ _ _ _)
    · exact (hcount.trans (hread _ _)).trans (houtput _ _ _ _)
  · exact hcount.trans (houtput _ _ _ _)

/-! ## The commands (R147) -/

theorem tablesRest_describeSlot (s : State) (n : Fin 8) : TablesRest s (s.describeSlot n).1 := by
  obtain h | ⟨d, -, h⟩ := describeSlot_or s n
  · rw [h]; exact .refl s
  · rw [h]; apply TablesRest.of_same <;> simp [State.acceptSlot, State.joinQueue]

theorem tablesRest_sealFrame (s : State) (n : Fin 8) : TablesRest s (s.sealFrame n).1 := by
  unfold State.sealFrame
  split <;> apply TablesRest.of_same <;> simp

theorem tablesRest_withdrawSlot (s : State) (n : Fin 8) : TablesRest s (s.withdrawSlot n).1 := by
  have hleft (v : State) : TablesRest v ((v.leaveQueue n).vacate n) := by apply TablesRest.of_same <;> simp
  unfold State.withdrawSlot
  split
  · exact (tablesRest_discardPrefetch s n).trans (hleft _)
  · exact (tablesRest_discardPrefetch s n).trans (hleft _)
  · exact (tablesRest_discardPrefetch s n).trans (hleft _)
  · exact tablesRest_abortFrame s _
  · exact .refl s

theorem tablesRest_releaseSlot (s : State) (n : Fin 8) : TablesRest s (s.releaseSlot n).1 := by
  unfold State.releaseSlot
  split <;> apply TablesRest.of_same <;> simp

theorem tablesRest_runEngine (s : State) : TablesRest s s.runEngine := by
  unfold State.runEngine
  split
  · exact tablesRest_enterWaiting s
  · exact tablesRest_setHalt s false

theorem tablesRest_haltEngine (s : State) : TablesRest s s.haltEngine := by
  unfold State.haltEngine
  split
  · exact tablesRest_enterStopped s
  · exact tablesRest_setHalt s true
  · exact tablesRest_setHalt s true
  · exact tablesRest_setHalt s true
  · exact .refl s

theorem tablesRest_abortEngine (s : State) : TablesRest s s.abortEngine := by
  unfold State.abortEngine
  split
  · exact tablesRest_abortFrame s _
  · exact tablesRest_abortFrame s _
  · exact tablesRest_enterStopped s
  · exact tablesRest_enterStopped s
  · exact .refl s

theorem tablesRest_scanApplied (s : State) : TablesRest s s.scanApplied.1 := by
  unfold State.scanApplied
  split <;> apply TablesRest.of_same <;> simp [State.applyScan, State.clearScanStats]

theorem tablesRest_resample (s : State) : TablesRest s s.resample := by apply TablesRest.of_same <;> simp

theorem tablesRest_stepMonitor (s : State) : TablesRest s s.stepMonitor := by
  unfold State.stepMonitor
  repeat' split
  all_goals exact .of_same rfl rfl rfl rfl rfl rfl

theorem tablesRest_pictureBeat (s : State) (n : Fin 8) (b : Beat) : TablesRest s (s.pictureBeat n b) := by
  dsimp only [State.pictureBeat]
  split
  · exact tablesRest_raise s _
  · split
    · exact .of_same rfl rfl rfl rfl rfl rfl
    · rw [convertBeat_eq]
      apply TablesRest.of_same <;> simp

/-! ## The link (R26 to R37) -/

theorem tablesRest_setLink (s : State) (x : LinkPort) : TablesRest s (s.setLink x) :=
  .of_same rfl rfl rfl rfl rfl rfl

theorem tablesRest_openTxn (s : State) (w : Word) : TablesRest s (s.openTxn w) := by
  have hheaded : TablesRest s (headed s w) := by
    unfold headed
    split <;> exact .of_same rfl rfl rfl rfl rfl rfl
  have hadmit (v : State) : TablesRest v v.admitNow := by
    unfold State.admitNow
    repeat' split
    all_goals exact .of_same rfl rfl rfl rfl rfl rfl
  rw [openTxn_eq]
  exact hheaded.arbitrate.trans (hadmit _)

theorem tablesRest_linkHeader {dt : Nat} {w w' : Word} (h : execLinkHeader dt w w' s = .next t) : TablesRest s t := by
  refine tablesRest_after h fun v hv => ?_
  dsimp only at hv
  have hheard : TablesRest v ((v.setPins { v.pins with lselLow := true }).setLink { v.link with ld := none }) :=
    .of_same rfl rfl rfl rfl rfl rfl
  repeat' split at hv
  all_goals cases hv
  · exact .refl _
  · exact hheard
  · exact hheard.trans (tablesRest_openTxn _ _)

theorem tablesRest_writeBeat {dt : Nat} {w : Word} {en : Enables} (h : execWriteBeat dt w en s = .next t) :
    TablesRest s t := by
  refine tablesRest_after h fun v hv => ?_
  repeat' split at hv
  all_goals cases hv
  · exact .refl _
  · exact tablesRest_setLink _ _
  · exact .arbitrate (.of_same rfl rfl rfl rfl rfl rfl)
  · apply TablesRest.of_same <;> simp [State.overrunBeat]

theorem tablesRest_readBeat {dt : Nat} (h : execReadBeat dt s = .next t) : TablesRest s t := by
  obtain ⟨x, w, buffer, snap, -, -, rfl⟩ := readBeat_delivers h
  exact ((tablesRest_setNow s _).trans (tablesRest_setLink _ _)).arbitrate

theorem tablesRest_readSegmentDone {dt : Nat} (h : execReadSegmentDone dt s = .next t) : TablesRest s t := by
  have hfill (v : State) (l : List Nat) : TablesRest v (v.fillBuffer l) := by
    unfold State.fillBuffer
    split
    · exact tablesRest_setLink v _
    · exact .refl v
  refine tablesRest_after h fun v hv => ?_
  repeat' split at hv
  all_goals cases hv
  · exact (hfill _ _).endUnit
  · exact tablesRest_endUnit v

/-! ## Every command but five -/

/-- The commands that capture, that start, end or abandon a reload, or that make a unit STALE (R136, R139 to R143). -/
def tableRow : Instr → Bool
  | .powerOn .. | .rstAssert .. | .reloadSegmentDone .. | .tableWordWrite .. | .reload .. => true
  | _ => false

theorem exec_tablesRest (i : Instr) (hi : tableRow i = false) (h : exec i s = .next t) : TablesRest s t := by
  unfold exec at h
  cases i with
  | powerOn | rstAssert | reloadSegmentDone | tableWordWrite | reload => cases hi
  | rstRelease =>
    refine tablesRest_after h fun v hv => ?_
    dsimp only at hv
    split at hv <;> cases hv
    exact .arbitrate (.of_same rfl rfl rfl rfl rfl rfl)
  | linkHeader => exact tablesRest_linkHeader h
  | readAdmit | writeAdmit =>
    refine tablesRest_after h fun v hv => ?_
    repeat' split at hv
    all_goals cases hv
    exact tablesRest_setLink _ _
  | writeBeat => exact tablesRest_writeBeat h
  | readBeat => exact tablesRest_readBeat h
  | lselRise =>
    refine tablesRest_after h fun v hv => ?_
    cases hv
    refine TablesRest.trans ?_ (tablesRest_mapUnit _ fun g x first len hg => ?_)
    · exact .of_same rfl rfl rfl rfl rfl rfl
    · cases g <;> first | exact hg | cases hg
  | storeInitEnd | refreshDue =>
    refine tablesRest_atEnd h fun v hv => ?_
    cases hv
    exact .arbitrate (.of_same rfl rfl rfl rfl rfl rfl)
  | refreshDone =>
    refine tablesRest_after h fun v hv => ?_
    split at hv <;> cases hv
    exact .endUnit (.of_same rfl rfl rfl rfl rfl rfl)
  | readSegmentDone => exact tablesRest_readSegmentDone h
  | placementUnitEnd =>
    refine tablesRest_after h fun v hv => ?_
    repeat' split at hv
    all_goals cases hv
    exact tablesRest_endUnit _
  | feederSegmentDone => exact tablesRest_feederSegmentDone h
  | noEnableBeat | statusPageWrite =>
    refine tablesRest_place h fun v b k hv => ?_
    split at hv <;> cases hv
    exact .refl _
  | storePlainWord =>
    refine tablesRest_place h fun v b k hv => ?_
    split at hv <;> cases hv
    exact tablesRest_storeBeat v b
  | placePictureWord dt arisen =>
    refine tablesRest_place h fun v b k hv => ?_
    split at hv <;> cases hv
    exact (tablesRest_arise v arisen).trans (tablesRest_pictureBeat _ _ b)
  | stagingWrite | auxFunctionWrite =>
    refine tablesRest_place h fun v b k hv => ?_
    split at hv <;> cases hv
    all_goals exact (tablesRest_storeBeat v b).trans (.of_same rfl rfl rfl rfl rfl rfl)
  | eventSettingsWrite =>
    refine tablesRest_place h fun v b k hv => ?_
    split at hv <;> cases hv
    refine (tablesRest_storeBeat v b).trans (TablesRest.trans ?_ (tablesRest_resample _))
    exact .of_same rfl rfl rfl rfl rfl rfl
  | malformedCommand | unknownCommand =>
    refine tablesRest_place h fun v b k hv => ?_
    split at hv <;> cases hv
    exact (tablesRest_storeBeat v b).trans (tablesRest_recordCommand _ _ _ _)
  | describe => exact tablesRest_runCommand h (tablesRest_slotCommand tablesRest_describeSlot)
  | sealSlot => exact tablesRest_runCommand h (tablesRest_slotCommand tablesRest_sealFrame)
  | withdraw => exact tablesRest_runCommand h (tablesRest_slotCommand tablesRest_withdrawSlot)
  | release => exact tablesRest_runCommand h (tablesRest_slotCommand tablesRest_releaseSlot)
  | run => exact tablesRest_runCommand h fun v _ => tablesRest_runEngine v
  | halt => exact tablesRest_runCommand h fun v _ => tablesRest_haltEngine v
  | abort => exact tablesRest_runCommand h fun v _ => tablesRest_abortEngine v
  | scanApply => exact tablesRest_runCommand h fun v _ => tablesRest_scanApplied v
  | clearScanStats => exact tablesRest_runCommand h fun v _ => tablesRest_setScan v _
  | clearEvents =>
    refine tablesRest_runCommand h fun v w => TablesRest.trans ?_ (tablesRest_resample _)
    exact .of_same rfl rfl rfl rfl rfl rfl
  | monitorStep => exact tablesRest_runCommand h fun v _ => tablesRest_stepMonitor v
  | monitorStop => exact tablesRest_runCommand h fun v _ => .of_same rfl rfl rfl rfl rfl rfl
  | sos =>
    refine tablesRest_after h fun v hv => ?_
    cases hv
    repeat' split
    · exact .refl v
    · exact tablesRest_setScan v _
    · exact tablesRest_acceptSos v
  | home =>
    refine tablesRest_after h fun v hv => ?_
    cases hv
    split
    · exact .refl v
    · exact tablesRest_takeHome v
  | silenceExpiry => exact tablesRest_atEnd h fun v hv => by cases hv; exact tablesRest_fallSilent v
  | fetchBegin =>
    refine tablesRest_after h fun v hv => ?_
    split at hv <;> cases hv
    exact (tablesRest_beginFetch _ _ _).arbitrate
  | pixelDrive dt arisen =>
    refine tablesRest_after h fun v hv => ?_
    cases hv
    exact (tablesRest_arise v arisen).trans (tablesRest_pixelClock _)
  | gateFall =>
    refine tablesRest_after h fun v hv => ?_
    cases hv
    have hgate : TablesRest v (v.setGate false) := .of_same rfl rfl rfl rfl rfl rfl
    exact hgate.trans (tablesRest_gateFalls _)
  | gateRise => exact tablesRest_after h fun v hv => by cases hv; exact .of_same rfl rfl rfl rfl rfl rfl
  | interlockOpen =>
    refine tablesRest_after h fun v hv => ?_
    cases hv
    have hblanked : TablesRest v (v.setInterlock true).zeroDrives := by
      apply TablesRest.of_same <;> simp [State.zeroDrives]
    exact hblanked.trans (tablesRest_abortFrame _ _)
  | interlockClose =>
    refine tablesRest_after h fun v hv => ?_
    cases hv
    apply TablesRest.of_same <;> simp
  | gateReleaseExpiry =>
    refine tablesRest_atEnd h fun v hv => ?_
    cases hv
    exact (tablesRest_raise v _).trans (tablesRest_enterStopped _)
  | donePulseEnd | pulseStretchEnd | sweepPulseEnd | frameStartPulseEnd | activityExpiry | activityBlinkToggle =>
    exact tablesRest_atEnd h fun v hv => by cases hv; exact .of_same rfl rfl rfl rfl rfl rfl

end Sys2Proof.Safety
end

section
/-! The moves of the tables: what every command but power-on does to them, as one move between two spells in which they
rest; and the three invariants that follow (R135, R136, R139, R140, R143, R152). -/

namespace Sys2Proof.Safety

open Machine

variable {s t u w : State} {b : Beat} {x : TableUnit} {o first len : Nat} {hold : Timer} {i : Instr}

/-! ## The moves of the tables -/

/-- The unit that holds the store has ended, and no grant decision is made yet (R156). -/
def storeFreed (s : State) : State := s.setSc { s.sc with grant := none }

/-- One move of the tables. -/
inductive TableMove (s t : State) : Prop
  /-- A word of a VALID unit not in use is captured (R136). -/
  | captured (x : TableUnit) (o : Nat) (w : Word) (huse : s.inUse x = false) (h : t = s.capture x o w)
  /-- A VALID unit becomes STALE (R136). -/
  | staled (x : TableUnit) (hx : s.tableState x = .valid) (h : t = (s.setTable x .stale).raise .tableStale)
  /-- The reload in flight is marked disturbed (R141). -/
  | disturbed (h : t = s.disturb)
  /-- A reload starts (R139). -/
  | started (x : TableUnit) (hidle : s.control.reload.inFlight = false) (huse : s.inUse x = false)
      (h : t = s.startReload x)
  /-- A reload segment is captured and gives the store up (R140, R142). -/
  | advanced (v : Tick) (x : TableUnit) (first len : Nat) (hold : Timer)
      (hgrant : s.sc.grant = some ⟨.reload x first len true, hold⟩)
      (h : t = storeFreed (reloadTaken s v x first len))
  /-- RST is asserted (R132, R143). -/
  | reset (h : t = bridgeBlocks s)

/-- What a step does to the tables: they rest, or they make one move. -/
inductive TableSide (s t : State) : Prop
  | rests (h : TablesRest s t)
  | moved (u w : State) (hu : TablesRest s u) (hbefore : u.slots = s.slots) (hmove : TableMove u w)
      (hw : TablesRest w t) (hafter : t.slots = w.slots)

/-- A move after which the tables rest. -/
theorem TableMove.side (h : TableMove s t) : TableSide s t := .moved s t (.refl s) rfl h (.refl t) rfl

/-- The four things a table word can do (R136, R141). -/
theorem tableWord_side (s : State) (x : TableUnit) (o : Nat) (b : Beat) : TableSide s (s.tableWord x o b) := by
  by_cases hnone : (b.enables.getLsbD 0 || b.enables.getLsbD 1) = false
  · rw [tableWord_ignored (.inl hnone)]
    exact .rests (.refl s)
  have hlow : (b.enables.getLsbD 0 || b.enables.getLsbD 1) = true := Bool.not_eq_false _ ▸ hnone
  cases hx : s.tableState x with
  | stale | empty =>
    rw [tableWord_ignored (by simp [hx])]
    exact .rests (.refl s)
  | loading =>
    rw [tableWord_loading hlow hx]
    exact (TableMove.disturbed rfl).side
  | valid =>
    by_cases hcase : (b.enables.getLsbD 0 && b.enables.getLsbD 1) = false ∨ s.inUse x = true
    · rw [tableWord_stales hlow hx hcase]
      exact (TableMove.staled x hx rfl).side
    · rw [not_or, Bool.not_eq_false, Bool.not_eq_true] at hcase
      obtain ⟨hboth, huse⟩ := hcase
      rw [tableWord_captures hboth hx huse]
      exact (TableMove.captured x o b.data huse rfl).side

/-- RELOAD is refused or starts (R139). -/
theorem reloadTable_side (s : State) (w : Word) : TableSide s (s.reloadTable w).1 := by
  unfold State.reloadTable
  repeat' split
  · exact .rests (.refl s)
  · exact .rests (.refl s)
  · exact .rests (.refl s)
  · exact (TableMove.started _ (by simpa using ‹¬ s.control.reload.inFlight = true›)
      (by simpa using ‹¬ s.inUse _ = true›) rfl).side

/-- A spell in which the tables and the slots rest, before. -/
theorem TableSide.after_rest (hr : TablesRest s u) (hs : u.slots = s.slots) (h : TableSide u t) : TableSide s t := by
  cases h with
  | rests h => exact .rests (hr.trans h)
  | moved v w hv hbefore hmove hw hafter => exact .moved v w (hr.trans hv) (hbefore.trans hs) hmove hw hafter

/-- A spell in which the tables and the slots rest, behind. -/
theorem TableSide.before_rest (h : TableSide s u) (hr : TablesRest u t) (hs : t.slots = u.slots) : TableSide s t := by
  cases h with
  | rests h => exact .rests (h.trans hr)
  | moved v w hv hbefore hmove hw hafter => exact .moved v w hv hbefore hmove (hw.trans hr) (hs.trans hafter)

/-- A placed beat leaves the queue and is stored before its row does more (R34, R39). -/
theorem tablesRest_taken (s : State) (v : Tick) (b : Beat) :
    TablesRest s (((s.setNow v).dropBeat).storeBeat b) ∧ (((s.setNow v).dropBeat).storeBeat b).slots = s.slots :=
  ⟨((tablesRest_setNow s v).trans (tablesRest_dropBeat _)).trans (tablesRest_storeBeat _ b), by simp⟩

theorem tableSide_tableWordWrite {dt : Nat} (h : execTableWordWrite dt s = .next t) : TableSide s t := by
  obtain ⟨-, b, -, -, -, -, -, -, ht⟩ := State.place_next h
  split at ht <;> cases ht
  obtain ⟨hrest, hslots⟩ := tablesRest_taken s (s.now + dt) b
  exact (tableWord_side _ _ _ b).after_rest hrest hslots

theorem tableSide_reload {dt : Nat} (h : execReload dt s = .next t) : TableSide s t := by
  unfold execReload State.runCommand at h
  obtain ⟨-, b, -, -, -, -, -, -, ht⟩ := State.place_next h
  split at ht
  · split at ht <;> cases ht
    obtain ⟨hrest, hslots⟩ := tablesRest_taken s (s.now + dt) b
    exact ((reloadTable_side _ b.data).after_rest hrest hslots).before_rest (tablesRest_recordCommand _ _ _ _) (by simp)
  · cases ht

theorem tableSide_reloadSegmentDone {dt : Nat} (h : exec (.reloadSegmentDone dt) s = .next t) : TableSide s t := by
  obtain ⟨x, first, len, hold, hgrant, rfl⟩ | ⟨-, -, -, -, -, rfl⟩ := reloadSegmentDone_next h
  · have hfreed := TableMove.advanced (s.now + dt) x first len hold hgrant rfl
    exact hfreed.side.before_rest (tablesRest_arbitrate _) (by simp [storeFreed])
  · exact .rests ((tablesRest_setNow s _).endUnit)

theorem tableSide_rstAssert {dt : Nat} (h : execRstAssert dt s = .next t) : TableSide s t := by
  have hreset (v : State) : TableSide v v.bridgeReset := by
    rw [bridgeReset_eq]
    exact (TableMove.reset rfl).side.before_rest (tablesRest_resample _) (by simp)
  cases (State.after_next h).2
  exact .after_rest (tablesRest_setNow s (s.now + dt)) rfl (hreset _)

/-- Every command but power-on. -/
theorem exec_tableSide (hi : ∀ dt straps gate interlock lselLow, i ≠ .powerOn dt straps gate interlock lselLow)
    (h : exec i s = .next t) : TableSide s t := by
  cases hrow : tableRow i with
  | false => exact .rests (exec_tablesRest i hrow h)
  | true =>
    cases i with
    | powerOn dt straps gate interlock lselLow => exact absurd rfl (hi dt straps gate interlock lselLow)
    | rstAssert => exact tableSide_rstAssert h
    | reloadSegmentDone => exact tableSide_reloadSegmentDone h
    | tableWordWrite => exact tableSide_tableWordWrite h
    | reload => exact tableSide_reload h
    | _ => cases hrow

/-! ## User counts (R21, R135) -/

/-- A user count that is above 0 was above 0, or its unit was VALID (R15, R16). -/
def UsersBacked (s t : State) : Prop := ∀ y, 0 < t.users y → 0 < s.users y ∨ s.tableState y.table = .valid

theorem usersBacked_of_slots (h : t.slots = s.slots) : UsersBacked s t :=
  fun y hy => .inl (users_congr h y ▸ hy)

/-- No move of the slot side but an accepted DESCRIBE raises a user count (R21). -/
theorem Move.users_le (h : Move s t) (y : StockSet) : t.users y ≤ s.users y := by
  cases h with
  | engine hs | freed _ hs | tracked _ _ _ _ hs => rw [users_congr hs]
  | amend n x hs | started n _ _ _ hs => rw [users_congr hs, State.users_setSlot]
  | withdrawn n _ hs =>
    obtain ⟨-, -, husers, -⟩ := withdraw_slots s n
    rw [users_congr hs, husers]
    split <;> omega
  | released n _ hs =>
    obtain ⟨-, -, husers, -⟩ := vacate_slots s n
    rw [users_congr hs, husers]
  | departed n _ hq =>
    obtain ⟨-, husers, -⟩ := hq
    rw [husers]
    split <;> omega
  | reset hs =>
    rw [users_congr (s := State.reset) hs]
    cases y <;> exact Nat.zero_le _

theorem Moves.users_le (h : Moves s t) (y : StockSet) : t.users y ≤ s.users y := by
  induction h with
  | refl => exact le_rfl
  | tail _ hmove ih => exact (hmove.users_le y).trans ih

/-- An accepted descriptor names a VALID stock set (R15). -/
theorem valid_of_accepted {n : Fin 8} {d : Descriptor} (h : s.describeRefusal n d = none) :
    s.tableState d.stock.table = .valid := by
  unfold State.describeRefusal at h
  repeat' split at h
  all_goals try cases h
  exact not_not.1 ‹_›

theorem SlotSide.usersBacked (h : SlotSide s t) : UsersBacked s t := by
  intro y hy
  cases h with
  | moves h => exact .inl (hy.trans_le (h.users_le y))
  | described n d h =>
    obtain ⟨-, -, husers, -⟩ := acceptSlot_slots s n d
    rw [users_congr h.slots, husers] at hy
    split at hy
    · rename_i hset
      rw [hset]
      exact .inr (valid_of_accepted h.accepted)
    · exact .inl hy

theorem exec_usersBacked (h : exec i s = .next t) : UsersBacked s t := by
  by_cases hi : ∀ dt, i ≠ .describe dt
  · exact (SlotSide.moves (exec_moves_of_ne i hi h)).usersBacked
  · push Not at hi
    obtain ⟨dt, rfl⟩ := hi
    exact (describe_moves h).usersBacked

/-- A unit in use was in use, or VALID (R110, R135). -/
theorem TablesRest.inUse (h : TablesRest s t) (hu : UsersBacked s t) (hx : t.inUse x = true) :
    s.inUse x = true ∨ s.tableState x = .valid := by
  cases x with
  | stockA => exact (hu .a (of_decide_eq_true hx)).imp_left decide_eq_true
  | stockB => exact (hu .b (of_decide_eq_true hx)).imp_left decide_eq_true
  | modulator => exact (h.expo hx).imp_right And.left
  | facet => exact (h.expo hx).imp_right And.right

/-! ## A reload in steps of 64 words, and the states of the tables (R135, R139, R140) -/

/-- The segment a reload requests is the next of its unit (R140). -/
theorem reloadRequest_some (h : s.reloadRequest = some (.reload x first len true)) :
    s.control.reload.inFlight = true ∧ s.control.reload.table = some x ∧ first = s.control.reload.progress
      ∧ len = min 64 (x.span - first) := by
  unfold State.reloadRequest at h
  split at h
  · obtain ⟨y, hy, hunit⟩ := Option.map_eq_some_iff.1 h
    cases hunit
    exact ⟨‹_›, hy, rfl, rfl⟩
  · cases h

theorem TablesSound.rests (h : TablesSound s) (hr : TablesRest s t) (hu : UsersBacked s t) : TablesSound t := by
  obtain ⟨huse, hloading, hsegment⟩ := h
  refine ⟨fun y hy => ?_, fun y => ?_, fun g hg y first len hunit => ?_⟩
  · rw [hr.tableState]
    obtain hy | hy := hr.inUse hu hy
    · exact huse y hy
    · exact .inl hy
  · rw [hr.tableState, hr.reload]
    exact hloading y
  · rw [hr.reload]
    obtain ⟨g', hg', hunit'⟩ | hrequest := hr.segment y first len ⟨g, hg, hunit⟩
    · exact hsegment g' hg' y first len hunit'
    · obtain ⟨hflight, htable, -⟩ := reloadRequest_some hrequest
      exact ⟨hflight, htable⟩

theorem ReloadInStep.rests (h : ReloadInStep s) (hr : TablesRest s t) : ReloadInStep t := by
  obtain ⟨hstep, hsegment⟩ := h
  refine ⟨by rwa [hr.reload], fun g hg y first len hunit => ?_⟩
  rw [hr.reload]
  obtain ⟨g', hg', hunit'⟩ | hrequest := hr.segment y first len ⟨g, hg, hunit⟩
  · exact hsegment g' hg' y first len hunit'
  · exact reloadRequest_some hrequest

/-- A unit that is LOADING is not in use. -/
theorem TablesSound.notInUse (h : TablesSound s) (hx : s.tableState x = .loading) : s.inUse x = false := by
  rw [← Bool.not_eq_true]
  intro huse
  obtain hstate | hstate := h.1 x huse <;> simp [hx] at hstate

theorem inUse_congr (hs : t.slots = s.slots) (he : t.engine = s.engine) (y : TableUnit) : t.inUse y = s.inUse y := by
  cases y <;> simp [State.inUse, State.expo, hs, he]

/-- The use and the states of the units, the unit of the reload in flight and the grant decide. -/
theorem TablesSound.congr (h : TablesSound s) (huse : ∀ y, t.inUse y = s.inUse y)
    (htables : t.control.tables = s.control.tables) (hflight : t.control.reload.inFlight = s.control.reload.inFlight)
    (htable : t.control.reload.table = s.control.reload.table) (hgrant : t.sc.grant = s.sc.grant) : TablesSound t := by
  unfold TablesSound at h ⊢
  simpa only [huse, tableState_congr htables, hflight, htable, hgrant] using h

/-- With no reload in flight no unit is LOADING, and no wanted segment holds the store. -/
theorem tablesSound_of_idle (huse : ∀ y, t.inUse y = true → t.tableState y = .valid ∨ t.tableState y = .stale)
    (hstate : ∀ y, t.tableState y ≠ .loading) (hidle : t.control.reload.inFlight = false)
    (hfree : ∀ y first len, ¬ HoldsSegment t y first len) : TablesSound t := by
  refine ⟨huse, fun y => iff_of_false (hstate y) ?_,
    fun g hg y first len hunit => (hfree y first len ⟨g, hg, hunit⟩).elim⟩
  rw [hidle]
  nofun

/-- The unit a reload ends for is VALID or STALE, and every other is as it was (R142). -/
theorem reloadTaken_sound (h : TablesSound s) (v : Tick) (hgrant : s.sc.grant = some ⟨.reload x first len true, hold⟩) :
    TablesSound (storeFreed (reloadTaken s v x first len)) := by
  obtain ⟨huse, hloading, hsegment⟩ := id h
  obtain ⟨hflight, htable⟩ := hsegment _ hgrant x first len rfl
  have hnotUsed := h.notInUse ((hloading x).2 ⟨hflight, htable⟩)
  obtain ⟨hlast, hmore⟩ := reloadTaken_control s v x first len
  have hstate (y) : (storeFreed (reloadTaken s v x first len)).tableState y = _ :=
    reloadTaken_tableState s v x first len y
  have hused (y) : (storeFreed (reloadTaken s v x first len)).inUse y = s.inUse y :=
    inUse_congr (by rw [storeFreed, reloadTaken_eq]; rfl) (by rw [storeFreed, reloadTaken_eq]; rfl) y
  have hfree : (storeFreed (reloadTaken s v x first len)).sc.grant = none := rfl
  have hcontrol : (storeFreed (reloadTaken s v x first len)).control = (reloadTaken s v x first len).control := rfl
  rw [← hcontrol] at hlast hmore
  generalize storeFreed (reloadTaken s v x first len) = t at *
  have hsound (y) (hy : t.inUse y = true) : t.tableState y = .valid ∨ t.tableState y = .stale := by
    rw [hused] at hy
    rw [hstate, if_neg (by rintro ⟨rfl, -⟩; rw [hnotUsed] at hy; cases hy)]
    exact huse y hy
  by_cases hspan : s.control.reload.progress + len = x.span
  · refine tablesSound_of_idle hsound (fun y => ?_) (by rw [hlast hspan]; rfl) (not_holdsSegment hfree)
    rw [hstate]
    split
    · split <;> nofun
    · intro hother
      obtain ⟨-, hsame⟩ := (hloading y).1 hother
      exact ‹¬ (y = x ∧ _)› ⟨Option.some.inj (hsame.symm.trans htable), hspan⟩
  · refine ⟨hsound, fun y => ?_, by rw [hfree]; nofun⟩
    rw [hstate, if_neg fun hboth => hspan hboth.2, hmore hspan]
    exact hloading y

/-- The unit a reload starts for is LOADING, and no other is (R139). -/
theorem startReload_sound (h : TablesSound s) (hidle : s.control.reload.inFlight = false) (hx : s.inUse x = false) :
    TablesSound (s.startReload x) := by
  obtain ⟨huse, hloading, hsegment⟩ := h
  have hused := inUse_congr (s := s) (t := s.startReload x) rfl rfl
  have hstate (y : TableUnit) : (s.startReload x).tableState y = if y = x then .loading else s.tableState y :=
    tables_get_put _ x y .loading
  refine ⟨fun y hy => ?_, fun y => ?_, fun g hg y first len hunit => ?_⟩
  · rw [hused] at hy
    rw [hstate, if_neg (by rintro rfl; rw [hx] at hy; cases hy)]
    exact huse y hy
  · have hrecord : (s.startReload x).control.reload = ⟨some x, true, 0, false, .none⟩ := rfl
    rw [hstate, hrecord]
    by_cases hy : y = x
    · subst hy
      exact iff_of_true (if_pos rfl) ⟨rfl, rfl⟩
    · rw [if_neg hy, hloading, hidle]
      exact iff_of_false nofun fun h => hy (Option.some.inj h.2).symm
  · obtain ⟨hflight, -⟩ := hsegment g hg y first len hunit
    rw [hidle] at hflight
    cases hflight

/-- A VALID unit made STALE is sound in any use (R136). -/
theorem staled_sound (h : TablesSound s) (hx : s.tableState x = .valid) :
    TablesSound ((s.setTable x .stale).raise .tableStale) := by
  obtain ⟨huse, hloading, hsegment⟩ := h
  have hused := inUse_congr (s := s) (t := (s.setTable x .stale).raise .tableStale) rfl rfl
  have hstate (y : TableUnit) : ((s.setTable x .stale).raise .tableStale).tableState y
      = if y = x then .stale else s.tableState y := tables_get_put _ x y .stale
  refine ⟨fun y hy => ?_, fun y => ?_, hsegment⟩
  · rw [hused] at hy
    rw [hstate]
    split
    · exact .inr rfl
    · exact huse y hy
  · have hsame : y = x → s.tableState y ≠ .loading := by
      rintro rfl
      rw [hx]
      nofun
    refine Iff.trans ?_ (hloading y)
    rw [hstate]
    split
    · exact iff_of_false nofun (hsame ‹_›)
    · exact Iff.rfl

/-- A wanted reload segment is wanted no more once RST is asserted (R143). -/
theorem bridgeBlocks_not_holds (s : State) (y : TableUnit) (first len : Nat) :
    ¬ HoldsSegment (bridgeBlocks s) y first len := by
  rintro ⟨g, hg, hunit⟩
  obtain ⟨g', -, rfl⟩ := Option.mem_map.1 hg
  have hdisowned := disowned_disown g'.unit
  dsimp only at hunit
  rw [hunit] at hdisowned
  cases hdisowned

theorem abandoned_idle (r : ReloadRecord) : r.abandoned.inFlight = false := by
  unfold ReloadRecord.abandoned
  split
  · rfl
  · exact Bool.eq_false_iff.2 ‹_›

theorem bridgeBlocks_sound (s : State) : TablesSound (bridgeBlocks s) := by
  refine tablesSound_of_idle (fun y hy => ?_) (fun y => ?_) (abandoned_idle _) (bridgeBlocks_not_holds s)
  · cases y <;> cases hy
  · rw [State.tableState, show (bridgeBlocks s).control.tables = s.control.tables.kept from rfl, get_kept]
    split
    · nofun
    · assumption

theorem TablesSound.move (h : TablesSound s) (hm : TableMove s t) : TablesSound t := by
  cases hm with
  | captured y o w _ ht =>
    subst ht
    exact h.congr (inUse_congr (by simp) (by simp)) (by simp [capture_control]) (by simp [capture_control])
      (by simp [capture_control]) (by simp)
  | disturbed ht => exact ht ▸ h.congr (inUse_congr rfl rfl) rfl rfl rfl rfl
  | staled y hy ht => exact ht ▸ staled_sound h hy
  | started y hidle huse ht => exact ht ▸ startReload_sound h hidle huse
  | advanced v y first len hold hgrant ht => exact ht ▸ reloadTaken_sound h v hgrant
  | reset ht => exact ht ▸ bridgeBlocks_sound s

/-- The reload in flight, its unit, its progress and the grant decide. -/
theorem ReloadInStep.congr (h : ReloadInStep s) (hflight : t.control.reload.inFlight = s.control.reload.inFlight)
    (htable : t.control.reload.table = s.control.reload.table)
    (hprogress : t.control.reload.progress = s.control.reload.progress) (hgrant : t.sc.grant = s.sc.grant) :
    ReloadInStep t := by
  unfold ReloadInStep at h ⊢
  simpa only [hflight, htable, hprogress, hgrant] using h

/-- A segment that does not end the reload is of 64 words (R140). -/
theorem reloadTaken_inStep (h : ReloadInStep s) (v : Tick)
    (hgrant : s.sc.grant = some ⟨.reload x first len true, hold⟩) :
    ReloadInStep (storeFreed (reloadTaken s v x first len)) := by
  obtain ⟨hstep, hsegment⟩ := h
  obtain ⟨hflight, -, hfirst, hlen⟩ := hsegment _ hgrant x first len rfl
  obtain ⟨hlast, hmore⟩ := reloadTaken_control s v x first len
  have hcontrol : (storeFreed (reloadTaken s v x first len)).control = (reloadTaken s v x first len).control := rfl
  refine ⟨fun hgoes => ?_, nofun⟩
  rw [hcontrol] at hgoes ⊢
  by_cases hspan : s.control.reload.progress + len = x.span
  · rw [hlast hspan] at hgoes
    cases hgoes
  · have hprogress := hstep hflight
    rw [hmore hspan]
    show (s.control.reload.progress + len) % 64 = 0
    omega

theorem ReloadInStep.move (h : ReloadInStep s) (hm : TableMove s t) : ReloadInStep t := by
  cases hm with
  | captured y o w _ ht =>
    subst ht
    exact h.congr (by simp [capture_control]) (by simp [capture_control]) (by simp [capture_control]) (by simp)
  | disturbed ht => exact ht ▸ h.congr rfl rfl rfl rfl
  | staled y _ ht => exact ht ▸ h.congr rfl rfl rfl rfl
  | started y hidle _ ht =>
    subst ht
    refine ⟨fun _ => rfl, fun g hg y first len hunit => ?_⟩
    obtain ⟨hflight, -⟩ := h.2 g hg y first len hunit
    rw [hidle] at hflight
    cases hflight
  | advanced v y first len hold hgrant ht => exact ht ▸ reloadTaken_inStep h v hgrant
  | reset ht =>
    subst ht
    refine ⟨fun hflight => ?_, fun g hg y first len hunit => (bridgeBlocks_not_holds s y first len ⟨g, hg, hunit⟩).elim⟩
    exact absurd (hflight.symm.trans (abandoned_idle s.control.reload)) nofun

/-! ## Power-on -/

theorem powerOn_next {dt : Nat} {straps : Straps} {gate interlock lselLow : Bool}
    (h : exec (.powerOn dt straps gate interlock lselLow) s = .next t) : ∃ v : State, t = v.resample
      ∧ v.slots = State.reset.slots ∧ v.control = State.reset.control ∧ v.engine = State.reset.engine
      ∧ v.feeder = State.reset.feeder ∧ v.sc.grant = none ∧ v.store = State.reset.store := by
  cases h
  exact ⟨_, rfl, rfl, rfl, rfl, rfl, rfl, rfl⟩

/-! ## The invariants of the tables -/

theorem exec_keeps_tablesSound (h : exec i s = .next t) (hs : TablesSound s) : TablesSound t := by
  by_cases hi : ∀ dt straps gate interlock lselLow, i ≠ .powerOn dt straps gate interlock lselLow
  · cases exec_tableSide hi h with
    | rests hr => exact hs.rests hr (exec_usersBacked h)
    | moved u w hu hbefore hmove hw hafter =>
      exact ((hs.rests hu (usersBacked_of_slots hbefore)).move hmove).rests hw (usersBacked_of_slots hafter)
  · push Not at hi
    obtain ⟨dt, straps, gate, interlock, lselLow, rfl⟩ := hi
    obtain ⟨v, rfl, hslots, hcontrol, hengine, -, hgrant, -⟩ := powerOn_next h
    have hv : TablesSound v := tablesSound_reset.congr (inUse_congr hslots hengine) (by rw [hcontrol])
      (by rw [hcontrol]) (by rw [hcontrol]) (hgrant.trans rfl)
    exact hv.rests (tablesRest_resample v) (usersBacked_of_slots (by simp))

theorem exec_keeps_reloadInStep (h : exec i s = .next t) (hs : ReloadInStep s) : ReloadInStep t := by
  by_cases hi : ∀ dt straps gate interlock lselLow, i ≠ .powerOn dt straps gate interlock lselLow
  · cases exec_tableSide hi h with
    | rests hr => exact hs.rests hr
    | moved u w hu _ hmove hw _ => exact ((hs.rests hu).move hmove).rests hw
  · push Not at hi
    obtain ⟨dt, straps, gate, interlock, lselLow, rfl⟩ := hi
    obtain ⟨v, rfl, -, hcontrol, -, -, hgrant, -⟩ := powerOn_next h
    have hv : ReloadInStep v := ⟨by rw [hcontrol]; nofun, by rw [hgrant]; nofun⟩
    exact hv.rests (tablesRest_resample v)

/-- Settles O55: a reload starts for a unit not in use, an exposure with its units VALID, and a stock set gains users
when it is VALID; a segment that does not end the reload is of 64 words. -/
theorem tablesStaySound : Obligations.TablesStaySound := by
  unfold Obligations.TablesStaySound
  refine ⟨fun s t hs h => ?_, fun s t hs h => ?_⟩
  all_goals
    unfold step at h
    split at h
  · cases h
    exact hs
  · exact exec_keeps_tablesSound h hs
  · cases h
    exact hs
  · exact exec_keeps_reloadInStep h hs

end Sys2Proof.Safety
end

section
/-! The contents of the memories: a stock set in use keeps its shadow, and every memory keeps its canonical form (R136,
R143, R152). -/

namespace Sys2Proof.Safety

open Machine

variable {s t u : State} {i : Instr} {y : StockSet}

/-! ## A stock set in use (R136) -/

theorem unitOf_stockSet (y : StockSet) : unitOf y.mem = some y.table := by cases y <;> rfl

theorem inUse_stockSet (h : 0 < s.users y) : s.inUse y.table = true := by
  cases y <;> exact decide_eq_true h

/-- A capture is of a unit not in use, and so is a reload. -/
theorem TableMove.stockSet_kept (h : TablesSound s) (hm : TableMove s t) (hy : 0 < s.users y) :
    t.control.shadows.get y.mem = s.control.shadows.get y.mem := by
  have hother {x : TableUnit} (hx : s.inUse x = false) : unitOf y.mem ≠ some x := by
    rw [unitOf_stockSet]
    rintro ⟨⟩
    exact Bool.false_ne_true (hx.symm.trans (inUse_stockSet hy))
  cases hm with
  | captured x o w huse ht => exact ht ▸ capture_other (hother huse) s o w
  | staled x _ ht => exact ht ▸ rfl
  | disturbed ht => exact ht ▸ rfl
  | started x _ _ ht => exact ht ▸ rfl
  | advanced v x first len hold hgrant ht =>
    subst ht
    obtain ⟨-, hloading, hsegment⟩ := id h
    have hnotUsed := h.notInUse ((hloading x).2 (hsegment _ hgrant x first len rfl))
    rw [storeFreed, State.setSc_control, reloadTaken_shadows]
    exact reloadWords_other (hother hnotUsed) _ first len
  | reset ht => exact ht ▸ rfl

/-- Settles O59: no row but a capture and a reload writes a shadow, and both are of units not in use. -/
theorem stockSetInUseIsFrozen : Obligations.StockSetInUseIsFrozen := by
  unfold Obligations.StockSetInUseIsFrozen
  intro c s t x hs hc h hx
  cases exec_tableSide hc h with
  | rests hr => rw [hr.shadows]
  | moved u w hu hbefore hmove hw _ =>
    have hsound := hs.rests hu (usersBacked_of_slots hbefore)
    rw [hw.shadows, hmove.stockSet_kept hsound (by rwa [users_congr hbefore]), hu.shadows]

/-! ## Canonical form (R143, R152) -/

/-- The entries written by a move keep the shadows' form. -/
theorem TableMove.canonical (hm : TableMove s t) (h : Canonical s.control.shadows) : Canonical t.control.shadows := by
  cases hm with
  | captured x o w _ ht => exact ht ▸ capture_canonical h x o w
  | staled x _ ht => exact ht ▸ h
  | disturbed ht => exact ht ▸ h
  | started x _ _ ht => exact ht ▸ h
  | advanced v x first len hold hgrant ht =>
    subst ht
    rw [storeFreed, State.setSc_control, reloadTaken_shadows]
    exact reloadWords_canonical (s := s.setNow v) h x first len
  | reset ht => exact ht ▸ h

/-- No move of the tables writes a bank word. -/
theorem TableMove.bankWords (hm : TableMove s t) (b : Fin 2) : (t.bank b).words = (s.bank b).words := by
  cases hm with
  | captured x o w _ ht => simp [ht]
  | staled x _ ht => exact ht ▸ rfl
  | disturbed ht => exact ht ▸ rfl
  | started x _ _ ht => exact ht ▸ rfl
  | advanced v x first len hold hgrant ht =>
    subst ht
    have hfeeder : (reloadTaken s v x first len).feeder = s.feeder := by rw [reloadTaken_eq]
    exact congrArg Bank.words (bank_congr hfeeder b)
  | reset ht =>
    subst ht
    show ((s.feeder.banks.map Bank.freed)[b]).words = _
    simp [Bank.freed, State.bank]

/-- The row of a placed beat writes one word of the store, or none. -/
theorem Handles.store_wf {b : Beat} {k : BeatKind} (h : Handles u t b k) (hu : u.store.wf = true) :
    t.store.wf = true := by
  cases h with
  | dropped h => rwa [h.store]
  | stored _ h =>
    rw [h.store]
    exact State.storeWord_wf u b.addr b.data b.enables hu
  | converted n _ _ w h =>
    rw [h.store]
    exact State.storeWord_wf u b.addr w _ hu

theorem exec_keeps_store_wf (h : exec i s = .next t) (hs : s.store.wf = true) : t.store.wf = true := by
  cases exec_kind i h with
  | powerOn dt straps gate interlock lselLow hpower =>
    subst hpower
    obtain ⟨v, rfl, -, -, -, -, -, hstore⟩ := powerOn_next h
    have hkept : v.resample.store = State.reset.store := by simp [hstore]
    rw [hkept]
    exact State.reset_store_wf
  | readBeat dt hread =>
    subst hread
    obtain ⟨x, w, buffer, snap, -, -, rfl⟩ := readBeat_delivers h
    obtain ⟨-, hstore, -⟩ := deliver_frame (s.setNow (s.now + dt)) x w buffer snap
    rwa [hstore]
  | link v _ hacts =>
    obtain ⟨-, hstore, -⟩ := hacts.kept
    rwa [hstore]
  | side hside =>
    cases hside with
    | rests hrests => rwa [hrests.store]
    | placed v left hold b rest _ _ hhandles => exact hhandles.store_wf hs

theorem exec_keeps_canonical (h : exec i s = .next t) (hs : MemoriesCanonical s) : MemoriesCanonical t := by
  obtain ⟨hstore, hshadows, hwords⟩ := hs
  refine ⟨exec_keeps_store_wf h hstore, ?_⟩
  by_cases hi : ∀ dt straps gate interlock lselLow, i ≠ .powerOn dt straps gate interlock lselLow
  · cases exec_tableSide hi h with
    | rests hr => exact ⟨hr.shadows ▸ hshadows, hr.words hwords⟩
    | moved u w hu _ hmove hw _ =>
      have hmoved : Canonical w.control.shadows := hmove.canonical (hu.shadows ▸ hshadows)
      refine ⟨hw.shadows ▸ hmoved, hw.words fun b => ?_⟩
      rw [hmove.bankWords]
      exact hu.words hwords b
  · push Not at hi
    obtain ⟨dt, straps, gate, interlock, lselLow, rfl⟩ := hi
    obtain ⟨v, rfl, -, hcontrol, -, hfeeder, -, -⟩ := powerOn_next h
    obtain ⟨-, hcleared, hblank⟩ := memoriesCanonical_reset
    have hrests := tablesRest_resample v
    refine ⟨?_, hrests.words fun b => ?_⟩
    · rw [hrests.shadows, hcontrol]
      exact hcleared
    · rw [bank_congr hfeeder]
      exact hblank b

/-- Settles O58: a capture writes shadow entries, a placement store cells and a fetch bank words, each in its order. -/
theorem memoriesStayCanonical : Obligations.MemoriesStayCanonical := by
  unfold Obligations.MemoriesStayCanonical
  intro s t hs h
  unfold step at h
  split at h
  · cases h
    exact hs
  · exact exec_keeps_canonical h hs

end Sys2Proof.Safety
end

section
/-! What refresh timing looks at in the Store Controller. A discarded segment or beat changes the unit that holds the
store and no hold, so every command that asks for no grant decision leaves the timing (R120, R143, R154 to R157). -/

namespace Sys2Proof.Safety

open Machine

variable {s t : State}

/-- The hold of the store, and whether a refresh has it (R155). -/
def pace (g : Grant) : Timer × Bool := (g.hold, decide (g.unit = .refresh))

/-- The timers, the pending refreshes and the hold of the store (R153 to R155). -/
def timing (c : StoreController) : Option Timer × Option Timer × Nat × Option (Timer × Bool) :=
  (c.init, c.refresh, c.pendingRefresh, c.grant.map pace)

/-- Controllers of the same timing differ in the size, and in what the unit is if it is no refresh. -/
theorem timing_parts {c d : StoreController} (h : timing d = timing c) : d.init = c.init ∧ d.refresh = c.refresh
    ∧ d.pendingRefresh = c.pendingRefresh
    ∧ ∀ g ∈ d.grant, ∃ k ∈ c.grant, k.hold = g.hold ∧ (k.unit = .refresh ↔ g.unit = .refresh) := by
  simp only [timing, Prod.mk.injEq] at h
  obtain ⟨hinit, hrefresh, hcount, hgrant⟩ := h
  refine ⟨hinit, hrefresh, hcount, fun g hg => ?_⟩
  rw [Option.mem_def.1 hg, Option.map_some, eq_comm, Option.map_eq_some_iff] at hgrant
  obtain ⟨k, hk, hsame⟩ := hgrant
  rw [pace, pace, Prod.mk.injEq, decide_eq_decide] at hsame
  exact ⟨k, hk, hsame⟩

/-! ## The unit that holds the store (R34, R45, R120, R157) -/

theorem timing_mapUnit (s : State) {f : GrantUnit → GrantUnit} (hf : ∀ g, f g = .refresh ↔ g = .refresh) :
    timing (s.mapUnit f).sc = timing s.sc := by
  have hpace : (pace ∘ fun g => { g with unit := f g.unit }) = pace := by
    funext g
    simp [pace, hf]
  simp [timing, State.mapUnit, hpace]

theorem takeBeat_refresh (g : GrantUnit) : g.takeBeat = .refresh ↔ g = .refresh := by
  cases g <;> simp [GrantUnit.takeBeat]

theorem dropFetch_refresh (g : GrantUnit) : g.dropFetch = .refresh ↔ g = .refresh := by
  cases g <;> simp [GrantUnit.dropFetch]

theorem dropRead_refresh (g : GrantUnit) : g.dropRead = .refresh ↔ g = .refresh := by
  cases g <;> simp [GrantUnit.dropRead]

theorem disown_refresh (g : GrantUnit) : g.disown = .refresh ↔ g = .refresh := by
  cases g <;> simp [GrantUnit.disown, GrantUnit.dropFetch, GrantUnit.dropRead, GrantUnit.dropReload,
    GrantUnit.dropBeats]

@[simp] theorem dropBeat_timing (s : State) : timing s.dropBeat.sc = timing s.sc :=
  timing_mapUnit (s.setQueue s.queue.tail) takeBeat_refresh

@[simp] theorem abandonFetch_timing (s : State) : timing s.abandonFetch.sc = timing s.sc :=
  timing_mapUnit (s.setFeeder { s.feeder with fetch := none }) dropFetch_refresh

/-! ## The feeder and the engine (R106, R111 to R113, R118 to R120, R126) -/

@[simp] theorem clearFeeder_timing (s : State) : timing s.clearFeeder.sc = timing s.sc := by
  rw [clearFeeder_sc, timing_mapUnit s dropFetch_refresh]

@[simp] theorem enterStopped_timing (s : State) : timing s.enterStopped.sc = timing s.sc := by
  rw [enterStopped_sc, timing_mapUnit s dropFetch_refresh]

@[simp] theorem releaseBelow_timing (s : State) (l : Nat) (b : Fin 2) :
    timing (s.releaseBelow l b).sc = timing s.sc := by
  unfold State.releaseBelow State.releaseBank
  split
  · dsimp only
    split <;> simp
  · rfl

@[simp] theorem discardPrefetch_timing (s : State) (n : Fin 8) : timing (s.discardPrefetch n).sc = timing s.sc := by
  unfold State.discardPrefetch
  split <;> simp

@[simp] theorem abortFrame_timing (s : State) (c : FaultCause) : timing (s.abortFrame c).sc = timing s.sc := by
  unfold State.abortFrame
  split
  · dsimp only
    split <;> simp
  · rfl

@[simp] theorem beginSweep_timing (s : State) (n : Fin 8) (out : Bool) :
    timing (s.beginSweep n out).sc = timing s.sc := by
  have hchoose (v : State) (l : Nat) : timing (v.chooseBank n l).sc = timing v.sc := by
    dsimp only [State.chooseBank]
    split <;> simp
  have himage (v : State) (l : Nat) (first : Bool) : timing (v.imageSweep n l first out).sc = timing v.sc := by
    cases first <;> cases out <;> simp [State.imageSweep, hchoose]
  dsimp only [State.beginSweep]
  split <;> simp [himage]

@[simp] theorem takePulse_timing (s : State) (out : Bool) : timing (s.takePulse out).sc = timing s.sc := by
  have hend (v : State) (n : Fin 8) : timing (v.endFrame n).sc = timing v.sc := by simp [State.endFrame]
  have hnext (n : Fin 8) : timing (s.nextSweep n out).sc = timing s.sc := by
    dsimp only [State.nextSweep]
    split <;> simp [hend]
  unfold State.takePulse
  repeat' split
  all_goals simp [State.startFrame, hnext]

@[simp] theorem gateFalls_timing (s : State) : timing s.gateFalls.sc = timing s.sc := by
  unfold State.gateFalls
  repeat' split
  all_goals simp

/-! ## The scanner and the pixel clock (R90 to R101, R122) -/

@[simp] theorem slip_timing (s : State) : timing s.slip.sc = timing s.sc := by simp [State.slip]

@[simp] theorem acceptSos_timing (s : State) : timing s.acceptSos.sc = timing s.sc := by
  have hjudge (v : State) (j : Judgement) : timing (v.applyJudgement j).sc = timing v.sc := by
    have hto := applyJudgement_to v j
    generalize v.applyJudgement j = a at hto ⊢
    cases hto <;> simp
  simp only [State.acceptSos, State.countFacet]
  repeat' split
  all_goals simp [hjudge]

@[simp] theorem takeHome_timing (s : State) : timing s.takeHome.sc = timing s.sc := by
  unfold State.takeHome
  repeat' split
  all_goals simp [State.primeFacets]

@[simp] theorem fallSilent_timing (s : State) : timing s.fallSilent.sc = timing s.sc := by
  dsimp only [State.fallSilent]
  split <;> simp

@[simp] theorem pixelClock_sc (s : State) : s.pixelClock.sc = s.sc := by
  unfold State.pixelClock
  split
  · dsimp only [State.sendPixel]
    split <;> simp [State.countClock, State.output]
  · rfl

/-! ## The commands (R147) and the placements -/

theorem slotCommand_timing {effect : State → Fin 8 → State × CmdOutcome}
    (h : ∀ v n, timing (effect v n).1.sc = timing v.sc) (s : State) (w : Word) :
    timing (slotCommand effect s w).1.sc = timing s.sc := by
  unfold slotCommand
  split
  · rfl
  · exact h s _

theorem describeSlot_timing (s : State) (n : Fin 8) : timing (s.describeSlot n).1.sc = timing s.sc := by
  obtain h | ⟨d, -, h⟩ := describeSlot_or s n
  · rw [h]
  · simp [h, State.acceptSlot, State.joinQueue]

theorem sealFrame_timing (s : State) (n : Fin 8) : timing (s.sealFrame n).1.sc = timing s.sc := by
  unfold State.sealFrame
  split <;> simp

theorem withdrawSlot_timing (s : State) (n : Fin 8) : timing (s.withdrawSlot n).1.sc = timing s.sc := by
  unfold State.withdrawSlot
  split <;> simp

theorem releaseSlot_timing (s : State) (n : Fin 8) : timing (s.releaseSlot n).1.sc = timing s.sc := by
  unfold State.releaseSlot
  split <;> simp

theorem reloadTable_timing (s : State) (w : Word) : timing (s.reloadTable w).1.sc = timing s.sc := by
  unfold State.reloadTable
  repeat' split
  all_goals simp [State.startReload]

theorem runEngine_timing (s : State) : timing s.runEngine.sc = timing s.sc := by
  unfold State.runEngine
  split <;> simp [State.setHalt]

theorem haltEngine_timing (s : State) : timing s.haltEngine.sc = timing s.sc := by
  unfold State.haltEngine
  split <;> simp [State.setHalt]

theorem abortEngine_timing (s : State) : timing s.abortEngine.sc = timing s.sc := by
  unfold State.abortEngine
  split <;> simp

theorem scanApplied_timing (s : State) : timing s.scanApplied.1.sc = timing s.sc := by
  unfold State.scanApplied
  split <;> simp [State.applyScan, State.clearScanStats]

theorem stepMonitor_timing (s : State) : timing s.stepMonitor.sc = timing s.sc := by
  unfold State.stepMonitor
  repeat' split
  all_goals rfl

theorem pictureBeat_timing (s : State) (n : Fin 8) (b : Beat) : timing (s.pictureBeat n b).sc = timing s.sc := by
  dsimp only [State.pictureBeat]
  split
  · simp
  · split
    · rfl
    · simp [convertBeat_eq]

theorem tableWord_timing (s : State) (x : TableUnit) (o : Nat) (b : Beat) :
    timing (s.tableWord x o b).sc = timing s.sc := by
  dsimp only [State.tableWord]
  repeat' split
  all_goals simp [State.disturb]

/-! ## Every command that asks for no grant decision -/

theorem timing_after {dt : Nat} {body : State → Result} (h : s.after dt body = .next t)
    (hb : ∀ v, body v = .next t → timing t.sc = timing v.sc) : timing t.sc = timing s.sc :=
  hb (s.setNow (s.now + dt)) (State.after_next h).2

theorem timing_atEnd {x : Option Timer} {body : State → Result} (h : s.atEnd x body = .next t)
    (hb : ∀ v, body v = .next t → timing t.sc = timing v.sc) : timing t.sc = timing s.sc := by
  obtain ⟨y, -, -, hbody⟩ := State.atEnd_next h
  exact hb (s.setNow y.ends) hbody

/-- A placement takes a beat of the unit and leaves its hold (R34). -/
theorem timing_place {dt : Nat} {body : State → Beat → BeatKind → Option State} (h : s.place dt body = .next t)
    (hb : ∀ v b k, body v b k = some t → timing t.sc = timing v.sc) : timing t.sc = timing s.sc := by
  obtain ⟨-, b, -, -, -, -, -, -, ht⟩ := State.place_next h
  exact (hb _ _ _ ht).trans (dropBeat_timing (s.setNow (s.now + dt)))

theorem timing_runCommand {dt : Nat} {c : Cmd} {effect : State → Word → State × CmdOutcome}
    (h : s.runCommand dt c effect = .next t) (he : ∀ v w, timing (effect v w).1.sc = timing v.sc) :
    timing t.sc = timing s.sc := by
  refine timing_place h fun v b k hv => ?_
  split at hv
  · split at hv <;> cases hv
    simp [he]
  · cases hv

/-- The commands that may ask for a grant decision, and power-on (R44, R153, R156). -/
def decisionRow : Instr → Bool
  | .powerOn .. | .rstRelease .. | .linkHeader .. | .writeBeat .. | .readBeat .. | .storeInitEnd | .refreshDue
  | .refreshDone .. | .readSegmentDone .. | .placementUnitEnd .. | .feederSegmentDone .. | .reloadSegmentDone ..
  | .fetchBegin .. => true
  | _ => false

theorem exec_timing (i : Instr) (hi : decisionRow i = false) (h : exec i s = .next t) :
    timing t.sc = timing s.sc := by
  unfold exec at h
  cases i with
  | powerOn | rstRelease | linkHeader | writeBeat | readBeat | storeInitEnd | refreshDue | refreshDone | readSegmentDone
  | placementUnitEnd | feederSegmentDone | reloadSegmentDone | fetchBegin => cases hi
  | rstAssert =>
    refine timing_after h fun v hv => ?_
    cases hv
    have hsc : v.bridgeReset.sc = (v.mapUnit GrantUnit.disown).sc := by
      rw [bridgeReset_eq]
      simp [bridgeBlocks, State.mapUnit]
    rw [hsc, timing_mapUnit v disown_refresh]
  | readAdmit | writeAdmit =>
    refine timing_after h fun v hv => ?_
    repeat' split at hv
    all_goals cases hv
    rfl
  | lselRise => exact timing_after h fun v hv => by cases hv; exact timing_mapUnit _ dropRead_refresh
  | noEnableBeat | storePlainWord | statusPageWrite | stagingWrite | auxFunctionWrite =>
    refine timing_place h fun v b k hv => ?_
    split at hv <;> cases hv
    all_goals rfl
  | eventSettingsWrite | malformedCommand | unknownCommand =>
    refine timing_place h fun v b k hv => ?_
    split at hv <;> cases hv
    simp [State.setEventWord]
  | placePictureWord dt arisen =>
    refine timing_place h fun v b k hv => ?_
    split at hv <;> cases hv
    simp [pictureBeat_timing]
  | tableWordWrite =>
    refine timing_place h fun v b k hv => ?_
    split at hv <;> cases hv
    simp [tableWord_timing]
  | describe => exact timing_runCommand h (slotCommand_timing describeSlot_timing)
  | sealSlot => exact timing_runCommand h (slotCommand_timing sealFrame_timing)
  | withdraw => exact timing_runCommand h (slotCommand_timing withdrawSlot_timing)
  | release => exact timing_runCommand h (slotCommand_timing releaseSlot_timing)
  | reload => exact timing_runCommand h reloadTable_timing
  | run => exact timing_runCommand h fun v _ => runEngine_timing v
  | halt => exact timing_runCommand h fun v _ => haltEngine_timing v
  | abort => exact timing_runCommand h fun v _ => abortEngine_timing v
  | scanApply => exact timing_runCommand h fun v _ => scanApplied_timing v
  | clearScanStats | monitorStop => exact timing_runCommand h fun _ _ => rfl
  | clearEvents => exact timing_runCommand h fun v w => by simp [State.clearSticky]
  | monitorStep => exact timing_runCommand h fun v _ => stepMonitor_timing v
  | sos =>
    refine timing_after h fun v hv => ?_
    cases hv
    repeat' split
    · rfl
    · rfl
    · exact acceptSos_timing v
  | home =>
    refine timing_after h fun v hv => ?_
    cases hv
    split
    · rfl
    · exact takeHome_timing v
  | silenceExpiry => exact timing_atEnd h fun v hv => by cases hv; exact fallSilent_timing v
  | pixelDrive => exact timing_after h fun v hv => by cases hv; simp
  | gateFall => exact timing_after h fun v hv => by cases hv; exact gateFalls_timing (v.setGate false)
  | gateRise => exact timing_after h fun v hv => by cases hv; rfl
  | interlockOpen => exact timing_after h fun v hv => by cases hv; simp [State.zeroDrives]
  | interlockClose => exact timing_after h fun v hv => by cases hv; simp
  | gateReleaseExpiry => exact timing_atEnd h fun v hv => by cases hv; simp
  | donePulseEnd | pulseStretchEnd | sweepPulseEnd | frameStartPulseEnd | activityExpiry | activityBlinkToggle =>
    exact timing_atEnd h fun v hv => by cases hv; rfl

end Sys2Proof.Safety
end

section
/-! The bursts of open transactions stay those a header can name (R26). -/

namespace Sys2Proof.Safety

open Machine

variable {s t u : State} {x : Txn}

/-- The open transaction's burst is one a header can name (R26). -/
def BurstFits (s : State) : Prop := ∀ x ∈ s.link.txn, burstFits x.burst = true

theorem BurstFits.of_txn (hx : s.link.txn = some x) (h : burstFits x.burst = true) : BurstFits s := by
  intro y hy
  rw [Option.mem_def, hx] at hy
  cases hy
  exact h

theorem BurstFits.of_idle (h : s.link.txn = none) : BurstFits s := by
  intro y hy
  rw [h] at hy
  cases hy

theorem BurstFits.congr (h : t.link.txn.map Txn.burst = s.link.txn.map Txn.burst) (hs : BurstFits s) :
    BurstFits t := by
  intro y hy
  rw [Option.mem_def.1 hy, Option.map_some, eq_comm, Option.map_eq_some_iff] at h
  obtain ⟨x, hx, hxy⟩ := h
  exact hxy ▸ hs x hx

/-- The Store Controller leaves the burst of an open read (R31). -/
theorem burst_of_served (h : t.link.txn.map served = s.link.txn.map served) :
    t.link.txn.map Txn.burst = s.link.txn.map Txn.burst := by
  have hburst : Txn.burst ∘ served = Txn.burst := rfl
  simpa [Option.map_map, hburst] using congrArg (Option.map Txn.burst) h

/-- The four bursts of a header (R26). -/
theorem headerTxn_fits (s : State) (w : Word) : burstFits (s.headerTxn w).burst = true := by
  rw [headerTxn_eq]
  dsimp only
  split_ifs <;> rfl

theorem openTxn_fits (s : State) (w : Word) : BurstFits (s.openTxn w) := by
  obtain ⟨wants, -, hopen⟩ := openTxn_txn s w
  rw [hopen]
  refine .of_txn (s := (headed s w).arbitrate.setTxn _) rfl ?_
  exact headerTxn_fits s w

theorem LinkActs.burstFits (h : LinkActs s t) (hs : BurstFits s) : BurstFits t := by
  cases h with
  | ignored h => exact h ▸ hs
  | held h => subst h; exact hs
  | closed hn ht => exact .of_idle ht
  | opened w h => subst h; exact openTxn_fits _ w
  | admitted x hx hr h => subst h; exact .of_txn rfl (hs x hx)
  | outside x hx ho h => subst h; exact .of_txn rfl (hs x hx)
  | queued x w en hx hw hr ho hb h =>
    subst h
    obtain ⟨v, htxn, -⟩ := arbitrate_txn (s := (s.setTxn (some { x with beats := x.beats + 1 })).setQueue
      (s.queue ++ [⟨s.nextAddr x, w, en⟩])) rfl
    exact .of_txn htxn (hs x hx)
  | overrun x hx hb h =>
    subst h
    have htxn : (s.overrunBeat x).link.txn = some { x with beats := x.beats + 1 } := by simp [State.overrunBeat]
    exact .of_txn htxn (hs x hx)

theorem exec_burstFits {c : Instr} (h : exec c s = .next t) (hs : BurstFits s) : BurstFits t := by
  cases exec_kind c h with
  | powerOn dt straps gate interlock lselLow hpower =>
    subst hpower
    obtain ⟨w, hrun, -⟩ := exec_powerOn dt straps gate interlock lselLow s
    rw [h] at hrun
    cases hrun
    exact .of_idle rfl
  | readBeat dt hread =>
    subst hread
    obtain ⟨x, w, buffer, snap, hx, -, rfl⟩ := readBeat_delivers h
    obtain ⟨wants, htxn⟩ := deliver_txn (s.setNow (s.now + dt)) x w buffer snap
    exact .of_txn htxn (hs x hx)
  | link v hv hacts => exact hacts.burstFits hs
  | side hside =>
    obtain ⟨-, htxn, -⟩ := hside.kept
    exact hs.congr (burst_of_served htxn)

end Sys2Proof.Safety
end

section
/-! What a step makes of the Store Controller's timing: it leaves it, or it ends with a grant decision, before which the
store came into service, a refresh fell due, a unit ended, or the timing was left (R153 to R156). -/

namespace Sys2Proof.Safety

open Machine

variable {s t u v : State} {c d : StoreController}

/-- What a step does to the controller at tick `v` before it asks for a grant decision. -/
inductive BeforeDecision (v : Tick) (c d : StoreController) : Prop
  /-- Other blocks change, and with them the requests (R155). -/
  | rests (h : timing d = timing c)
  /-- A unit that is no refresh ends (R156). -/
  | ended (g : GrantUnit) (hold : Timer) (hg : c.grant = some ⟨g, hold⟩) (hu : g ≠ .refresh)
      (h : d = { c with grant := none })
  /-- A refresh ends (R154). -/
  | refreshed (hold : Timer) (hg : c.grant = some ⟨.refresh, hold⟩)
      (h : d = { c with grant := none, pendingRefresh := c.pendingRefresh - 1 })
  /-- A refresh falls due (R154). -/
  | due (x : Timer) (hx : c.refresh = some x) (hv : v = x.ends)
      (h : d = { c with pendingRefresh := c.pendingRefresh + 1, refresh := some ⟨v, 780⟩ })
  /-- The store comes into service (R153). -/
  | inService (x : Timer) (hx : c.init = some x) (h : d = { c with init := none, refresh := some ⟨v, 780⟩ })

/-- In the tick, the Store Controller and the bursts, `t` is `u` after a grant decision. -/
structure DecidedFrom (u t : State) : Prop where
  now : t.now = u.now
  sc : t.sc = u.arbitrate.sc
  burst : t.link.txn.map Txn.burst = u.link.txn.map Txn.burst

theorem decidedFrom_arbitrate (u : State) : DecidedFrom u u.arbitrate :=
  ⟨by simp, rfl, burst_of_served (rests_arbitrate u).txn⟩

theorem decidedFrom_admitNow (h : DecidedFrom u t) : DecidedFrom u t.admitNow := by
  obtain ⟨hnow, hsc, hburst⟩ := h
  unfold State.admitNow
  repeat' split
  · exact ⟨hnow, hsc, by simpa [State.setTxn, *] using hburst⟩
  · exact ⟨hnow, hsc, hburst⟩
  · exact ⟨hnow, hsc, hburst⟩

/-- What a command other than power-on makes of the Store Controller's timing. -/
inductive Paces (s t : State) : Prop
  | rests (h : timing t.sc = timing s.sc)
  | decides (u : State) (hbefore : BeforeDecision u.now s.sc u.sc) (h : DecidedFrom u t)

theorem paces_arbitrate (h : BeforeDecision u.now s.sc u.sc) : Paces s u.arbitrate :=
  .decides u h (decidedFrom_arbitrate u)

/-- A unit that is no refresh ends, whatever its words did in the other blocks (R156). -/
theorem paces_endUnit {g : GrantUnit} {hold : Timer} (hu : u.sc = s.sc) (hg : s.sc.grant = some ⟨g, hold⟩)
    (hunit : g ≠ .refresh) : Paces s u.endUnit :=
  paces_arbitrate (.ended g hold hg hunit (by simp [hu]))

/-! ## The rows -/

theorem paces_after {dt : Nat} {body : State → Result} (h : s.after dt body = .next t)
    (hb : ∀ v, v.sc = s.sc → body v = .next t → Paces s t) : Paces s t :=
  hb (s.setNow (s.now + dt)) rfl (State.after_next h).2

theorem paces_linkHeader {dt : Nat} {w w' : Word} (h : execLinkHeader dt w w' s = .next t) : Paces s t := by
  refine paces_after h fun v hsc hv => ?_
  dsimp only at hv
  repeat' split at hv
  all_goals cases hv
  · exact .rests (congrArg timing hsc)
  · exact .rests (congrArg timing hsc)
  · generalize hheard : (v.setPins { v.pins with lselLow := true }).setLink { v.link with ld := none } = a
    have hasc : a.sc = s.sc := by rw [← hheard]; exact hsc
    have hheaded : (headed a w).sc = a.sc := headed_keeps a w .sc (by simp)
    rw [openTxn_eq]
    exact .decides _ (.rests (congrArg timing (hheaded.trans hasc))) (decidedFrom_admitNow (decidedFrom_arbitrate _))

theorem paces_writeBeat {dt : Nat} {w : Word} {en : Enables} (h : execWriteBeat dt w en s = .next t) : Paces s t := by
  refine paces_after h fun v hsc hv => ?_
  repeat' split at hv
  all_goals cases hv
  · exact .rests (congrArg timing hsc)
  · exact .rests (congrArg timing hsc)
  · exact paces_arbitrate (.rests (congrArg timing hsc))
  · exact .rests (by simp [State.overrunBeat, hsc])

theorem paces_readBeat {dt : Nat} (h : execReadBeat dt s = .next t) : Paces s t := by
  obtain ⟨x, w, buffer, snap, -, -, rfl⟩ := readBeat_delivers h
  exact paces_arbitrate (.rests rfl)

theorem paces_refreshDone {dt : Nat} (h : execRefreshDone dt s = .next t) : Paces s t := by
  refine paces_after h fun v hsc hv => ?_
  split at hv <;> cases hv
  rename_i hold hg
  exact paces_arbitrate (.refreshed hold (hsc ▸ hg) (by simp [hsc]))

theorem paces_readSegmentDone {dt : Nat} (h : execReadSegmentDone dt s = .next t) : Paces s t := by
  have hfill (v : State) (l : List Nat) : (v.fillBuffer l).sc = v.sc := by
    unfold State.fillBuffer
    split <;> rfl
  refine paces_after h fun v hsc hv => ?_
  split at hv
  · rename_i hg
    rw [hsc] at hg
    repeat' split at hv
    all_goals cases hv
    · exact paces_endUnit ((hfill _ _).trans hsc) hg nofun
    · exact paces_endUnit hsc hg nofun
  · cases hv

theorem paces_placementUnitEnd {dt : Nat} (h : execPlacementUnitEnd dt s = .next t) : Paces s t := by
  refine paces_after h fun v hsc hv => ?_
  split at hv
  · rename_i hg
    rw [hsc] at hg
    split at hv <;> cases hv
    exact paces_endUnit hsc hg nofun
  · cases hv

theorem paces_feederSegmentDone {dt : Nat} (h : execFeederSegmentDone dt s = .next t) : Paces s t := by
  refine paces_after h fun v hsc hv => ?_
  split at hv
  · rename_i hg _
    rw [hsc] at hg
    split at hv <;> cases hv
    refine paces_endUnit ?_ hg nofun
    rw [advanceFetch_eq]
    exact hsc
  · rename_i hg _
    rw [hsc] at hg
    cases hv
    exact paces_endUnit hsc hg nofun
  · cases hv

theorem paces_reloadSegmentDone {dt : Nat} (h : execReloadSegmentDone dt s = .next t) : Paces s t := by
  refine paces_after h fun v hsc hv => ?_
  split at hv
  · rename_i hg
    rw [hsc] at hg
    repeat' split at hv
    all_goals cases hv
    · refine paces_endUnit ?_ hg nofun
      rw [advanceReload_eq, reloadWords_eq]
      exact hsc
    · exact paces_endUnit hsc hg nofun
  · cases hv

theorem exec_paces (i : Instr) (hi : ∀ dt straps gate interlock lselLow, i ≠ .powerOn dt straps gate interlock lselLow)
    (h : exec i s = .next t) : Paces s t := by
  cases hrow : decisionRow i with
  | false => exact .rests (exec_timing i hrow h)
  | true =>
    unfold exec at h
    cases i with
    | powerOn dt straps gate interlock lselLow => exact absurd rfl (hi dt straps gate interlock lselLow)
    | rstRelease =>
      refine paces_after h fun v hsc hv => ?_
      dsimp only at hv
      split at hv <;> cases hv
      refine paces_arbitrate (.rests ?_)
      rw [← hsc]
      rfl
    | linkHeader => exact paces_linkHeader h
    | writeBeat => exact paces_writeBeat h
    | readBeat => exact paces_readBeat h
    | storeInitEnd =>
      obtain ⟨x, hx, -, hbody⟩ := State.atEnd_next h
      cases hbody
      exact paces_arbitrate (.inService x hx rfl)
    | refreshDue =>
      obtain ⟨x, hx, -, hbody⟩ := State.atEnd_next h
      cases hbody
      exact paces_arbitrate (.due x hx rfl rfl)
    | refreshDone => exact paces_refreshDone h
    | readSegmentDone => exact paces_readSegmentDone h
    | placementUnitEnd => exact paces_placementUnitEnd h
    | feederSegmentDone => exact paces_feederSegmentDone h
    | reloadSegmentDone => exact paces_reloadSegmentDone h
    | fetchBegin =>
      refine paces_after h fun v hsc hv => ?_
      split at hv <;> cases hv
      refine paces_arbitrate (.rests ?_)
      rw [← hsc]
      rfl
    | _ => cases hrow

end Sys2Proof.Safety
end

section
/-! Refresh is on time after every step (R154 to R156): the tick gate lets no tick pass a hold or the refresh timer, a
hold is at most 266 ticks of the 780 between two dues, and a free store serves the eighth pending refresh at once. -/

namespace Sys2Proof.Safety

open Machine

variable {s t u : State} {v : Tick} {c d : StoreController}

/-! ## The invariant, part by part -/

/-- The count is in range, and the hold and the refresh timer run at tick `v` with the lengths of the rules, on a store
in service (R153 to R155). -/
structure Timed (v : Tick) (c : StoreController) : Prop where
  count : c.pendingRefresh ≤ 8
  hold : ∀ g ∈ c.grant, c.init = none ∧ g.hold.start ≤ v ∧ v ≤ g.hold.ends ∧ g.hold.length ≤ 266
  due : ∀ x ∈ c.refresh, c.init = none ∧ x.start ≤ v ∧ v ≤ x.ends ∧ x.length = 780

/-- The ticks behind a due by which a unit that finds eight refreshes pending has ended: any unit within its longest
hold, an urgent refresh within 12 ticks more (R155). -/
def urgentMargin (g : GrantUnit) : Nat := if g = .refresh then 278 else 266

theorem urgentMargin_bounds (g : GrantUnit) : 266 ≤ urgentMargin g ∧ urgentMargin g ≤ 278 := by
  unfold urgentMargin
  split <;> omega

/-- The store is held by a unit that leaves time for an urgent refresh long before the next due (R155). -/
def UrgentHeld (c : StoreController) : Prop :=
  ∃ g ∈ c.grant, ∃ x ∈ c.refresh, g.hold.ends ≤ x.start + urgentMargin g.unit

/-- The store is free early enough for an urgent refresh now (R156). -/
def UrgentFree (v : Tick) (c : StoreController) : Prop := c.grant = none ∧ ∃ x ∈ c.refresh, v ≤ x.start + 266

theorem refreshOnTime_iff : RefreshOnTime s ↔
    Timed s.now s.sc ∧ BurstFits s ∧ (s.sc.pendingRefresh = 8 → UrgentHeld s.sc) := by
  constructor
  · rintro ⟨hcount, hhold, hdue, hburst, hurgent⟩
    exact ⟨⟨hcount, hhold, hdue⟩, hburst, hurgent⟩
  · rintro ⟨⟨hcount, hhold, hdue⟩, hburst, hurgent⟩
    exact ⟨hcount, hhold, hdue, hburst, hurgent⟩

theorem Timed.congr (h : timing d = timing c) (hc : Timed v c) : Timed v d := by
  obtain ⟨hinit, hrefresh, hcount, hgrant⟩ := timing_parts h
  refine ⟨hcount ▸ hc.count, fun g hg => ?_, by rw [hinit, hrefresh]; exact hc.due⟩
  obtain ⟨k, hk, hhold, -⟩ := hgrant g hg
  rw [hinit, ← hhold]
  exact hc.hold k hk

theorem UrgentHeld.congr (h : timing d = timing c) (hc : UrgentHeld c) : UrgentHeld d := by
  obtain ⟨-, hrefresh, -, hgrant⟩ := timing_parts h.symm
  obtain ⟨g, hg, x, hx, hends⟩ := hc
  obtain ⟨k, hk, hhold, hunit⟩ := hgrant g hg
  refine ⟨k, hk, x, hrefresh ▸ hx, ?_⟩
  simpa only [urgentMargin, hhold, hunit] using hends

/-- The tick gate: a tick the part may reach lies behind no hold and no refresh due (log 2). -/
theorem timed_of_mayReach (h : Timed s.now s.sc) (hreach : s.mayReach v = true) : Timed v s.sc := by
  obtain ⟨hnow, hends, -⟩ := (s.mayReach_iff v).1 hreach
  refine ⟨h.count, fun g hg => ?_, fun x hx => ?_⟩
  · obtain ⟨hinit, hstart, -, hlength⟩ := h.hold g hg
    have hhold : v ≤ g.hold.ends := hends g.hold (by simp [State.timers, Option.mem_def.1 hg])
    exact ⟨hinit, hstart.trans hnow, hhold, hlength⟩
  · obtain ⟨hinit, hstart, -, hlength⟩ := h.due x hx
    have hdue : v ≤ x.ends := hends x (by simp [State.timers, Option.mem_def.1 hx])
    exact ⟨hinit, hstart.trans hnow, hdue, hlength⟩

/-! ## Before a grant decision -/

/-- The eighth refresh pending finds the store held by a unit that ends in time, or free. -/
def UrgentServed (v : Tick) (c : StoreController) : Prop :=
  c.pendingRefresh = 8 → UrgentHeld c ∨ UrgentFree v c

/-- The refresh timer runs for 780 ticks from tick `v` on a store in service. -/
theorem freshTimer_runs {y : Timer} (hy : y ∈ some (⟨v, 780⟩ : Timer)) :
    y.start ≤ v ∧ v ≤ y.ends ∧ y.length = 780 := by
  cases hy
  exact ⟨le_rfl, Nat.le_add_right v 780, rfl⟩

/-- No refresh falls due while eight are pending: the store is held by a unit that ends before (R154, R155). -/
theorem pending_lt_of_due {x : Timer} (h : Timed v c) (hurgent : c.pendingRefresh = 8 → UrgentHeld c)
    (hx : c.refresh = some x) (hv : v = x.ends) : c.pendingRefresh < 8 := by
  refine lt_of_le_of_ne h.count fun hfull => ?_
  obtain ⟨g, hg, y, hy, hends⟩ := hurgent hfull
  obtain rfl : x = y := Option.some.inj (hx.symm.trans hy)
  obtain ⟨-, -, hhold, -⟩ := h.hold g hg
  obtain ⟨-, -, -, hlength⟩ := h.due x hx
  obtain ⟨-, hmargin⟩ := urgentMargin_bounds g.unit
  have hlate : x.start + 780 ≤ x.start + 278 := calc
    x.start + 780 = v := by rw [hv, Timer.ends, hlength]
    _ ≤ g.hold.ends := hhold
    _ ≤ x.start + urgentMargin g.unit := hends
    _ ≤ x.start + 278 := Nat.add_le_add_left hmargin _
  exact absurd (Nat.le_of_add_le_add_left hlate) (by decide)

theorem BeforeDecision.timed (h : BeforeDecision v c d) (hc : Timed v c)
    (hurgent : c.pendingRefresh = 8 → UrgentHeld c) : Timed v d := by
  cases h with
  | rests h => exact hc.congr h
  | ended g hold hg hu h => subst h; exact ⟨hc.count, nofun, hc.due⟩
  | refreshed hold hg h => subst h; exact ⟨(Nat.sub_le _ _).trans hc.count, nofun, hc.due⟩
  | due x hx hv h =>
    subst h
    obtain ⟨hinit, -⟩ := hc.due x hx
    exact ⟨pending_lt_of_due hc hurgent hx hv, hc.hold, fun y hy => ⟨hinit, freshTimer_runs hy⟩⟩
  | inService x hx h =>
    subst h
    refine ⟨hc.count, fun g hg => ?_, fun y hy => ⟨rfl, freshTimer_runs hy⟩⟩
    obtain ⟨-, hhold⟩ := hc.hold g hg
    exact ⟨rfl, hhold⟩

theorem BeforeDecision.served (h : BeforeDecision v c d) (hc : Timed v c)
    (hurgent : c.pendingRefresh = 8 → UrgentHeld c) : UrgentServed v d := by
  intro hfull
  cases h with
  | rests h =>
    obtain ⟨-, -, hcount, -⟩ := timing_parts h
    exact .inl ((hurgent (hcount.symm.trans hfull)).congr h)
  | ended g hold hg hu h =>
    subst h
    obtain ⟨k, hk, x, hx, hends⟩ := hurgent hfull
    obtain ⟨-, -, hhold, -⟩ := hc.hold k hk
    obtain rfl : ⟨g, hold⟩ = k := Option.some.inj (hg.symm.trans hk)
    rw [urgentMargin, if_neg hu] at hends
    exact .inr ⟨rfl, x, hx, hhold.trans hends⟩
  | refreshed hold hg h =>
    subst h
    have hcount := hc.count
    dsimp only at hfull
    omega
  | due x hx hv h =>
    subst h
    by_cases hgrant : c.grant = none
    · exact .inr ⟨hgrant, _, rfl, Nat.le_add_right v 266⟩
    · obtain ⟨g, hg⟩ := Option.ne_none_iff_exists'.1 hgrant
      obtain ⟨-, hstart, -, hlength⟩ := hc.hold g hg
      obtain ⟨hmargin, -⟩ := urgentMargin_bounds g.unit
      exact .inl ⟨g, hg, _, rfl, Nat.add_le_add hstart (hlength.trans hmargin)⟩
  | inService x hx h =>
    subst h
    obtain ⟨-, -, y, hy, -⟩ := hurgent hfull
    obtain ⟨hinit, -⟩ := hc.due y hy
    rw [hx] at hinit
    cases hinit

/-! ## The grant decision -/

/-- A free store serves the eighth pending refresh before every other request (R156). -/
theorem arbitrate_urgent (hfull : u.sc.pendingRefresh = 8) (hinit : u.sc.init = none) (hfree : u.sc.grant = none) :
    u.arbitrate = granted u .refresh :=
  arbitrate_grants hinit hfree (by simp [nextGrant_eq, hfull])

/-- A decision grants a hold of at most 266 ticks from now (R155). -/
theorem timed_arbitrate (hfits : BurstFits u) (h : Timed u.now u.sc) : Timed u.now u.arbitrate.sc := by
  obtain hsame | ⟨hinit, -, g, hg, hgranted⟩ := arbitrate_cases u
  · rwa [hsame]
  · rw [hgranted]
    refine ⟨h.count, fun k hk => ?_, h.due⟩
    cases hk
    obtain ⟨hlongest, -⟩ := nextGrant_fits hfits hg
    exact ⟨hinit, le_rfl, Nat.le_add_right _ _, hlongest⟩

theorem urgentHeld_arbitrate (h : Timed u.now u.sc) (hserved : UrgentServed u.now u.sc)
    (hfull : u.sc.pendingRefresh = 8) : UrgentHeld u.arbitrate.sc := by
  obtain ⟨g, hg, hends⟩ | ⟨hfree, x, hx, hnow⟩ := hserved hfull
  · rw [State.arbitrate_held u hg]
    exact ⟨g, hg, hends⟩
  · obtain ⟨hinit, -⟩ := h.due x hx
    rw [arbitrate_urgent hfull hinit hfree]
    exact ⟨_, rfl, x, hx, Nat.add_le_add_right hnow 12⟩

/-! ## Every step -/

theorem Paces.onTime (h : Paces s t) (hs : RefreshOnTime s) (hreach : s.mayReach t.now = true) (hfits : BurstFits t) :
    RefreshOnTime t := by
  obtain ⟨htimed, -, hurgent⟩ := refreshOnTime_iff.1 hs
  have hthen := timed_of_mayReach htimed hreach
  refine refreshOnTime_iff.2 ?_
  cases h with
  | rests h =>
    obtain ⟨-, -, hcount, -⟩ := timing_parts h
    exact ⟨hthen.congr h, hfits, fun hfull => (hurgent (hcount.symm.trans hfull)).congr h⟩
  | decides u hbefore h =>
    rw [h.now] at hthen
    have hu := hbefore.timed hthen hurgent
    have hserved := hbefore.served hthen hurgent
    rw [h.now, h.sc]
    refine ⟨timed_arbitrate (hfits.congr h.burst.symm) hu, hfits, fun hfull => urgentHeld_arbitrate hu hserved ?_⟩
    rwa [arbitrate_pendingRefresh] at hfull

theorem exec_keeps_refreshOnTime {i : Instr} (h : exec i s = .next t) (hs : RefreshOnTime s) : RefreshOnTime t := by
  obtain ⟨-, hfits, -⟩ := refreshOnTime_iff.1 hs
  by_cases hi : ∀ dt straps gate interlock lselLow, i ≠ .powerOn dt straps gate interlock lselLow
  · obtain ⟨v, hreach, hcarries⟩ := exec_carries i hi h
    obtain rfl : t.now = v := hcarries.now
    exact (exec_paces i hi h).onTime hs hreach (exec_burstFits h hfits)
  · push Not at hi
    obtain ⟨dt, straps, gate, interlock, lselLow, rfl⟩ := hi
    obtain ⟨w, hrun, -⟩ := exec_powerOn dt straps gate interlock lselLow s
    rw [h] at hrun
    cases hrun
    exact ⟨Nat.zero_le _, nofun, nofun, nofun, nofun⟩

/-- Settles O49: only a due raises the count, and with eight pending the store is held by a unit that ends long before
the next due, or a refresh is granted at once. -/
theorem refreshStaysOnTime : Obligations.RefreshStaysOnTime := by
  unfold Obligations.RefreshStaysOnTime
  intro s t hs h
  unfold step at h
  split at h
  · cases h
    exact hs
  · exact exec_keeps_refreshOnTime h hs

end Sys2Proof.Safety
end

section
/-! MONITOR_STEP and MONITOR_STOP: the activation, the pass over the records, and the stop (R167 to R169). -/

namespace Sys2Proof.Safety

open Machine

variable {s : State} {dt lo left target : Nat} {b : Beat} {hold : Timer} {rest : List Beat} {i : Fin 8}

/-! ## The pass over the records (R168) -/

/-- The monitor's next step looks at the records from index `lo` up: from 0 in LISTENING, from above the memory shown in
REPORTING. -/
def PassFrom (s : State) (lo : Nat) : Prop :=
  s.monitor.state = .listening ∧ lo = 0 ∨ ∃ j r, s.monitor.state = .reporting j r ∧ lo = j.val + 1

theorem firstHeld_eq_none (h : ∀ i : Fin 8, lo ≤ i.val → (s.record i).holds = false) : s.firstHeld lo = none := by
  refine List.find?_eq_none.2 fun i _ hfound => ?_
  obtain ⟨hlo, hholds⟩ : lo ≤ i.val ∧ (s.record i).holds = true := by simpa using hfound
  exact Bool.false_ne_true ((h i hlo).symm.trans hholds)

theorem firstHeld_eq_some (hlo : lo ≤ i.val) (hholds : (s.record i).holds = true)
    (hbelow : ∀ k : Fin 8, lo ≤ k.val → k < i → (s.record k).holds = false) : s.firstHeld lo = some i := by
  refine List.find?_eq_some_iff_getElem.2 ⟨by simp [hlo, hholds], i.val, by simp, by simp, fun j hj => ?_⟩
  have hj8 : j < 8 := hj.trans i.isLt
  have hfree := hbelow ⟨j, hj8⟩
  simp only [List.getElem_finRange, Bool.not_eq_true', Bool.and_eq_false_iff, decide_eq_false_iff_not]
  exact (Decidable.em (lo ≤ j)).symm.imp_right fun hfrom => hfree hfrom hj

theorem stepMonitor_idle (h : s.monitor.state = .idle) : s.stepMonitor = s.activateMonitor := by
  simp [State.stepMonitor, h]

theorem stepMonitor_presents (hp : PassFrom s lo) (h : s.firstHeld lo = some i) : s.stepMonitor = s.present i := by
  obtain ⟨hstate, rfl⟩ | ⟨j, r, hstate, rfl⟩ := hp <;> simp [State.stepMonitor, hstate, h]

/-- With no record held the monitor stays in LISTENING or returns to it. -/
theorem stepMonitor_passEnds (hp : PassFrom s lo) (h : s.firstHeld lo = none) :
    s.stepMonitor = s.setMonitorState .listening := by
  obtain ⟨hstate, rfl⟩ | ⟨j, r, hstate, rfl⟩ := hp
  · have hstays : s.stepMonitor = s := by simp [State.stepMonitor, hstate, h]
    rw [hstays, State.setMonitorState, ← hstate]
    rfl
  · simp [State.stepMonitor, hstate, h]

/-! ## What a step leaves in the monitor -/

theorem record_activateMonitor (s : State) (i : Fin 8) :
    s.activateMonitor.record i = if s.monitor.first then Indication.clear else s.record i := by
  unfold State.activateMonitor State.record
  cases s.monitor.first <;> simp

theorem record_present (s : State) (i k : Fin 8) :
    (s.present i).record k = if k = i then Indication.clear else s.record k :=
  State.record_setRecord (s.setMonitorState (.reporting i (s.record i))) i k Indication.clear

/-- A step of the monitor changes the monitor alone, and no damage mark. -/
theorem stepMonitor_eq (s : State) : s.stepMonitor = s.setMonitor s.stepMonitor.monitor
    ∧ s.stepMonitor.monitor.damage = s.monitor.damage := by
  unfold State.stepMonitor
  (repeat' split) <;> exact ⟨rfl, rfl⟩

/-! ## The commands -/

theorem keeps_setMonitor (s : State) (x : Monitor) : Keeps [.monitor] s (s.setMonitor x) := by
  apply keeps_of <;> simp

/-- A command whose effect is on the monitor alone. -/
theorem commanded_monitor {r : State} {x : Monitor} (o : CmdOutcome) (h : r = (taken s dt b left hold rest).setMonitor x) :
    Commanded s (r.recordCommand (b.data.extractLsb' 0 8) (b.data.extractLsb' 8 8) o) dt b left hold rest o [] [.monitor]
      ∧ ReloadKept s (r.recordCommand (b.data.extractLsb' 0 8) (b.data.extractLsb' 8 8) o) := by
  subst h
  exact commanded_of ((keeps_setMonitor _ x).mono (by simp)) rfl rfl rfl rfl (fun _ => rfl) rfl (raised_nil rfl)

theorem exec_monitorStep (dt : Nat) (s : State) :
    exec (.monitorStep dt) s = s.runCommand dt .monitorStep fun v _ => (v.stepMonitor, .done) := rfl

theorem exec_monitorStop (dt : Nat) (s : State) :
    exec (.monitorStop dt) s = s.runCommand dt .monitorStop fun v _ => (v.setMonitorState .idle, .done) := rfl

theorem holds_iff (r : Indication) :
    r.holds = true ↔ r.corr = true ∨ r.corrOvf = true ∨ r.uncorr = true ∨ r.uncorrOvf = true := by
  simp [Indication.holds, or_assoc]

/-- Settles O33: the commands change the monitor alone; a step in IDLE is the activation, and elsewhere presents the
first held record of the pass or ends it. -/
theorem monitorStepsThroughTheRecords : Obligations.MonitorStepsThroughTheRecords := by
  unfold Obligations.MonitorStepsThroughTheRecords
  refine ⟨rfl, holds_iff, fun dt s b left hold rest target => ⟨fun hcmd => ?_, fun hcmd => ?_⟩⟩
  · obtain ⟨honly, hdamage⟩ := stepMonitor_eq (taken s dt b left hold rest)
    obtain ⟨hcommanded, hreload⟩ := commanded_monitor .done honly
    rw [exec_monitorStep]
    refine ⟨_, run_eq' hcmd rfl rfl, hcommanded, hreload, hdamage, fun hidle => ?_, fun lo hpass => ?_⟩
    · rw [stepMonitor_idle (s := taken s dt b left hold rest) hidle]
      exact ⟨rfl, rfl, record_activateMonitor (taken s dt b left hold rest)⟩
    · have hpass' : PassFrom (taken s dt b left hold rest) lo := hpass
      refine ⟨?_, fun hnone => ?_, fun i hlo hholds hbelow => ?_⟩
      · cases hfound : (taken s dt b left hold rest).firstHeld lo with
        | none => rw [stepMonitor_passEnds hpass' hfound]; rfl
        | some i => rw [stepMonitor_presents hpass' hfound]; rfl
      · rw [stepMonitor_passEnds hpass' (firstHeld_eq_none hnone)]
        exact ⟨rfl, rfl⟩
      · rw [stepMonitor_presents hpass' (firstHeld_eq_some hlo hholds hbelow)]
        exact ⟨rfl, record_present (taken s dt b left hold rest) i⟩
  · obtain ⟨hcommanded, hreload⟩ :=
      commanded_monitor (r := (taken s dt b left hold rest).setMonitorState .idle) .done rfl
    rw [exec_monitorStop]
    exact ⟨_, run_eq' hcmd rfl rfl, hcommanded, hreload, rfl⟩

end Sys2Proof.Safety
end

section
/-! A checked read: what it delivers, repairs, raises and records, and how damage comes about (R162 to R166, log 8). -/

namespace Sys2Proof.Safety

open Machine

variable {s : State} {m : Mem} {e : Nat} {bits : Word} {d : Damage}

/-! ## Damage that arises (log 8) -/

/-- The state with damage `d` as the one mark of its entry. -/
def marked (s : State) (d : Damage) : State :=
  (s.refreshEntry d.mem d.entry).setMonitor
    { s.monitor with damage := d :: (s.refreshEntry d.mem d.entry).monitor.damage }

/-- Damage beyond correction stays over a further flip (R165). -/
theorem damageEntry_stays (h : s.harmAt d.mem d.entry = some (.uncorrectable bits)) (hd : d.harm = .correctable) :
    s.damageEntry d = s := by
  simp [State.damageEntry, h, hd]

/-- Any other damage replaces what its entry had. -/
theorem damageEntry_marks
    (h : (∀ bits, s.harmAt d.mem d.entry ≠ some (.uncorrectable bits)) ∨ d.harm ≠ .correctable) :
    s.damageEntry d = marked s d := by
  unfold State.damageEntry
  split
  next hsome hflip =>
    exact h.elim (fun hnone => absurd hsome (hnone _)) fun hharm => absurd hflip hharm
  next => rfl

/-- The mark an added damage leaves, and those of the other entries. -/
theorem harmAt_marked (s : State) (d : Damage) (m : Mem) (e : Nat) :
    (marked s d).harmAt m e = if m = d.mem ∧ e = d.entry then some d.harm else s.harmAt m e := by
  unfold marked
  by_cases hsame : m = d.mem ∧ e = d.entry
  · obtain ⟨rfl, rfl⟩ := hsame
    simp [State.harmAt]
  · have hskip : (d.mem == m && d.entry == e) = false := by
      refine Bool.eq_false_iff.2 fun heq => hsame ?_
      obtain ⟨hmem, hentry⟩ : d.mem = m ∧ d.entry = e := by simpa using heq
      exact ⟨hmem.symm, hentry.symm⟩
    have hrefreshed := s.harmAt_refreshEntry d.mem m d.entry e
    rw [if_neg hsame] at hrefreshed ⊢
    rw [← hrefreshed]
    simp only [State.harmAt, State.setMonitor_monitor, List.find?_cons, hskip]

theorem damageEntry_eq (s : State) (d : Damage) : s.damageEntry d =
    { s with monitor := { s.monitor with damage := (s.damageEntry d).monitor.damage } } := by
  unfold State.damageEntry
  split <;> rfl

/-- Damage to one entry leaves the marks of every other. -/
theorem harmAt_damageEntry_other (h : m ≠ d.mem ∨ e ≠ d.entry) : (s.damageEntry d).harmAt m e = s.harmAt m e := by
  by_cases hmarks : (∀ bits, s.harmAt d.mem d.entry ≠ some (.uncorrectable bits)) ∨ d.harm ≠ .correctable
  · rw [damageEntry_marks hmarks, harmAt_marked, if_neg (not_and_or.2 h)]
  · push Not at hmarks
    obtain ⟨⟨bits, hbits⟩, hd⟩ := hmarks
    rw [damageEntry_stays hbits hd]

/-! ## Which reads fail, and what a read delivers (R164, R165) -/

theorem readFails_iff : s.readFails m e = true ↔ ∃ bits, s.harmAt m e = some (.uncorrectable bits) := by
  unfold State.readFails
  cases s.harmAt m e with
  | none => simp
  | some harm => cases harm <;> simp

theorem anyFails_iff {reads : List (Mem × Nat)} : s.anyFails reads = true ↔
    ∃ r ∈ reads, ∃ bits, s.harmAt r.1 r.2 = some (.uncorrectable bits) := by
  simp only [State.anyFails, List.any_eq_true, readFails_iff]

theorem delivered_held (h : ∀ bits, s.harmAt m e ≠ some (.uncorrectable bits)) : s.delivered m e = s.held m e := by
  unfold State.delivered
  split
  next hbits => exact absurd hbits (h _)
  next => rfl

theorem delivered_uncorrectable (h : s.harmAt m e = some (.uncorrectable bits)) : s.delivered m e = bits := by
  simp [State.delivered, h]

/-! ## The check of one read (R164 to R166) -/

theorem checkRead_none (h : s.harmAt m e = none) : s.checkRead m e = s := by
  simp [State.checkRead, h]

theorem checkRead_correctable (h : s.harmAt m e = some .correctable) : s.checkRead m e =
    (s.refreshEntry m e).setRecord m.index ((s.record m.index).addCorr (s.monitor.state == .listening) e) := by
  simp [State.checkRead, h]

theorem checkRead_uncorrectable (h : s.harmAt m e = some (.uncorrectable bits)) : s.checkRead m e =
    (s.setRecord m.index ((s.record m.index).addUncorr (s.monitor.state == .listening) e)).raise .integrity := by
  simp [State.checkRead, h]

theorem addCorr_eq (r : Indication) (x : MonitorState) (e : Nat) : r.addCorr (x == .listening) e =
    if x = .listening ∧ r.corr = false ∧ r.uncorr = false then { r with corr := true, entry := some e }
    else { r with corrOvf := true } := by
  simp [Indication.addCorr, and_assoc]

theorem addUncorr_eq (r : Indication) (x : MonitorState) (e : Nat) : r.addUncorr (x == .listening) e =
    if x = .listening ∧ r.uncorr = false then { r with uncorr := true, entry := some e }
    else { r with uncorrOvf := true } := by
  simp [Indication.addUncorr]

/-- A read corrected: its entry is repaired and its record written, in the monitor alone (R164, R166). -/
theorem checkRead_correctable_keeps (h : s.harmAt m e = some .correctable) : Keeps [.monitor] s (s.checkRead m e) := by
  rw [checkRead_correctable h]
  exact (keeps_setMonitor s _).trans (keeps_setMonitor _ _)

theorem harmAt_checkRead_correctable (h : s.harmAt m e = some .correctable) (m' : Mem) (e' : Nat) :
    (s.checkRead m e).harmAt m' e' = if m' = m ∧ e' = e then none else s.harmAt m' e' := by
  rw [checkRead_correctable h]
  exact s.harmAt_refreshEntry m m' e e'

theorem record_checkRead_correctable (h : s.harmAt m e = some .correctable) (j : Fin 8) : (s.checkRead m e).record j =
    if j = m.index then (s.record m.index).addCorr (s.monitor.state == .listening) e else s.record j := by
  rw [checkRead_correctable h]
  exact State.record_setRecord (s.refreshEntry m e) _ j _

theorem record_checkRead_uncorrectable (h : s.harmAt m e = some (.uncorrectable bits)) (j : Fin 8) :
    (s.checkRead m e).record j =
      if j = m.index then (s.record m.index).addUncorr (s.monitor.state == .listening) e else s.record j := by
  rw [checkRead_uncorrectable h]
  exact State.record_setRecord s _ j _

/-- A read that fails marks nothing and mends nothing (R165). -/
theorem damage_checkRead_uncorrectable (h : s.harmAt m e = some (.uncorrectable bits)) :
    (s.checkRead m e).monitor.damage = s.monitor.damage := by
  rw [checkRead_uncorrectable h]
  rfl

theorem checkRead_keeps (s : State) (m : Mem) (e : Nat) :
    Keeps [.events, .monitor] s (s.checkRead m e) :=
  (checkReads_keeps s [(m, e)]).mono (by simp)

theorem checkRead_uncorrectable_raised (h : s.harmAt m e = some (.uncorrectable bits)) :
    Raised [.integrity] s (s.checkRead m e) := by
  have hraised := checkRead_raised s m e
  rwa [if_pos (readFails_iff.2 ⟨bits, h⟩)] at hraised

/-- Settles O47: a read of an undamaged, a correctable and a lost entry is one case each of `checkRead`; damage that arises
leaves what is beyond correction, or is marked. -/
theorem checkedReadsAreRecorded : Obligations.CheckedReadsAreRecorded := by
  unfold Obligations.CheckedReadsAreRecorded
  refine ⟨fun s => ⟨rfl, fun _ _ _ => rfl, fun _ => anyFails_iff⟩, fun s m e => by cases m <;> rfl, rfl,
    fun s => ⟨rfl, fun d rest => ⟨rfl, damageEntry_eq s d, fun _ _ => harmAt_damageEntry_other, fun bits hbits hd => ?_,
      fun hmarks => ?_⟩⟩, ?_⟩
  · show (s.damageEntry d).harmAt _ _ = _
    rw [damageEntry_stays hbits hd, hbits]
  · show (s.damageEntry d).harmAt _ _ = _
    rw [damageEntry_marks hmarks, harmAt_marked, if_pos ⟨rfl, rfl⟩]
  · rintro s m e r rfl
    obtain ⟨hstate, hfirst⟩ := checkReads_monitor s [(m, e)]
    refine ⟨fun hnone => ⟨checkRead_none hnone, delivered_held (by simp [hnone])⟩, fun hcorr => ?_, fun bits hbits => ?_⟩
    · have hharm := harmAt_checkRead_correctable hcorr
      have hrecord := record_checkRead_correctable hcorr
      refine ⟨delivered_held (by simp [hcorr]), (hharm m e).trans (if_pos ⟨rfl, rfl⟩), fun m' e' hother => ?_,
        checkRead_correctable_keeps hcorr, hstate, hfirst, fun j hj => (hrecord j).trans (if_neg hj), ?_⟩
      · exact (hharm m' e').trans (if_neg (not_and_or.2 hother))
      · rw [hrecord, if_pos rfl, addCorr_eq]
    · have hdamage := damage_checkRead_uncorrectable hbits
      have hrecord := record_checkRead_uncorrectable hbits
      refine ⟨delivered_uncorrectable hbits, ?_, hdamage, checkRead_keeps s m e,
        checkRead_uncorrectable_raised hbits, hstate, hfirst, fun j hj => (hrecord j).trans (if_neg hj), ?_⟩
      · rw [State.harmAt, hdamage]
        exact hbits
      · rw [hrecord, if_pos rfl, addUncorr_eq]

end Sys2Proof.Safety
end

section
/-! CLEAR_EVENTS: the named sticky bits go, and the level sources in LEVEL mode set theirs again (R176). -/

namespace Sys2Proof.Safety

open Machine

/-- The sticky bits after a mask has named some of them (R176). -/
theorem stuck_clearSticky (s : State) (mask : BitVec 16) (i : Source) : (s.clearSticky mask).stuck i = true
    ↔ s.stuck i = true ∧ mask.getLsbD i.index = false ∨ i.isLevel = true ∧ s.mode i = .level ∧ s.raw i = true := by
  have hcleared : (s.setEvents { s.events with sticky := s.events.sticky &&& ~~~mask }).stuck i
      = (s.stuck i && !mask.getLsbD i.index) := by
    simp [State.stuck]
  have hmode : (s.setEvents { s.events with sticky := s.events.sticky &&& ~~~mask }).mode i = s.mode i := rfl
  have hraw : (s.setEvents { s.events with sticky := s.events.sticky &&& ~~~mask }).raw i = s.raw i := by
    cases i <;> rfl
  rw [State.clearSticky, stuck_resample, hcleared, hmode, hraw]
  simp [and_assoc]

/-- CLEAR_EVENTS changes sticky bits alone (R176). -/
theorem clearSticky_eq (s : State) (mask : BitVec 16) :
    s.clearSticky mask = withSticky s (s.clearSticky mask).events.sticky := by
  unfold State.clearSticky
  rw [resample_eq]
  rfl

/-- The mask is bits 31..16 of the command word (section 11.4). -/
theorem cmdArgument_getLsbD (w : Word) (i : Fin 16) : (cmdArgument w).getLsbD i = w.getLsbD (16 + i) := by
  simp [cmdArgument]

theorem exec_clearEvents (dt : Nat) (s : State) : exec (.clearEvents dt) s
    = s.runCommand dt .clearEvents fun v w => (v.clearSticky (cmdArgument w), .done) := rfl

/-- Settles O32: the effect writes sticky bits alone, and the record raises COMMAND_DONE. -/
theorem clearEventsClearsTheNamedBits : Obligations.ClearEventsClearsTheNamedBits := by
  unfold Obligations.ClearEventsClearsTheNamedBits
  intro dt s b left hold rest target hcmd
  obtain ⟨w, hw⟩ : ∃ w, (taken s dt b left hold rest).clearSticky (cmdArgument b.data)
      = withSticky (taken s dt b left hold rest) w := ⟨_, clearSticky_eq _ _⟩
  have hkeeps : Keeps [.control, .events] (taken s dt b left hold rest) (withSticky (taken s dt b left hold rest) w) := by
    apply keeps_of <;> simp [withSticky, State.storeByte]
  have hraw (i : Source) : (taken s dt b left hold rest).raw i = s.raw i := by cases i <;> rfl
  have hstuck (i : Source) : (withSticky (taken s dt b left hold rest) w).stuck i = true
      ↔ s.stuck i = true ∧ b.data.getLsbD (16 + i.index) = false
        ∨ i.isLevel = true ∧ s.mode i = .level ∧ s.raw i = true := by
    rw [← hw, stuck_clearSticky, cmdArgument_getLsbD, hraw]
    exact Iff.rfl
  obtain ⟨-, hothers, hpulses⟩ := raised_record (raised_nil (s := withSticky (taken s dt b left hold rest) w) rfl)
    (b.data.extractLsb' 0 8) (b.data.extractLsb' 8 8) .done
  rw [exec_clearEvents]
  refine ⟨_, run_eq' hcmd rfl (congrArg (·, CmdOutcome.done) hw),
    recorded_of hkeeps rfl rfl rfl rfl (hkeeps .store (by simp)) rfl, ⟨rfl, rfl⟩, fun i hi => ?_, fun i hi => ?_,
    hpulses⟩
  · rw [(hothers i (by simpa using hi)).1]
    exact hstuck i
  · exact (hothers i (by simpa using hi)).2

end Sys2Proof.Safety
end

section
/-! What the level sources depend on: INTERLOCK, the scanner's state, the event settings and two sticky bits. Ten commands
apart, every command leaves them (R102, R128, R172, R173, R175). -/

namespace Sys2Proof.Safety

open Machine

variable {s t u : State}

/-- The sticky bits of the level sources (R172). -/
def levelBits (e : EventUnit) : Bool × Bool :=
  (e.sticky.getLsbD Source.scanUnlocked.index, e.sticky.getLsbD Source.interlockOpen.index)

/-- The conditions of the level sources, the event settings and the sticky bits of the level sources are as they were. -/
structure LevelsRest (s t : State) : Prop where
  interlock : t.pins.interlock = s.pins.interlock
  scanner : t.scan.state = s.scan.state
  settings : t.control.eventWords = s.control.eventWords
  bits : levelBits t.events = levelBits s.events

theorem LevelsRest.refl (s : State) : LevelsRest s s := ⟨rfl, rfl, rfl, rfl⟩

theorem LevelsRest.trans (h : LevelsRest s t) (h' : LevelsRest t u) : LevelsRest s u where
  interlock := h'.interlock.trans h.interlock
  scanner := h'.scanner.trans h.scanner
  settings := h'.settings.trans h.settings
  bits := h'.bits.trans h.bits

/-- The level sources found as `LevelsStick` wants them stay so. -/
theorem LevelsRest.keeps (h : LevelsRest s t) (hs : LevelsStick s) : LevelsStick t := by
  obtain ⟨hscanUnlocked, hinterlockOpen⟩ := Prod.mk.inj h.bits
  have hmode (i : Source) : t.mode i = s.mode i := by rw [State.mode, State.mode, h.settings]
  intro i hlevel hi hraw
  have hold := hs i hlevel (hmode i ▸ hi)
  cases i with
  | scanUnlocked => exact hscanUnlocked.trans (hold ((congrArg ScanState.unlocked h.scanner).symm.trans hraw))
  | interlockOpen => exact hinterlockOpen.trans (hold (h.interlock.symm.trans hraw))
  | _ => cases hlevel

/-! ## The pulse sources (R172) -/

/-- The occurrence of a pulse source leaves the bits of the level sources. -/
@[simp] theorem levelBits_raise (s : State) {i : Source} (h : i ≠ .scanUnlocked) (h' : i ≠ .interlockOpen) :
    levelBits (s.raise i).events = levelBits s.events := by
  have hstuck {j : Source} (hj : i ≠ j) : (s.raise i).stuck j = s.stuck j := by simp [hj.symm]
  exact Prod.ext (hstuck h) (hstuck h')

@[simp] theorem levelBits_raiseIf (s : State) (c : Bool) {i : Source} (h : i ≠ .scanUnlocked)
    (h' : i ≠ .interlockOpen) : levelBits (s.raiseIf c i).events = levelBits s.events := by
  cases c
  · rfl
  · exact levelBits_raise s h h'

theorem EventsBut.levelBits {l : List Source} (h : EventsBut l s t) (hl : .scanUnlocked ∉ l) (hl' : .interlockOpen ∉ l) :
    levelBits t.events = levelBits s.events :=
  Prod.ext (h _ hl).1 (h _ hl').1

@[simp] theorem levelBits_abortFrame (s : State) (c : FaultCause) :
    levelBits (s.abortFrame c).events = levelBits s.events :=
  (eventsBut_abortFrame s c).levelBits (by simp) (by simp)

@[simp] theorem levelBits_takePulse (s : State) (out : Bool) : levelBits (s.takePulse out).events = levelBits s.events :=
  (eventsBut_takePulse s out).levelBits (by simp) (by simp)

@[simp] theorem levelBits_recordCommand (s : State) (x y : Byte) (o : CmdOutcome) :
    levelBits (s.recordCommand x y o).events = levelBits s.events := by
  simp [State.recordCommand]

@[simp] theorem levelBits_checkReads (s : State) (reads : List (Mem × Nat)) :
    levelBits (s.checkReads reads).events = levelBits s.events := by
  have hread (v : State) (m : Mem) (a : Nat) : levelBits (v.checkRead m a).events = levelBits v.events := by
    unfold State.checkRead
    split <;> simp
  induction reads generalizing s with
  | nil => rfl
  | cons r reads ih => exact (ih _).trans (hread s r.1 r.2)

@[simp] theorem levelBits_recordFill (s : State) (n : Fin 8) (i : Nat) :
    levelBits (s.recordFill n i).events = levelBits s.events := by
  have hcomplete (v : State) : levelBits (v.completeSlot n).events = levelBits v.events := by
    dsimp only [State.completeSlot]
    split <;> simp
  have hadvance : levelBits (s.advanceCursor n).events = levelBits s.events := by
    dsimp only [State.advanceCursor]
    split <;> simp [hcomplete]
  dsimp only [State.recordFill]
  split <;> simp [hadvance]

theorem levelsRest_capture (s : State) (x : TableUnit) (o : Nat) (w : Word) : LevelsRest s (s.capture x o w) := by
  constructor <;> simp [State.capture]

/-! ## A step and its parts -/

theorem levelsRest_setNow (s : State) (v : Tick) : LevelsRest s (s.setNow v) := ⟨rfl, rfl, rfl, rfl⟩

theorem levelsRest_after {dt : Nat} {body : State → Result} (h : s.after dt body = .next t)
    (hb : ∀ v, body v = .next t → LevelsRest v t) : LevelsRest s t :=
  (levelsRest_setNow s _).trans (hb _ (State.after_next h).2)

theorem levelsRest_atEnd {x : Option Timer} {body : State → Result} (h : s.atEnd x body = .next t)
    (hb : ∀ v, body v = .next t → LevelsRest v t) : LevelsRest s t := by
  obtain ⟨y, -, -, hbody⟩ := State.atEnd_next h
  exact (levelsRest_setNow s _).trans (hb _ hbody)

/-- The state a placement has taken its beat in (R34). -/
theorem levelsRest_taken (s : State) (v : Tick) : LevelsRest s (s.setNow v).dropBeat := by constructor <;> simp

theorem levelsRest_place {dt : Nat} {body : State → Beat → BeatKind → Option State} (h : s.place dt body = .next t)
    (hb : ∀ v b k, body v b k = some t → LevelsRest v t) : LevelsRest s t := by
  obtain ⟨-, b, -, -, -, -, -, -, ht⟩ := State.place_next h
  exact (levelsRest_taken s _).trans (hb _ _ _ ht)

theorem levelsRest_storeBeat (s : State) (b : Beat) : LevelsRest s (s.storeBeat b) := by constructor <;> simp

theorem levelsRest_recordCommand (s : State) (x y : Byte) (o : CmdOutcome) :
    LevelsRest s (s.recordCommand x y o) := by
  constructor <;> simp [recordCommand_control]

theorem levelsRest_runCommand {dt : Nat} {c : Cmd} {effect : State → Word → State × CmdOutcome}
    (h : s.runCommand dt c effect = .next t) (he : ∀ v w, LevelsRest v (effect v w).1) : LevelsRest s t := by
  refine levelsRest_place h fun v b k hv => ?_
  split at hv
  · split at hv <;> cases hv
    exact ((levelsRest_storeBeat v b).trans (he _ _)).trans (levelsRest_recordCommand _ _ _ _)
  · cases hv

/-! ## The effects of the commands (R147) -/

theorem levelsRest_slotCommand {effect : State → Fin 8 → State × CmdOutcome} (h : ∀ v n, LevelsRest v (effect v n).1)
    (s : State) (w : Word) : LevelsRest s (slotCommand effect s w).1 := by
  unfold slotCommand
  split
  · exact .refl s
  · exact h s _

theorem levelsRest_describeSlot (s : State) (n : Fin 8) : LevelsRest s (s.describeSlot n).1 := by
  obtain h | ⟨d, -, h⟩ := describeSlot_or s n
  · rw [h]; exact .refl s
  · rw [h]; constructor <;> simp [State.acceptSlot, State.joinQueue]

theorem levelsRest_sealFrame (s : State) (n : Fin 8) : LevelsRest s (s.sealFrame n).1 := by
  unfold State.sealFrame
  split <;> constructor <;> simp

theorem levelsRest_withdrawSlot (s : State) (n : Fin 8) : LevelsRest s (s.withdrawSlot n).1 := by
  unfold State.withdrawSlot
  split <;> constructor <;> simp

theorem levelsRest_releaseSlot (s : State) (n : Fin 8) : LevelsRest s (s.releaseSlot n).1 := by
  unfold State.releaseSlot
  split <;> constructor <;> simp

theorem levelsRest_setTable (s : State) (x : TableUnit) (y : TableState) : LevelsRest s (s.setTable x y) := by
  constructor <;> simp [State.setTable]

theorem levelsRest_reloadTable (s : State) (w : Word) : LevelsRest s (s.reloadTable w).1 := by
  have hstart (x : TableUnit) : LevelsRest s (s.startReload x) :=
    (levelsRest_setTable s x .loading).trans ⟨rfl, rfl, rfl, rfl⟩
  unfold State.reloadTable
  repeat' split
  · exact .refl s
  · exact .refl s
  · exact .refl s
  · exact hstart _

theorem levelsRest_runEngine (s : State) : LevelsRest s s.runEngine := by
  unfold State.runEngine
  split <;> constructor <;> simp [State.setHalt]

theorem levelsRest_haltEngine (s : State) : LevelsRest s s.haltEngine := by
  unfold State.haltEngine
  split <;> constructor <;> simp [State.setHalt]

theorem levelsRest_abortEngine (s : State) : LevelsRest s s.abortEngine := by
  unfold State.abortEngine
  split <;> constructor <;> simp

theorem levelsRest_stepMonitor (s : State) : LevelsRest s s.stepMonitor := by
  rw [(stepMonitor_eq s).1]
  exact ⟨rfl, rfl, rfl, rfl⟩

/-! ## The other operations -/

theorem levelsRest_pictureBeat (s : State) (n : Fin 8) (b : Beat) : LevelsRest s (s.pictureBeat n b) := by
  have hconverting : levelBits (converting s n b).events = levelBits s.events := by
    unfold converting State.markSuspect State.startFilling
    repeat' split
    all_goals simp
  dsimp only [State.pictureBeat]
  repeat' split
  · constructor <;> simp
  · constructor <;> simp [State.dropPartial]
  · constructor <;> simp [convertBeat_eq, hconverting]

theorem levelsRest_tableWord (s : State) (x : TableUnit) (o : Nat) (b : Beat) : LevelsRest s (s.tableWord x o b) := by
  have hstale (v : State) : LevelsRest v (v.raise .tableStale) := by constructor <;> simp
  dsimp only [State.tableWord]
  repeat' split
  · exact .refl s
  · exact levelsRest_capture s x o b.data
  · exact (levelsRest_setTable s x .stale).trans (hstale _)
  · exact .refl s
  · exact .refl s
  · exact ⟨rfl, rfl, rfl, rfl⟩

theorem levelsRest_reloadWords (s : State) (x : TableUnit) (first len : Nat) :
    LevelsRest s (s.reloadWords x first len) := by
  unfold State.reloadWords
  induction List.range len generalizing s with
  | nil => exact .refl s
  | cons j rest ih =>
    refine LevelsRest.trans ?_ (ih _)
    dsimp only [State.reloadWord]
    split
    · exact levelsRest_capture s x _ _
    · exact .refl s

theorem levelsRest_advanceReload (s : State) (x : TableUnit) (len : Nat) : LevelsRest s (s.advanceReload x len) := by
  dsimp only [State.advanceReload]
  split <;> constructor <;> simp [State.endReload, State.setTable]

theorem levelsRest_pixelClock (s : State) : LevelsRest s s.pixelClock := by
  unfold State.pixelClock
  split
  · dsimp only [State.sendPixel]
    split <;> constructor <;> simp [State.countClock, State.output]
  · exact ⟨rfl, rfl, rfl, rfl⟩

theorem levelsRest_gateFalls (s : State) : LevelsRest s s.gateFalls := by
  unfold State.gateFalls
  repeat' split
  all_goals constructor <;> simp

theorem levelsRest_endUnit (s : State) : LevelsRest s s.endUnit := by constructor <;> simp

theorem levelsRest_openTxn (s : State) (w : Word) : LevelsRest s (s.openTxn w) := by
  have hheaded : LevelsRest s (headed s w) := by
    unfold headed
    split <;> constructor <;> simp [State.setTxn, State.countOutOfRange]
  have hadmit (v : State) : LevelsRest v v.admitNow := by
    unfold State.admitNow
    repeat' split
    all_goals exact ⟨rfl, rfl, rfl, rfl⟩
  have hdecided (v : State) : LevelsRest v v.arbitrate := by constructor <;> simp
  rw [openTxn_eq]
  exact (hheaded.trans (hdecided _)).trans (hadmit _)

/-! ## Every command but ten -/

/-- The commands that change a level source's condition, its mode or its sticky bit: the resets, the pulses of the
scanner, silence, the edges of INTERLOCK, SCAN_APPLY, CLEAR_EVENTS and the event settings (R102, R128, R175 to R177). -/
def levelRow : Instr → Bool
  | .powerOn .. | .rstAssert .. | .eventSettingsWrite .. | .scanApply .. | .clearEvents .. | .sos .. | .home ..
  | .silenceExpiry | .interlockOpen .. | .interlockClose .. => true
  | _ => false

theorem exec_levelsRest (c : Instr) (hc : levelRow c = false) (h : exec c s = .next t) : LevelsRest s t := by
  unfold exec at h
  cases c with
  | powerOn | rstAssert | eventSettingsWrite | scanApply | clearEvents | sos | home | silenceExpiry | interlockOpen
  | interlockClose => cases hc
  | linkHeader dt w =>
    refine levelsRest_after h fun v hv => ?_
    dsimp only at hv
    have hheard : LevelsRest v ((v.setPins { v.pins with lselLow := true }).setLink { v.link with ld := none }) :=
      ⟨rfl, rfl, rfl, rfl⟩
    repeat' split at hv
    all_goals cases hv
    · exact .refl _
    · exact hheard
    · exact hheard.trans (levelsRest_openTxn _ w)
  | rstRelease | readBeat =>
    refine levelsRest_after h fun v hv => ?_
    dsimp only at hv
    repeat' split at hv
    all_goals cases hv
    all_goals constructor <;> simp [State.deliver]
  | readAdmit | writeAdmit | writeBeat | lselRise | refreshDone | placementUnitEnd | fetchBegin | gateRise =>
    refine levelsRest_after h fun v hv => ?_
    repeat' split at hv
    all_goals cases hv
    all_goals constructor <;>
      simp [State.setTxn, State.enqueueBeat, State.overrunBeat, State.beginFetch, State.setGate]
  | storeInitEnd | refreshDue | gateReleaseExpiry | donePulseEnd =>
    refine levelsRest_atEnd h fun v hv => ?_
    cases hv
    constructor <;> simp [State.restartRefresh]
  | pulseStretchEnd | sweepPulseEnd | frameStartPulseEnd | activityExpiry | activityBlinkToggle =>
    refine levelsRest_atEnd h fun v hv => ?_
    cases hv
    exact ⟨rfl, rfl, rfl, rfl⟩
  | readSegmentDone =>
    refine levelsRest_after h fun v hv => ?_
    have hfill (l : List Nat) : LevelsRest v (v.fillBuffer l) := by
      unfold State.fillBuffer
      split <;> exact ⟨rfl, rfl, rfl, rfl⟩
    repeat' split at hv
    all_goals cases hv
    · exact (hfill _).trans (levelsRest_endUnit _)
    · exact levelsRest_endUnit v
  | feederSegmentDone =>
    refine levelsRest_after h fun v hv => ?_
    have hfilled (b : Fin 2) (pos len addr : Nat) (f : Fetch) :
        LevelsRest v ((v.fillBank b pos len addr).advanceFetch f len) := by
      rw [advanceFetch_eq]
      exact ⟨rfl, rfl, rfl, rfl⟩
    repeat' split at hv
    all_goals cases hv
    · exact (hfilled _ _ _ _ _).trans (levelsRest_endUnit _)
    · exact levelsRest_endUnit v
  | reloadSegmentDone =>
    refine levelsRest_after h fun v hv => ?_
    repeat' split at hv
    all_goals cases hv
    · exact ((levelsRest_reloadWords v _ _ _).trans (levelsRest_advanceReload _ _ _)).trans (levelsRest_endUnit _)
    · exact levelsRest_endUnit v
  | placePictureWord dt arisen =>
    refine levelsRest_place h fun v b k hv => ?_
    have harisen : LevelsRest v (v.arise arisen) := by constructor <;> simp
    split at hv <;> cases hv
    exact harisen.trans (levelsRest_pictureBeat _ _ b)
  | tableWordWrite =>
    refine levelsRest_place h fun v b k hv => ?_
    split at hv <;> cases hv
    exact (levelsRest_storeBeat v b).trans (levelsRest_tableWord _ _ _ b)
  | noEnableBeat | statusPageWrite =>
    refine levelsRest_place h fun v b k hv => ?_
    split at hv <;> cases hv
    exact .refl _
  | storePlainWord | stagingWrite | auxFunctionWrite =>
    refine levelsRest_place h fun v b k hv => ?_
    split at hv <;> cases hv
    all_goals exact ⟨rfl, rfl, rfl, rfl⟩
  | malformedCommand | unknownCommand =>
    refine levelsRest_place h fun v b k hv => ?_
    split at hv <;> cases hv
    exact (levelsRest_storeBeat v b).trans (levelsRest_recordCommand _ _ _ _)
  | describe => exact levelsRest_runCommand h (levelsRest_slotCommand levelsRest_describeSlot)
  | sealSlot => exact levelsRest_runCommand h (levelsRest_slotCommand levelsRest_sealFrame)
  | withdraw => exact levelsRest_runCommand h (levelsRest_slotCommand levelsRest_withdrawSlot)
  | release => exact levelsRest_runCommand h (levelsRest_slotCommand levelsRest_releaseSlot)
  | reload => exact levelsRest_runCommand h levelsRest_reloadTable
  | run => exact levelsRest_runCommand h fun v _ => levelsRest_runEngine v
  | halt => exact levelsRest_runCommand h fun v _ => levelsRest_haltEngine v
  | abort => exact levelsRest_runCommand h fun v _ => levelsRest_abortEngine v
  | monitorStep => exact levelsRest_runCommand h fun v _ => levelsRest_stepMonitor v
  | clearScanStats | monitorStop => exact levelsRest_runCommand h fun _ _ => ⟨rfl, rfl, rfl, rfl⟩
  | pixelDrive dt arisen =>
    refine levelsRest_after h fun v hv => ?_
    cases hv
    exact LevelsRest.trans (by constructor <;> simp) (levelsRest_pixelClock (v.arise arisen))
  | gateFall =>
    refine levelsRest_after h fun v hv => ?_
    cases hv
    have hgate : LevelsRest v (v.setGate false) := ⟨rfl, rfl, rfl, rfl⟩
    exact hgate.trans (levelsRest_gateFalls _)

end Sys2Proof.Safety
end

section
/-! In mode LEVEL the sticky bit of a level source is set whenever its condition is true: every step keeps that (R173,
R176, R177). -/

namespace Sys2Proof.Safety

open Machine

variable {s t : State}

/-! ## The operations of the Event Unit -/

/-- Setting the level sources again makes good whatever was before (R173, R176, R177). -/
theorem levelsStick_resample (s : State) : LevelsStick s.resample := by
  intro i hlevel hmode hraw
  rw [resample_eq] at hmode hraw
  rw [raw_withSticky] at hraw
  have hmode' : s.mode i = .level := hmode
  rw [stuck_resample]
  simp [hlevel, hmode', hraw]

/-- SCAN_UNLOCKED follows a change of the scanner's state (R102, R173). -/
theorem levelsStick_setScanState (h : LevelsStick s) (x : ScanState) : LevelsStick (s.setScanState x) := by
  have hmode (i : Source) : (s.setScanState x).mode i = s.mode i := by simp [State.mode]
  intro i hlevel hi hraw
  rw [hmode] at hi
  rw [stuck_setScanState]
  cases i with
  | scanUnlocked =>
    have hunlocked : x.unlocked = true := by simpa [State.raw] using hraw
    simp [hi, hunlocked, TriggerMode.fires]
  | interlockOpen =>
    have hopen : s.pins.interlock = true := by simpa [State.raw] using hraw
    simp [h .interlockOpen rfl hi hopen]
  | _ => cases hlevel

/-- A change of INTERLOCK sets INTERLOCK_OPEN by the trigger mode in force (R128, R173). -/
theorem stuck_setInterlock (s : State) (x : Bool) (i : Source) : (s.setInterlock x).stuck i =
    (s.stuck i || (decide (i = .interlockOpen) && (s.mode .interlockOpen).fires s.pins.interlock x)) := by
  have hset : s.setInterlock x = if (s.mode .interlockOpen).fires s.pins.interlock x
      then (s.setPins { s.pins with interlock := x }).stick .interlockOpen
      else s.setPins { s.pins with interlock := x } := rfl
  have hpins : (s.setPins { s.pins with interlock := x }).stuck i = s.stuck i := rfl
  rw [hset]
  split <;> rename_i hfires <;> simp [hfires, hpins, Bool.or_comm]

/-- INTERLOCK_OPEN follows a change of INTERLOCK (R128, R173). -/
theorem levelsStick_setInterlock (h : LevelsStick s) (x : Bool) : LevelsStick (s.setInterlock x) := by
  have hmode (i : Source) : (s.setInterlock x).mode i = s.mode i := by simp [State.mode]
  intro i hlevel hi hraw
  rw [hmode] at hi
  rw [stuck_setInterlock]
  cases i with
  | scanUnlocked =>
    have hunlocked : s.scan.state.unlocked = true := by simpa [State.raw] using hraw
    simp [h .scanUnlocked rfl hi hunlocked]
  | interlockOpen =>
    have hopen : x = true := by rw [setInterlock_eq] at hraw; exact hraw
    simp [hi, hopen, TriggerMode.fires]
  | _ => cases hlevel

/-! ## The Scan Timing Unit (R86, R90 to R99) -/

/-- A change of the scan unit in the same scanner state. -/
theorem levelsStick_setScan (h : LevelsStick s) (x : ScanUnit) (hx : x.state = s.scan.state) :
    LevelsStick (s.setScan x) :=
  have hrest : LevelsRest s (s.setScan x) := ⟨rfl, hx, rfl, rfl⟩
  hrest.keeps h

theorem levelsRest_abortFrame (s : State) (c : FaultCause) : LevelsRest s (s.abortFrame c) := by constructor <;> simp

theorem levelsRest_takePulse (s : State) (out : Bool) : LevelsRest s (s.takePulse out) := by constructor <;> simp

theorem levelsStick_seek (h : LevelsStick s) : LevelsStick s.seek := by
  unfold State.seek
  exact levelsStick_setScanState (levelsStick_setScan h _ (by rfl)) _

theorem levelsStick_slip (h : LevelsStick s) : LevelsStick s.slip := by
  have hraised : LevelsRest s.seek (slipRaised s) := by constructor <;> simp [slipRaised]
  rw [slip_eq]
  exact (hraised.trans (levelsRest_abortFrame _ _)).keeps (levelsStick_seek h)

theorem levelsStick_applyJudgement (h : LevelsStick s) (j : Judgement) : LevelsStick (s.applyJudgement j) := by
  have hto := applyJudgement_to s j
  generalize s.applyJudgement j = a at hto ⊢
  cases hto with
  | stays x hx => exact levelsStick_setScan h x hx
  | changes x hx y => exact levelsStick_setScanState (levelsStick_setScan h x hx) y
  | loses x hx =>
    exact (levelsRest_abortFrame _ _).keeps (levelsStick_setScanState (levelsStick_setScan h x hx) _)

theorem levelsStick_acceptSos (h : LevelsStick s) : LevelsStick s.acceptSos := by
  have hmeasured : LevelsStick s.measure := by
    unfold State.measure
    exact levelsStick_setScan h _ (by rfl)
  dsimp only [State.acceptSos, State.countFacet]
  split
  · split
    · exact (levelsRest_takePulse _ _).keeps (levelsStick_slip hmeasured)
    · exact (levelsRest_takePulse _ _).keeps (levelsStick_applyJudgement (levelsStick_setScan hmeasured _ (by rfl)) _)
  · exact (levelsRest_takePulse _ _).keeps hmeasured

theorem levelsStick_takeHome (h : LevelsStick s) : LevelsStick s.takeHome := by
  have hprimed : LevelsStick s.primeFacets := by
    unfold State.primeFacets
    exact levelsStick_setScanState (levelsStick_setScan h _ (by rfl)) _
  have hmarked : LevelsStick (s.setScan { s.scan with homeMark := true }) := levelsStick_setScan h _ (by rfl)
  have hslip := levelsStick_slip h
  unfold State.takeHome
  repeat' split
  all_goals assumption

theorem levelsStick_fallSilent (h : LevelsStick s) : LevelsStick s.fallSilent := by
  have hsilent : LevelsStick (s.setScan { s.scan with lastSos := none }) := levelsStick_setScan h _ (by rfl)
  dsimp only [State.fallSilent]
  split
  · exact (levelsRest_abortFrame _ _).keeps (levelsStick_seek hsilent)
  · exact hsilent

theorem levelsStick_scanApplied (h : LevelsStick s) : LevelsStick s.scanApplied.1 := by
  have happlied : LevelsStick s.applyScan := by
    unfold State.applyScan
    exact levelsStick_setScanState (levelsStick_setScan (levelsStick_setScan h _ (by rfl)) _ (by rfl)) _
  unfold State.scanApplied
  split
  · exact h
  · exact h
  · exact happlied

/-! ## Every step -/

theorem levelsStick_after {dt : Nat} {body : State → Result} (h : s.after dt body = .next t) (hs : LevelsStick s)
    (hb : ∀ v, LevelsStick v → body v = .next t → LevelsStick t) : LevelsStick t :=
  hb _ ((levelsRest_setNow s _).keeps hs) (State.after_next h).2

theorem levelsStick_runCommand {dt : Nat} {c : Cmd} {effect : State → Word → State × CmdOutcome}
    (h : s.runCommand dt c effect = .next t) (hs : LevelsStick s)
    (he : ∀ v w, LevelsStick v → LevelsStick (effect v w).1) : LevelsStick t := by
  obtain ⟨-, b, -, -, -, -, -, -, hbody⟩ := State.place_next h
  split at hbody
  · split at hbody <;> cases hbody
    have hstored := ((levelsRest_taken s (s.now + dt)).trans (levelsRest_storeBeat _ b)).keeps hs
    exact (levelsRest_recordCommand _ _ _ _).keeps (he _ b.data hstored)
  · cases hbody

theorem exec_keeps_levelsStick {c : Instr} (h : exec c s = .next t) (hs : LevelsStick s) : LevelsStick t := by
  cases hc : levelRow c with
  | false => exact (exec_levelsRest c hc h).keeps hs
  | true =>
    unfold exec at h
    cases c with
    | powerOn => cases h; exact levelsStick_resample _
    | rstAssert =>
      refine levelsStick_after h hs fun v _ hv => ?_
      cases hv
      exact levelsStick_resample _
    | eventSettingsWrite =>
      obtain ⟨-, b, -, -, -, -, -, -, hbody⟩ := State.place_next h
      split at hbody <;> cases hbody
      exact levelsStick_resample _
    | scanApply => exact levelsStick_runCommand h hs fun v _ hv => levelsStick_scanApplied hv
    | clearEvents => exact levelsStick_runCommand h hs fun v w _ => levelsStick_resample _
    | sos =>
      refine levelsStick_after h hs fun v hv' hv => ?_
      cases hv
      split
      · exact hv'
      · split
        · exact levelsStick_setScan hv' _ (by rfl)
        · exact levelsStick_acceptSos hv'
    | home =>
      refine levelsStick_after h hs fun v hv' hv => ?_
      cases hv
      split
      · exact hv'
      · exact levelsStick_takeHome hv'
    | silenceExpiry =>
      obtain ⟨y, -, -, hbody⟩ := State.atEnd_next h
      cases hbody
      exact levelsStick_fallSilent ((levelsRest_setNow s _).keeps hs)
    | interlockOpen =>
      refine levelsStick_after h hs fun v hv' hv => ?_
      cases hv
      have hzeroed (a : State) : LevelsRest a a.zeroDrives := ⟨rfl, rfl, rfl, rfl⟩
      exact ((hzeroed _).trans (levelsRest_abortFrame _ _)).keeps (levelsStick_setInterlock hv' true)
    | interlockClose =>
      refine levelsStick_after h hs fun v hv' hv => ?_
      cases hv
      exact levelsStick_setInterlock hv' false
    | _ => cases hc

theorem step_keeps_levelsStick (h : step s = .next t) (hs : LevelsStick s) : LevelsStick t := by
  unfold step at h
  split at h
  · cases h
    exact hs
  · exact exec_keeps_levelsStick h hs

end Sys2Proof.Safety
end

section
/-! Sources, settings and output lines, and what a change of a level source does (R102, R129, R172 to R175, R179). -/

namespace Sys2Proof.Safety

open Machine

/-! ## Settings and output lines -/

theorem isLevel_iff (i : Source) : i.isLevel = true ↔ i = .scanUnlocked ∨ i = .interlockOpen := by
  cases i <;> decide

theorem unlocked_iff (x : ScanState) : x.unlocked = true ↔ x = .seeking ∨ x = .counting ∨ x = .unsteady := by
  cases x <;> decide

/-- Bits 2i+1..2i of a word are a digit to base 4 (R175). -/
theorem modeCode_eq (w : Word) (i : Nat) : (w.extractLsb' (2 * i) 2).toNat = w.toNat / 4 ^ i % 4 := by
  simp [Nat.shiftRight_eq_div_pow, Nat.pow_mul]

theorem expo_iff (s : State) : s.expo = true ↔ s.engine.state = .leading ∨ s.engine.state = .imaging := by
  unfold State.expo
  cases s.engine.state <;> simp

theorem done_iff (s : State) : s.done = true ↔ s.engine.doneTimer ≠ none := by
  simp [State.done, Option.isSome_iff_ne_none]

theorem ident_iff (s : State) (i : Source) :
    s.ident i = true ↔ s.enabled i = true ∧ (if s.bypassed i then s.raw i else s.stuck i) = true := by
  simp [State.ident]

theorem mem_all (i : Source) : i ∈ Source.all := by cases i <;> decide

theorem attn_iff (s : State) : s.attn = true ↔ ∃ i, s.ident i = true ∧ s.attnMapped i = true := by
  simp [State.attn, mem_all]

theorem stop_iff (s : State) : s.stop = true ↔ ∃ i, s.ident i = true ∧ s.stopMapped i = true := by
  simp [State.stop, mem_all]

/-- The function code of a line (R179). -/
theorem auxCode_eq (s : State) (n : Fin 4) : s.auxCode n = (s.control.auxWords[n]).toNat % 16 := by
  simp [State.auxCode]

/-! ## Changes of a level source (R102, R173) -/

/-- The trigger modes, one by one (section 11.3). -/
theorem fires_iff (m : TriggerMode) (was now : Bool) : m.fires was now = true ↔ match m with
    | .level => now = true
    | .change => now ≠ was
    | .rise => now = true ∧ was = false
    | .fall => now = false ∧ was = true := by
  cases m with
  | level => exact Iff.rfl
  | change => exact bne_iff_ne.trans ne_comm
  | rise | fall => simp [TriggerMode.fires, and_comm]

theorem setScanState_sticky (s : State) (x : ScanState) : s.setScanState x = { s with
    scan := { s.scan with state := x }
    events := { s.events with sticky := (s.setScanState x).events.sticky } } := by
  conv_lhs => rw [setScanState_eq, setScanState_events]

theorem setInterlock_sticky (s : State) (x : Bool) : s.setInterlock x = { s with
    pins := { s.pins with interlock := x }
    events := { s.events with sticky := (s.setInterlock x).events.sticky } } := by
  unfold State.setInterlock State.levelFrom
  split <;> rfl

/-- Settles O44: the outputs by their definitions; a change of a level source by its trigger mode; and the steps by
`step_keeps_levelsStick`. -/
theorem eventOutputsFollowTheSources : Obligations.EventOutputsFollowTheSources := by
  unfold Obligations.EventOutputsFollowTheSources
  refine ⟨⟨rfl, isLevel_iff⟩, fun s i => ⟨?_, rfl, ?_, rfl, rfl, rfl, rfl⟩, fun s => ⟨expo_iff s, done_iff s⟩,
    fun s => ⟨fun x => ?_, fun x => ?_, fun x => ⟨setScanState_sticky s x, fun i hi => ?_⟩,
      fun x => ⟨setInterlock_sticky s x, fun i hi => ?_⟩, ident_iff s, attn_iff s, stop_iff s,
      fun t hs h => step_keeps_levelsStick h hs, fun n => ?_⟩⟩
  · cases i with
    | scanUnlocked =>
      show s.scan.state.unlocked = _
      cases s.scan.state <;> rfl
    | _ => rfl
  · rw [State.mode, modeCode_eq]
    rfl
  · rw [stuck_setScanState]
    simp only [decide_true, Bool.true_and, Bool.or_eq_true, and_iff_left (unlocked_iff x)]
    exact or_congr_right (fires_iff _ _ _)
  · rw [stuck_setInterlock]
    simp only [decide_true, Bool.true_and, Bool.or_eq_true]
    exact or_congr_right (fires_iff _ _ _)
  · rw [stuck_setScanState]
    simp [hi]
  · rw [stuck_setInterlock]
    simp [hi]
  · rw [← auxCode_eq]
    rfl

end Sys2Proof.Safety
end

section
/-! What a step does with the queue of commands: the two branches of `step` (logs 3, 15). -/

namespace Sys2Proof.Safety

open Machine

/-- With no command waiting the part idles. -/
theorem step_of_pending_nil {s : State} (h : s.pending = []) : step s = .next s := by
  unfold step
  rw [h]

/-- A waiting command is taken off the queue and run. -/
theorem step_of_pending_cons {s : State} {c : Instr} {rest : List Instr} (h : s.pending = c :: rest) :
    step s = exec c (s.setPending rest) := by
  unfold step
  rw [h]

/-- The queue written last is the one that stands. -/
theorem setPending_setPending (s : State) (xs ys : List Instr) : (s.setPending xs).setPending ys = s.setPending ys := rfl

/-- Settles O1: one branch of `step` for each form of the queue; the front command sees the state with the queue's
rest, whatever the queue was before. -/
theorem stepRunsFrontCommand : Obligations.StepRunsFrontCommand := by
  unfold Obligations.StepRunsFrontCommand
  refine ⟨fun c rest s => ?_, fun s h => step_of_pending_nil h⟩
  calc step (s.setPending (c :: rest))
      = exec c ((s.setPending (c :: rest)).setPending rest) := step_of_pending_cons (s.setPending_pending (c :: rest))
    _ = exec c (s.setPending rest) := by rw [setPending_setPending]

end Sys2Proof.Safety
end
